-- ==== Sys2Proof/Word.lean ====
section
/-! DEFINITION. The word types of the TS46 and the plainest arithmetic over them: bytes, the four tenants and a
record of four like things, saturating 32-bit counts, rounding to nearest, clamping, modulo differences. -/

namespace Sys2Proof

/-- One byte of the management line or of a block on the air. -/
abbrev Byte := BitVec 8

/-- The four tenants T0 to T3 (00_scope.md, Terms). -/
inductive Tenant where
  | t0 | t1 | t2 | t3
  deriving DecidableEq, Repr

/-- The tenants in index order. -/
def Tenant.all : List Tenant := [.t0, .t1, .t2, .t3]

/-- A tenant's index, 0 to 3. -/
def Tenant.index : Tenant → Nat
  | .t0 => 0 | .t1 => 1 | .t2 => 2 | .t3 => 3

/-- The tenant an index names, where it names one (0 to 3). -/
def Tenant.ofIndex : Nat → Option Tenant
  | 0 => some .t0 | 1 => some .t1 | 2 => some .t2 | 3 => some .t3 | _ => none

/-- The tenant after this one in ascending index order, wrapping from T3 to T0 (R67, R68). -/
def Tenant.next : Tenant → Tenant
  | .t0 => .t1 | .t1 => .t2 | .t2 => .t3 | .t3 => .t0

/-- Four like things, one for each of T0 to T3 (or for each of four numbered slots). -/
structure Quad (α : Type) where
  t0 : α
  t1 : α
  t2 : α
  t3 : α
  deriving DecidableEq, Repr

/-- The member for one tenant. -/
def Quad.get {α : Type} (q : Quad α) : Tenant → α
  | .t0 => q.t0 | .t1 => q.t1 | .t2 => q.t2 | .t3 => q.t3

/-- The four members with one replaced. -/
def Quad.set {α : Type} (q : Quad α) (t : Tenant) (a : α) : Quad α :=
  match t with
  | .t0 => { q with t0 := a }
  | .t1 => { q with t1 := a }
  | .t2 => { q with t2 := a }
  | .t3 => { q with t3 := a }

/-- The member an index 0 to 3 names (an index above 3 reads the last). -/
def Quad.at {α : Type} (q : Quad α) : Nat → α
  | 0 => q.t0 | 1 => q.t1 | 2 => q.t2 | _ => q.t3

/-- The member an index 0 to 3 names replaced (an index above 3 writes the last). -/
def Quad.put {α : Type} (q : Quad α) (i : Nat) (a : α) : Quad α :=
  match i with
  | 0 => { q with t0 := a }
  | 1 => { q with t1 := a }
  | 2 => { q with t2 := a }
  | _ => { q with t3 := a }

/-- The same member four times. -/
def Quad.const {α : Type} (a : α) : Quad α := ⟨a, a, a, a⟩

/-- Every member put through a function. -/
def Quad.map {α β : Type} (f : α → β) (q : Quad α) : Quad β := ⟨f q.t0, f q.t1, f q.t2, f q.t3⟩

/-- The four members made from their tenants. -/
def Quad.ofFn {α : Type} (f : Tenant → α) : Quad α := ⟨f .t0, f .t1, f .t2, f .t3⟩

/-- The members in index order. -/
def Quad.toList {α : Type} (q : Quad α) : List α := [q.t0, q.t1, q.t2, q.t3]

/-- The sum of four numbers. -/
def Quad.sum (q : Quad Nat) : Nat := q.t0 + q.t1 + q.t2 + q.t3

/-- Where the counters of every section stop: 4,294,967,295. -/
def countMax : Nat := 4294967295

/-- A 32-bit count that stops at 4,294,967,295, increased by `k`. -/
def addCount (n k : Nat) : Nat := min (n + k) countMax

/-- A 32-bit count that stops at 4,294,967,295, increased by one. -/
def bump (n : Nat) : Nat := addCount n 1

/-- A count increased by one when a condition holds. -/
def bumpIf (b : Bool) (n : Nat) : Nat := if b then bump n else n

/-- rnd(x / d) of 00_scope.md "Rounding": the nearest integer, a value exactly halfway rounded away from zero. -/
def rndDiv (x : Int) (d : Nat) : Int :=
  if 0 ≤ x then ((2 * x.natAbs + d) / (2 * d) : Nat) else -(((2 * x.natAbs + d) / (2 * d) : Nat) : Int)

/-- A quantity clamped to ±X (00_scope.md "Rounding"). -/
def clampTo (bound : Nat) (x : Int) : Int :=
  if x > bound then bound else if x < -(bound : Int) then -(bound : Int) else x

end Sys2Proof
end

