-- ==== Sys2Proof/Syntax.lean ====
section
/-! DEFINITION. The names and records the TS46's commands carry, the requests of the management line, and `Instr`: one
constructor for each row of spec/opcode_table.json. An operand that names one of a fixed set of values is an `Option`
where the spec says what a value outside the set does (`none`: the value sent names none of the set). -/

namespace Sys2Proof

/-- The two roles (00_scope.md, Roles; R175). -/
inductive Role where
  | hub | trailer
  deriving DecidableEq, Repr

/-- The quality classes C1 (best) to C5 (R146). -/
inductive QClass where
  | c1 | c2 | c3 | c4 | c5
  deriving DecidableEq, Repr

/-- The number of a class: 1 to 5. -/
def QClass.num : QClass → Nat
  | .c1 => 1 | .c2 => 2 | .c3 => 3 | .c4 => 4 | .c5 => 5

/-- The class a number names. -/
def QClass.ofNum : Nat → Option QClass
  | 1 => some .c1 | 2 => some .c2 | 3 => some .c3 | 4 => some .c4 | 5 => some .c5 | _ => none

/-- A class is at least as good as another when its number is equal or lower (00_scope.md, Names). -/
def QClass.atLeast (a b : QClass) : Bool := a.num ≤ b.num

/-- The class one worse, C5 at the end. -/
def QClass.worse : QClass → QClass
  | .c1 => .c2 | .c2 => .c3 | .c3 => .c4 | .c4 => .c5 | .c5 => .c5

/-- The candidate time references (R112). -/
inductive Source where
  | gnss | ext | link
  deriving DecidableEq, Repr

/-- The two pulse inputs (R103). -/
inductive PulseInput where
  | gnss | ext
  deriving DecidableEq, Repr

/-- The source a pulse input provides. -/
def PulseInput.source : PulseInput → Source
  | .gnss => .gnss | .ext => .ext

/-- Where a packet or an ingress entry came from (R49, R73). -/
inductive Origin where
  | tenant | test
  deriving DecidableEq, Repr

/-- A timestamp: seconds (48 bits) and whole nanoseconds (R118). -/
structure Stamp where
  sec : BitVec 48
  ns : Nat
  deriving DecidableEq, Repr

/-- The link record (R24). A profile is its number, 0 to 7. -/
structure LinkRecord where
  thresholds : Vector Nat 8
  hysteresis : Nat
  upDwell : Nat
  cap : Nat
  deriving DecidableEq, Repr

/-- The tenant record (R39). -/
structure TenantRecord where
  ingressHalt : Nat
  ingressResume : Nat
  egressHalt : Nat
  egressResume : Nat
  staleLimit : Nat
  phaseRequired : Bool
  minClass : QClass
  deliverErrored : Bool
  deriving DecidableEq, Repr

/-- One tenant's entry of the share table (R76). -/
structure Share where
  level : Nat
  share : Nat
  deriving DecidableEq, Repr

/-- The share table (R76). -/
abbrev ShareTable := Quad Share

/-- The timing record (R110). A level of `none` is NOT_USED. -/
structure TimingRecord where
  gnssLevel : Option Nat
  extLevel : Option Nat
  linkLevel : Option Nat
  pulseKp : Nat
  pulseKi : Nat
  linkKp : Nat
  linkKi : Nat
  stepThreshold : Nat
  lockWindow : Nat
  holdoverLimit : Nat
  timingPeriod : Nat
  ltx : Nat
  lrx : Nat
  asymmetry : Int
  deriving DecidableEq, Repr

/-- The pattern modes (R151). -/
inductive PatternMode where
  | bars | fixed | count
  deriving DecidableEq, Repr

/-- One pattern table entry (R151); the fill table is 16 bytes. -/
structure Pattern where
  mode : PatternMode
  bars : Nat
  barSize : Nat
  repeatSize : Nat
  fill : List Byte
  deriving DecidableEq, Repr

/-- The reserve modes of a test request (R61, R153). -/
inductive ReserveMode where
  | reserved | spare
  deriving DecidableEq, Repr

/-- The conditions of a WAIT step (R153, R161). -/
inductive WaitCond where
  | linkUp
  | timingLocked
  | sourceQualified (src : Source)
  deriving DecidableEq, Repr

/-- The kinds of step with the fields of each (R153). A profile of `none` is CURRENT. -/
inductive StepBody where
  | linkPattern (profile : Option Nat) (pattern blocks : Nat) (mode : ReserveMode)
      (lead active tail errorLimit missLimit : Nat)
  | tenantPath (tenant : Tenant) (pattern packets length errorLimit missLimit : Nat)
  | timingCross (samples limit : Nat)
  | wait (cond : WaitCond) (timeout : Nat)
  deriving DecidableEq, Repr

/-- A step of the step table (R153). -/
structure Step where
  body : StepBody
  mandatory : Bool
  deriving DecidableEq, Repr

/-- What SET_STEP carries beside its index: the indication EMPTY, a step, or a step of which the kind, the mode, the
condition, the source, the tenant or the mandatory flag is a value that names none of its set (R153). -/
inductive StepArg where
  | empty
  | step (s : Step)
  | unspelled
  deriving DecidableEq, Repr

/-- The options of RESET (R174). -/
inductive ResetOption where
  | full | warm
  deriving DecidableEq, Repr

/-- The sections GET_STATUS can name (R171). -/
inductive StatusPart where
  | link
  | timing
  | tenant (index : Nat)
  | test
  | store
  deriving DecidableEq, Repr

/-- A request of the management line by meaning: its kind and the fields of its body (R171). -/
inductive Request where
  | getId
  | setRole (role : Option Role)
  | reset (option : Option ResetOption)
  | getStatus (part : Option StatusPart)
  | setLink (r : LinkRecord)
  | setTenant (index : Nat) (r : Option TenantRecord)
  | setShares (table : ShareTable)
  | tenantActivate (index : Nat)
  | tenantDrain (index : Nat)
  | tenantOff (index : Nat)
  | getCounters (index : Nat) (clear : Bool)
  | setTiming (r : TimingRecord)
  | timeSet (sec : BitVec 48)
  | timingRestart
  | setPattern (index : Nat) (p : Option Pattern)
  | setStep (index : Nat) (arg : StepArg)
  | testStart (count : Nat) (acceptance : Bool)
  | testAbort
  | getResults
  | acceptWaive
  | storeSave (slot : Nat)
  | storeLoad (slot : Nat)
  | storeErase (slot : Nat)
  | storeBoot (slot : Option Nat)
  | storeCal (aging : Int)
  deriving DecidableEq, Repr

/-- The request kind values of 11.1. -/
def Request.kind : Request → Nat
  | .getId => 1
  | .setRole _ => 2
  | .reset _ => 3
  | .getStatus _ => 4
  | .setLink _ => 5
  | .setTenant _ _ => 6
  | .setShares _ => 7
  | .tenantActivate _ => 8
  | .tenantDrain _ => 9
  | .tenantOff _ => 10
  | .getCounters _ _ => 11
  | .setTiming _ => 12
  | .timeSet _ => 13
  | .timingRestart => 14
  | .setPattern _ _ => 15
  | .setStep _ _ => 16
  | .testStart _ _ => 17
  | .testAbort => 18
  | .getResults => 19
  | .acceptWaive => 20
  | .storeSave _ => 21
  | .storeLoad _ => 22
  | .storeErase _ => 23
  | .storeBoot _ => 24
  | .storeCal _ => 25

/-- A kind of 11.1 that the part accepts: 1 to 25. -/
def kindListed (kind : Nat) : Bool := 1 ≤ kind && kind ≤ 25

/-- One position of a received frame record: its bytes (128) and the modem's bad flag (R2). -/
structure Position where
  bytes : List Byte
  bad : Bool
  deriving DecidableEq, Repr

/-- A received frame record (R2) as the modem delivers it: the positions and the SNR sample. Its receive marker time is the
Time Base's capture of the frame's start signal (R103), which waits in the Time Base. -/
structure FrameRecord where
  positions : List Position
  snr : Nat
  deriving DecidableEq, Repr

/-- The commands of the TS46, one constructor for each row of spec/opcode_table.json. A request row carries its tag
and the fields of its body. `elapsed` is the advance of local time, in half nanoseconds, from the moment local time
stands at to the event. -/
inductive Instr where
  | powerReset
  | pinReset
  | commandFullReset
  | commandWarmReset
  | frameStart
  | receivedFrameRecord (r : FrameRecord)
  | receiveMarkerCapture (elapsed : Nat)
  | absentFrame
  | tenantPacketArrival (t : Tenant) (bad : Bool) (bytes : List Byte)
  | holdInput (t : Tenant) (asserted : Bool)
  | deliveryEnd (t : Tenant)
  | secondBoundary
  | pulse (input : PulseInput) (elapsed : Nat)
  | absenceExpiry (input : PulseInput)
  | staleRemoval (t : Tenant)
  | syncDue
  | exchangeTimeout
  | linkSupervisionExpiry
  | holdoverLimit
  | holdoverAging
  | leadEnd
  | activeEnd
  | tailEnd
  | reportWaitExpiry
  | waitTimeout
  | timingCrossTimeout
  | managementFrame (bytes : List Byte)
  | gapExpiry
  | outgoingFrameEnd
  | erasingEnd
  | storeOperationEnd
  | unknownKind (tag kind : Byte)
  | getId (tag : Byte)
  | setRole (tag : Byte) (role : Option Role)
  | resetFull (tag : Byte)
  | resetWarm (tag : Byte)
  | getStatusLink (tag : Byte)
  | getStatusTiming (tag : Byte)
  | getStatusTenant (tag : Byte) (index : Nat)
  | getStatusTest (tag : Byte)
  | getStatusStore (tag : Byte)
  | setLink (tag : Byte) (r : LinkRecord)
  | setTenant (tag : Byte) (index : Nat) (r : Option TenantRecord)
  | tenantActivate (tag : Byte) (index : Nat)
  | tenantDrain (tag : Byte) (index : Nat)
  | tenantOff (tag : Byte) (index : Nat)
  | setShares (tag : Byte) (table : ShareTable)
  | getCounters (tag : Byte) (index : Nat) (clear : Bool)
  | setTiming (tag : Byte) (r : TimingRecord)
  | timeSet (tag : Byte) (sec : BitVec 48)
  | timingRestart (tag : Byte)
  | setPattern (tag : Byte) (index : Nat) (p : Option Pattern)
  | setStep (tag : Byte) (index : Nat) (arg : StepArg)
  | testStart (tag : Byte) (count : Nat) (acceptance : Bool)
  | testAbort (tag : Byte)
  | getResults (tag : Byte)
  | acceptWaive (tag : Byte)
  | storeSave (tag : Byte) (slot : Nat)
  | storeLoad (tag : Byte) (slot : Nat)
  | storeErase (tag : Byte) (slot : Nat)
  | storeBoot (tag : Byte) (slot : Option Nat)
  | storeCal (tag : Byte) (aging : Int)
  | strayByte (b : Byte)
  deriving DecidableEq, Repr

end Sys2Proof
end

