-- ==== Sys2Proof/Decode.lean ====
section
/-! DEFINITION. The opcode table of this block gives no row any bits (its rows are events and requests, and Section 11
gives the request kinds of the management line, which the frame receiver of Machine/Management.lean reads). So no word
of the table spells a command. -/

/-- The command that a word spells by the table's bits: none, since no row of spec/opcode_table.json gives bits. -/
def Sys2Proof.decodeTableWord (_nbits _w : Nat) : Option Sys2Proof.Instr := none
end

