-- ==== Sys2Proof/Config.lean ====
section
/-! DEFINITION. What is fixed for the part: the block counts of the profiles, the default records, the limits of the
fields, the identification, and the FREE VALUES, which the spec leaves open (opaque: no proof can see them). -/

namespace Sys2Proof.Config

/-- The blocks per frame of each profile (R6); a number above 7 names no profile and has no blocks. -/
def blocksOf : Nat → Nat
  | 0 => 10 | 1 => 20 | 2 => 32 | 3 => 48 | 4 => 64 | 5 => 80 | 6 => 100 | 7 => 120 | _ => 0

/-- The bytes of a block on the air (R1). -/
def blockBytes : Nat := 128

/-- The data bytes of a TENANT block (R73). -/
def segmentBytes : Nat := 120

/-- The capacity limits of a queue and of an egress buffer: 1,024 blocks in 256 entries (R50, R89). -/
def maxBlocks : Nat := 1024

/-- See `maxBlocks`. -/
def maxEntries : Nat := 256

/-- The default link record (R24). -/
def defaultLink : LinkRecord :=
  { thresholds := #v[0, 36, 48, 62, 76, 92, 108, 124], hysteresis := 8, upDwell := 4000, cap := 7 }

/-- The default tenant record (R39). -/
def defaultTenant : TenantRecord :=
  { ingressHalt := 768, ingressResume := 512, egressHalt := 512, egressResume := 256, staleLimit := 800,
    phaseRequired := false, minClass := .c3, deliverErrored := false }

/-- The default share table: every level 0 and every committed share 0 (R76). -/
def defaultShares : ShareTable := Quad.const { level := 0, share := 0 }

/-- The default timing record (R110). -/
def defaultTiming : TimingRecord :=
  { gnssLevel := some 0, extLevel := some 1, linkLevel := some 2, pulseKp := 512, pulseKi := 16, linkKp := 256,
    linkKi := 2, stepThreshold := 1000, lockWindow := 100, holdoverLimit := 14400, timingPeriod := 512,
    ltx := 0, lrx := 0, asymmetry := 0 }

/-- The cleared pattern entry (R151). -/
def clearedPattern : Pattern :=
  { mode := .fixed, bars := 1, barSize := 1, repeatSize := 1, fill := List.replicate 16 0 }

/-- The identification text (R175). -/
def identification : String := "SATHELON UGMIRA TS46"

/-- The silicon revision number (R175). -/
def siliconRevision : Nat := 1

/-- The bound on F, F_hold and S in ppt (R100, R138). -/
def steerBound : Nat := 2000000

/-- The bound on the aging rate in ppt per day (R177). -/
def agingBound : Nat := 100000

/-- Half nanoseconds in a second of local time. -/
def halfPerSecond : Nat := 2000000000

/-- Half nanoseconds between frame boundaries: 125 µs (R3). -/
def halfPerFrame : Nat := 250000

/-- 1.5 s in half nanoseconds: the absence supervision of the pulse inputs (R108). -/
def halfPerAbsence : Nat := 3000000000

/-- FREE VALUE (log entry 6): what the body of a request kind with fields spells. Section 11 gives no layout of request
bodies, so the reading of a body is left open; `none` is a body length the kind does not permit. -/
opaque requestBody : (kind : Nat) → (body : List Byte) → Option Request

/-- FREE VALUE (log entry 7): byte `k` of the `n`-th position that the modem failed to deliver. R2 treats a missing
position as a block flagged bad and does not say what bytes it holds. -/
opaque missingByte : (n k : Nat) → Byte

/-- FREE VALUE (log entry 9): the seconds and the multiple of 4 ns of the receive marker time of the `n`-th good record
for whose frame the modem signalled no start. R2 gives every record a marker and does not say what it holds then. -/
opaque uncapturedMarker : (n : Nat) → BitVec 48 × Nat

/-- FREE VALUE (log entry 33): the 32-bit field of a TEST_REPORT for a count of 4,294,967,296 or more. The counts of the
check record have no stated stop, and 11.6 sends each in 32 bits. -/
opaque wideCount : Nat → Nat

/-- The free marker time of a record without a capture, within the limits of every marker: a multiple of 4 ns within the
second (R103). -/
def freeMarker (n : Nat) : Stamp :=
  { sec := (uncapturedMarker n).1, ns := (uncapturedMarker n).2 % 250000000 * 4 }

/-- The 128 free bytes of a missing position. -/
def missingBlock (n : Nat) : List Byte := (List.range blockBytes).map (missingByte n)

end Sys2Proof.Config
end

