-- ==== Sys2Proof/Machine/State.lean ====
section
/-! DEFINITION. The state of the TS46 as plain data, block by block (00_scope.md, Block overview), the replies and
notices of the management line, the reasons a step can stop (none is used: every command of this block has an effect),
and the state after a first POWER reset. A field named "model" in its comment is the model's own, not the spec's. -/

namespace Sys2Proof.Machine

/-! ## The Radio Port, the Link Transmitter and the Link Receiver (01) -/

/-- The link states (1.5). -/
inductive LinkState where
  | down | acquire | up
  deriving DecidableEq, Repr

/-- The causes of a LINK notice (R18). -/
inductive LinkCause where
  | firstHeader | acquired | lostInAcquire | lost64 | reset
  deriving DecidableEq, Repr

/-- The control block kinds (R8, R183). -/
inductive ControlKind where
  | sync | delayReq | delayResp | testReport
  deriving DecidableEq, Repr

/-- The link counters (R22). -/
structure LinkCounters where
  received : Nat
  goodHeaders : Nat
  lostFlagged : Nat
  lostCrc : Nat
  lostInconsistent : Nat
  absent : Nat
  controlDiscarded : Nat
  tenantDiscarded : Nat
  losses : Nat
  deriving DecidableEq, Repr

/-- A transmit frame as handed to the Radio Port (R1): its start time and its blocks of 128 bytes each. -/
structure TxFrame where
  start : Stamp
  blocks : List (List Byte)
  deriving DecidableEq, Repr

/-- The Link Transmitter and the Link Receiver (R22, R23). -/
structure LinkUnit where
  state : LinkState
  good : Nat
  lost : Nat
  rxXoff : Quad Bool
  farReq : Nat
  farForce : Bool
  farEnd : Option (BitVec 16)
  lastSeq : Option (BitVec 16)
  counters : LinkCounters
  /-- Model: frame starts since the last record taken, at most 2 (R13). -/
  startsSince : Nat
  /-- Model: a frame start found no record in two frame periods, and its absent frame is not yet registered (R13). -/
  absenceDue : Bool
  txProfile : Nat
  reqSent : Nat
  forceSent : Bool
  xoffSent : Quad Bool
  txSeq : BitVec 16
  frameCounter : BitVec 32
  frame : Option TxFrame
  deriving DecidableEq, Repr

/-! ## The Profile Ladder (02) -/

/-- The causes of a PROFILE notice (R35). -/
inductive ProfileCause where
  | recommendDown | recommendUp | linkDown | reset | txChange | forceSet | forceRemoved
  deriving DecidableEq, Repr

/-- The ladder counters (R36). -/
structure LadderCounters where
  downSteps : Nat
  upSteps : Nat
  capped : Nat
  belowRequested : Nat
  deriving DecidableEq, Repr

/-- The Profile Ladder (R24, R27 to R31, R36). `confirm` holds the held sample exactly when the down-confirm count is 1. -/
structure Ladder where
  record : LinkRecord
  rp : Nat
  dwell : Nat
  confirm : Option Nat
  forced : Option Nat
  lastSample : Option Nat
  counters : LadderCounters
  deriving DecidableEq, Repr

/-! ## The Frame Planner (04) -/

/-- What a frame start gives one tenant (R63, R66, R67). -/
structure TenantPlan where
  offer : Nat
  demand : Nat
  committed : Nat
  grant : Nat
  deriving DecidableEq, Repr

/-- The plan of a frame start (R62) and what status keeps of it (R79). -/
structure Plan where
  blocks : Nat
  controls : List ControlKind
  request : Option (ReserveMode × Nat)
  testBlocks : Nat
  capacity : Nat
  tenants : Quad TenantPlan
  idle : Nat
  spareLeft : Nat
  deriving DecidableEq, Repr

/-- The planner counters (R80). -/
structure PlannerCounters where
  planned : Nat
  plannedUp : Nat
  reserveLimited : Nat
  spareShort : Nat
  idleBlocks : Nat
  committed : Quad Nat
  spare : Quad Nat
  xoffHeld : Quad Nat
  deriving DecidableEq, Repr

/-- The Frame Planner (R61): one rotation pointer for each level 0 to 7. -/
structure Planner where
  shares : ShareTable
  pointers : Vector Tenant 8
  last : Option (BitVec 32 × Plan)
  counters : PlannerCounters
  deriving DecidableEq, Repr

/-! ## The Tenant Units (03, 05, 6.6) -/

/-- The tenant states (3.2). -/
inductive TenantState where
  | off | pending | active | draining
  deriving DecidableEq, Repr

/-- The causes of a TENANT notice (R47, R89, R115). -/
inductive TenantCause where
  | recordSet | activated | drainStarted | drained | offRequest | loaded | reset
  | egressOverrun | squelched | unsquelched
  deriving DecidableEq, Repr

/-- One entry of an ingress queue (R49). -/
structure Entry where
  seq : BitVec 16
  length : Nat
  total : Nat
  sent : Nat
  arrival : BitVec 32
  origin : Origin
  run : Option (BitVec 16)
  step : Option Nat
  data : List Byte
  deriving DecidableEq, Repr

/-- The ingress counters (R56). -/
structure IngressCounters where
  packets : Nat
  blocks : Nat
  bad : Nat
  lengthErrors : Nat
  refused : Nat
  overrun : Nat
  testTaken : Nat
  staleRemovals : Nat
  testAged : Nat
  flushed : Nat
  packetsSent : Nat
  blocksSent : Nat
  pauses : Nat
  deriving DecidableEq, Repr

/-- A packet in progress of a reassembly record (R82). For origin TENANT `data` holds the bytes received so far; for
origin TEST it holds the 24 descriptor bytes, and `differing` is the check state's count (R86). -/
structure Packet where
  length : Nat
  total : Nat
  received : Nat
  errored : Bool
  origin : Origin
  data : List Byte
  differing : Nat
  deriving DecidableEq, Repr

/-- One entry of an egress buffer (R90). -/
structure EgressEntry where
  length : Nat
  blocks : Nat
  errored : Bool
  data : List Byte
  deriving DecidableEq, Repr

/-- The egress counters (R96). -/
structure EgressCounters where
  blocks : Nat
  badBlocks : Nat
  gaps : Nat
  lossesGap : Nat
  lossesRestart : Nat
  descriptorErrors : Nat
  orphans : Nat
  testToChecker : Nat
  discardedOff : Nat
  erroredDiscarded : Nat
  erroredBuffered : Nat
  overruns : Nat
  delivered : Nat
  erroredDelivered : Nat
  aborted : Nat
  flushed : Nat
  xoffs : Nat
  deriving DecidableEq, Repr

/-- The time record a tenant port emits at a second boundary (R114). -/
structure TimeRecord where
  sec : BitVec 48
  cls : QClass
  deriving DecidableEq, Repr

/-- One Tenant Unit: ingress (R39 to R54, R73), egress (R82 to R94) and timing output (R114 to R116). -/
structure TenantUnit where
  record : TenantRecord
  state : TenantState
  queue : List Entry
  nextSeq : BitVec 16
  paused : Bool
  ingress : IngressCounters
  blockSeq : BitVec 8
  /-- Model: STALE_REMOVAL has changed the occupancy ahead of the frame start that judges it (R53, R158). -/
  agedEarly : Bool
  expected : Option (BitVec 8)
  packet : Option Packet
  egress : List EgressEntry
  /-- The in-delivery mark of the head entry (R91). -/
  delivering : Bool
  /-- The level at the hold input (R91). -/
  hold : Bool
  /-- The hold input as last sampled (R92, R96). -/
  holdSeen : Bool
  /-- The errored mark as the port shows it for the delivery begun or ended last (R91, R93, R97). -/
  portErrored : Bool
  xoff : Bool
  egressCounters : EgressCounters
  squelched : Bool
  secondsEmitted : Nat
  secondsSquelched : Nat
  /-- The timing output of the last second boundary: the pulse with its time record, or nothing (R114). -/
  timingOut : Option TimeRecord
  deriving DecidableEq, Repr

/-! ## The Time Base, the Time Transfer Unit and the Servo (06, 07, 08) -/

/-- Local time (R98) at the 0.5 ns resolution of a capture (R103): seconds, and half nanoseconds within the second. -/
structure LocalTime where
  sec : BitVec 48
  half : Nat
  deriving DecidableEq, Repr

/-- The source states (R105, R129). -/
inductive SourceState where
  | absent | qualifying | qualified | faulted
  deriving DecidableEq, Repr

/-- The qualifier counters (R116). -/
structure QualifierCounters where
  pulses : Nat
  good : Nat
  badIntervals : Nat
  spurious : Nat
  absences : Nat
  faults : Nat
  deriving DecidableEq, Repr

/-- The qualifier record of a pulse input (R105). The reference and the last pulse are advance readings in half ns. -/
structure Qualifier where
  state : SourceState
  reference : Option Nat
  lastPulse : Option Nat
  good : Nat
  bad : Nat
  lastM : Option Int
  lastCapture : Option LocalTime
  counters : QualifierCounters
  deriving DecidableEq, Repr

/-- The Time Base (06). -/
structure TimeBase where
  now : LocalTime
  pendingSet : Option (BitVec 48)
  steer : Int
  /-- The advance reading in half ns (R103). -/
  advance : Nat
  /-- Model: local time stands on a frame boundary reached by advance whose frame has not started (R3). -/
  frameHere : Bool
  /-- Model: local time stands on a second boundary reached by advance whose event has not been taken (R98). -/
  secondHere : Bool
  /-- The receive marker times captured for frames whose records have not been delivered yet, oldest first (R2, R103). -/
  markers : List Stamp
  gnss : Qualifier
  ext : Qualifier
  record : TimingRecord
  deriving DecidableEq, Repr

/-- An entry of the HUB's response list (R120). -/
structure Response where
  seq : BitVec 16
  t4 : Stamp
  deriving DecidableEq, Repr

/-- An entry of the TRAILER's exchange table (R122). -/
structure Exchange where
  seq : BitVec 16
  t1 : Stamp
  t2 : Stamp
  t3 : Option Stamp
  t4 : Option Stamp
  frame : BitVec 32
  deriving DecidableEq, Repr

/-- The last o, d, a and b of the LINK source record (R129). -/
structure LinkResult where
  o : Int
  d : Int
  a : Int
  b : Int
  deriving DecidableEq, Repr

/-- The LINK source record (R129). The last measurement carries its W. -/
structure LinkSource where
  state : SourceState
  accepted : Nat
  previous : Option Int
  since : Nat
  hubClass : Option QClass
  lastM : Option (Int × Int)
  result : Option LinkResult
  /-- Model: a frame start has brought `since` to 8 times the timing period, and LINK has not gone ABSENT yet (R130). -/
  expiryDue : Bool
  deriving DecidableEq, Repr

/-- The transfer counters (R134). -/
structure TransferCounters where
  syncSent : Nat
  respSent : Nat
  reqTaken : Nat
  duplicates : Nat
  listFull : Nat
  responsesAbandoned : Nat
  syncTaken : Nat
  reqSent : Nat
  displaced : Nat
  timeouts : Nat
  entriesAbandoned : Nat
  unmatched : Nat
  completed : Nat
  rejected : Nat
  delayJumps : Nat
  disqualified : Nat
  deriving DecidableEq, Repr

/-- The Time Transfer Unit (07). -/
structure Transfer where
  countdown : Nat
  syncSeq : BitVec 16
  responses : List Response
  exchanges : List Exchange
  link : LinkSource
  counters : TransferCounters
  deriving DecidableEq, Repr

/-- The timing states of the Servo (8.2). -/
inductive TimingState where
  | freerun | acquiring | locked | holdover
  deriving DecidableEq, Repr

/-- The causes of a TIMING notice (R148), in the order of its table. -/
inductive TimingCause where
  | sourceState | sourceChange | stateChange | classChange | step | restart
  deriving DecidableEq, Repr

/-- The Servo counters (R149). -/
structure ServoCounters where
  acted : Nat
  ignored : Nat
  inputClamped : Nat
  steps : Nat
  fullSets : Nat
  fClamped : Nat
  sClamped : Nat
  lockEntries : Nat
  unlockEvents : Nat
  holdoverEntries : Nat
  agingSteps : Nat
  deriving DecidableEq, Repr

/-- The Servo (08). S is the Time Base's `steer`. -/
structure Servo where
  state : TimingState
  selected : Option Source
  f : Int
  fHold : Int
  everLocked : Bool
  lock : Nat
  unlock : Nat
  elapsed : Nat
  lockedTime : Nat
  cls : QClass
  lastE : Option (Int × Source)
  counters : ServoCounters
  /-- Model: a second boundary has made a holdover aging step due, and it is not taken yet (R145). -/
  agingDue : Bool
  deriving DecidableEq, Repr

/-- The timing blocks of the part together. -/
structure Timing where
  base : TimeBase
  xfer : Transfer
  servo : Servo
  deriving DecidableEq, Repr

/-! ## The Test Controller (09) -/

/-- The run states (R154, R168). -/
inductive RunState where
  | idle | running | done
  deriving DecidableEq, Repr

/-- The acceptance record (R167). -/
inductive Acceptance where
  | none | passed | failed | waived
  deriving DecidableEq, Repr

/-- The outcomes of a step (R155). -/
inductive Verdict where
  | pass | fail | aborted | skipped
  deriving DecidableEq, Repr

/-- The end reasons of a step (R155). -/
inductive EndReason where
  | none | limitExceeded | noReport | linkNotUp | linkLost | tenantState | role | sourceNotQualified | sourceLost
  | timeout | abortRequest | warmReset | mandatoryFailed | runAborted
  deriving DecidableEq, Repr

/-- The step kinds (R153). -/
inductive StepKind where
  | linkPattern | tenantPath | timingCross | wait
  deriving DecidableEq, Repr

/-- The phases of a running step (R156 to R161). -/
inductive Phase where
  | lead | active | tail | awaitReport | waiting
  deriving DecidableEq, Repr

/-- A TEST_REPORT (R164, 11.6). -/
structure Report where
  run : BitVec 16
  step : Nat
  blocks : Nat
  erroredBlocks : Nat
  erroredBytes : Nat
  missing : Nat
  packets : Nat
  erroredPackets : Nat
  deriving DecidableEq, Repr

/-- The current step of a run with its phase and its working counts (R156 to R161). -/
structure Working where
  index : Nat
  step : Step
  phase : Phase
  /-- Frame starts remaining in the phase (R156, R157). -/
  remaining : Nat
  pattern : Pattern
  blocksSent : Nat
  lowest : Option Nat
  made : Nat
  sent : Nat
  aged : Nat
  injectPause : Bool
  report : Option Report
  samples : Nat
  sum : Int
  /-- Second-boundary events remaining (R160, R161). -/
  deadline : Nat
  waited : Nat
  deriving DecidableEq, Repr

/-- The counts of a results record, by kind (R166). -/
inductive StepCounts where
  | linkPattern (sent : Nat) (report : Option Report) (lowest : Option Nat)
  | tenantPath (made sent aged : Nat) (report : Option Report)
  | timingCross (samples : Nat) (mean : Option Int)
  | wait (seconds : Nat)
  deriving DecidableEq, Repr

/-- A record of the results log (R166). -/
structure ResultRecord where
  index : Nat
  kind : StepKind
  mandatory : Bool
  verdict : Verdict
  reason : EndReason
  counts : StepCounts
  deriving DecidableEq, Repr

/-- The check record (R162). -/
structure CheckRecord where
  run : BitVec 16
  step : Nat
  blocks : Nat
  erroredBlocks : Nat
  erroredBytes : Nat
  missing : Nat
  lastSeq : Option Nat
  packets : Nat
  erroredPackets : Nat
  reported : Bool
  deriving DecidableEq, Repr

/-- The causes of a TEST notice (R155, R167). -/
inductive TestCause where
  | stepEnd | runEnd | waived
  deriving DecidableEq, Repr

/-- The counters of 9.7. -/
structure TestCounters where
  runs : Nat
  blocksSent : Nat
  entriesRemoved : Nat
  reportsSent : Nat
  reportsReplaced : Nat
  unmatchedReports : Nat
  unassignedBad : Nat
  deriving DecidableEq, Repr

/-- The Test Controller (09). -/
structure TestUnit where
  patterns : Quad Pattern
  steps : Vector (Option Step) 16
  runState : RunState
  runId : BitVec 16
  count : Nat
  flag : Bool
  work : Option Working
  results : List ResultRecord
  check : Option CheckRecord
  report : Option Report
  acceptance : Acceptance
  counters : TestCounters
  deriving DecidableEq, Repr

/-! ## The Settings Store (10.5) -/

/-- What a plan slot holds beside its validity mark (R177). -/
structure Settings where
  role : Option Role
  link : LinkRecord
  tenants : Quad TenantRecord
  shares : ShareTable
  timing : TimingRecord
  patterns : Quad Pattern
  deriving DecidableEq, Repr

/-- A plan slot (R177). -/
structure PlanSlot where
  valid : Bool
  settings : Settings
  deriving DecidableEq, Repr

/-- The calibration slot (R177). -/
structure CalSlot where
  valid : Bool
  frequency : Int
  aging : Int
  deriving DecidableEq, Repr

/-- The store operations with what each carries (R178). -/
inductive StoreOpKind where
  | save (slot : Nat) (settings : Settings)
  | erase (slot : Nat)
  | boot (slot : Option Nat)
  | cal (frequency aging : Int)
  deriving DecidableEq, Repr

/-- The name of a store operation as it is reported: its kind and slot (R176, R182). -/
inductive StoreOpName where
  | save (slot : Nat)
  | erase (slot : Nat)
  | boot (slot : Option Nat)
  | cal
  deriving DecidableEq, Repr

/-- The stages of a store operation (R177). -/
inductive StoreStage where
  | erasing | programming
  deriving DecidableEq, Repr

/-- The operation in flight; `taken` is the advance reading when it was taken (R182, milliseconds remaining). -/
structure StoreOp where
  kind : StoreOpKind
  stage : StoreStage
  taken : Nat
  deriving DecidableEq, Repr

/-- The store states (R177). -/
inductive StoreState where
  | ready | erasing | programming
  deriving DecidableEq, Repr

/-- The Settings Store; no operation in flight is READY (R177). -/
structure Store where
  plan : Quad PlanSlot
  cal : CalSlot
  bootMark : Option Nat
  op : Option StoreOp
  deriving DecidableEq, Repr

/-- The causes of a STORE notice (R180). -/
inductive StoreCause where
  | saved | erased | bootSet | calWritten | loaded
  deriving DecidableEq, Repr

/-! ## Replies, notices and the Management Port (10) -/

/-- The reset kinds (00_scope.md). -/
inductive ResetCause where
  | power | pin | commandFull | commandWarm
  deriving DecidableEq, Repr

/-- The reply statuses (00_scope.md). -/
inductive Status where
  | ok | adjusted | unknownKind | badLength | badValue | wrongState | busy | onceOnly | storeFault
  deriving DecidableEq, Repr

/-- The line counters (R169, R170). -/
structure LineCounters where
  stray : Nat
  gap : Nat
  length : Nat
  check : Nat
  full : Nat
  deriving DecidableEq, Repr

/-- The content of a LINK notice (R18). -/
structure LinkNotice where
  new : LinkState
  previous : LinkState
  cause : LinkCause
  frameCounter : BitVec 32
  deriving DecidableEq, Repr

/-- The content of a PROFILE notice (R35). -/
structure ProfileNotice where
  cause : ProfileCause
  rp : Nat
  txProfile : Nat
  reqSent : Nat
  forceSent : Bool
  forced : Option Nat
  farReq : Nat
  farForce : Bool
  cap : Nat
  lastSample : Option Nat
  frameCounter : BitVec 32
  deriving DecidableEq, Repr

/-- What a TENANT notice adds for an egress overrun (R89) or a squelch change (R115). -/
inductive TenantExtra where
  | plain
  | overrun (blocks entries length : Nat) (xoff : Bool)
  | squelch (cls minimum : QClass) (sec : BitVec 48)
  deriving DecidableEq, Repr

/-- The content of a TENANT notice (R47). -/
structure TenantNotice where
  index : Nat
  new : TenantState
  previous : TenantState
  cause : TenantCause
  blocks : Nat
  entries : Nat
  paused : Bool
  frameCounter : BitVec 32
  extra : TenantExtra
  deriving DecidableEq, Repr

/-- The content of a TIMING notice (R148). -/
structure TimingNotice where
  cause : TimingCause
  state : TimingState
  previousState : TimingState
  selected : Option Source
  previousSelected : Option Source
  cls : QClass
  previousCls : QClass
  gnss : SourceState
  ext : SourceState
  link : SourceState
  everLocked : Bool
  f : Int
  fHold : Int
  steer : Int
  elapsed : Nat
  time : LocalTime
  deriving DecidableEq, Repr

/-- The content of a TEST notice (R155); the step fields are those of the last record of the log, where there is one. -/
structure TestNotice where
  cause : TestCause
  runId : BitVec 16
  runState : RunState
  last : Option (Nat × StepKind × Verdict × EndReason)
  records : Nat
  acceptance : Acceptance
  deriving DecidableEq, Repr

/-- The content of a BOOT notice (R176). The abandoned operation is named by kind and slot. -/
structure BootNotice where
  cause : ResetCause
  applied : Option Nat
  invalid : Option Nat
  role : Option Role
  calValid : Bool
  abandoned : Option StoreOpName
  deriving DecidableEq, Repr

/-- The slot or mark a store operation concerns (R180, R182). -/
inductive StoreSubject where
  | plan (slot : Nat)
  | calibration
  | bootMark
  deriving DecidableEq, Repr

/-- The content of a STORE notice (R180). -/
structure StoreNotice where
  cause : StoreCause
  subject : StoreSubject
  state : StoreState
  valid : Quad Bool
  calValid : Bool
  bootMark : Option Nat
  deriving DecidableEq, Repr

/-- The content of a notice, by kind (R173). -/
inductive NoticeContent where
  | boot (c : BootNotice)
  | link (c : LinkNotice)
  | timing (c : TimingNotice)
  | tenant (c : TenantNotice)
  | test (c : TestNotice)
  | store (c : StoreNotice)
  | profile (c : ProfileNotice)
  deriving DecidableEq, Repr

/-- The ten notice kinds (R173). -/
inductive NoticeKind where
  | boot | link | timing | tenant (t : Tenant) | test | store | profile
  deriving DecidableEq, Repr

/-- A pending notice slot: the latest content and the merge count (R173). -/
structure PendingNotice where
  content : NoticeContent
  merge : Nat
  deriving DecidableEq, Repr

/-- The ten notice slots; `none` is clear (R173). -/
structure NoticeSlots where
  boot : Option PendingNotice
  link : Option PendingNotice
  timing : Option PendingNotice
  tenant : Quad (Option PendingNotice)
  test : Option PendingNotice
  store : Option PendingNotice
  profile : Option PendingNotice
  deriving DecidableEq, Repr

/-- The link status record (R22, R36, R79, R80). -/
structure LinkStatus where
  role : Option Role
  state : LinkState
  good : Nat
  lost : Nat
  txProfile : Nat
  reqSent : Nat
  farReq : Nat
  rxXoff : Quad Bool
  xoffSent : Quad Bool
  farEnd : Option (BitVec 16)
  lastSeq : Option (BitVec 16)
  txSeq : BitVec 16
  frameCounter : BitVec 32
  counters : LinkCounters
  record : LinkRecord
  rp : Nat
  dwell : Nat
  confirm : Option Nat
  forced : Option Nat
  farForce : Bool
  lastSample : Option Nat
  ladder : LadderCounters
  shares : ShareTable
  pointers : Vector Tenant 8
  lastPlan : Option (BitVec 32 × Plan)
  planner : PlannerCounters
  deriving DecidableEq, Repr

/-- One tenant's part of the timing status record (R116). -/
structure SquelchStatus where
  squelched : Bool
  emitted : Nat
  squelchedCount : Nat
  deriving DecidableEq, Repr

/-- One pulse input's part of the timing status record (R116). -/
structure PulseStatus where
  state : SourceState
  good : Nat
  bad : Nat
  lastM : Option Int
  lastCapture : Option LocalTime
  counters : QualifierCounters
  deriving DecidableEq, Repr

/-- The transfer part of the timing status record, by role (R134). -/
inductive TransferStatus where
  | noRole
  | hub (syncSeq : BitVec 16) (countdown : Nat) (responses : List Response)
  | trailer (exchanges : List Exchange) (state : SourceState) (accepted : Nat) (previous : Option Int) (since : Nat)
      (hubClass : Option QClass) (lastM : Option (Int × Int)) (result : Option LinkResult)
  deriving DecidableEq, Repr

/-- The timing status record (R116, R134, R149). -/
structure TimingStatus where
  now : LocalTime
  pendingSet : Option (BitVec 48)
  steer : Int
  record : TimingRecord
  gnss : PulseStatus
  ext : PulseStatus
  tenants : Quad SquelchStatus
  transfer : TransferStatus
  transferCounters : TransferCounters
  state : TimingState
  selected : Option Source
  cls : QClass
  f : Int
  fHold : Int
  everLocked : Bool
  lock : Nat
  unlock : Nat
  lockedTime : Nat
  elapsed : Nat
  lastE : Option (Int × Source)
  aging : Int
  servoCounters : ServoCounters
  deriving DecidableEq, Repr

/-- The head entry in the tenant status record (R57). -/
structure HeadStatus where
  seq : BitVec 16
  origin : Origin
  total : Nat
  sent : Nat
  age : Nat
  deriving DecidableEq, Repr

/-- The packet in progress in the tenant status record (R96). -/
structure PacketStatus where
  length : Nat
  total : Nat
  received : Nat
  errored : Bool
  origin : Origin
  deriving DecidableEq, Repr

/-- The tenant status record (R57, R96). -/
structure TenantStatus where
  state : TenantState
  record : TenantRecord
  blocks : Nat
  entries : Nat
  nextSeq : BitVec 16
  head : Option HeadStatus
  paused : Bool
  xoff : Bool
  egressBlocks : Nat
  egressEntries : Nat
  erroredPresent : Bool
  hold : Bool
  delivery : Option Nat
  expected : Option (BitVec 8)
  packet : Option PacketStatus
  squelched : Bool
  deriving DecidableEq, Repr

/-- The test status record (R166). -/
structure TestStatus where
  runState : RunState
  runId : BitVec 16
  work : Option Working
  acceptance : Acceptance
  check : Option CheckRecord
  report : Option Report
  counters : TestCounters
  deriving DecidableEq, Repr

/-- The store record (R182). The time remaining is in half ns of local time advance, 2,000,000 a millisecond; a valid
plan slot shows the role it holds. -/
structure StoreStatus where
  state : StoreState
  op : Option (StoreOpName × Nat)
  slots : Quad (Option (Option Role))
  bootMark : Option Nat
  cal : CalSlot
  cause : ResetCause
  deriving DecidableEq, Repr

/-- The status records of GET_STATUS. -/
inductive StatusRecord where
  | link (r : LinkStatus)
  | timing (r : TimingStatus)
  | tenant (r : TenantStatus)
  | test (r : TestStatus)
  | store (r : StoreStatus)
  deriving DecidableEq, Repr

/-- The conditions of TENANT_ACTIVATE by name (R42). -/
inductive ActivateCond where
  | notPending | acceptance | acceptanceRun | cls
  deriving DecidableEq, Repr

/-- The body of a reply, by request kind and status. -/
inductive ReplyBody where
  | empty
  | identity (text : String) (revision : Nat) (cause : ResetCause)
  | role (r : Option Role)
  | linkRecord (r : LinkRecord)
  | tenantRecord (r : Option TenantRecord) (state : Option TenantState)
  | tenantState (s : TenantState)
  | shares (table : ShareTable)
  | unmet (conds : List ActivateCond) (classes : Option (QClass × QClass))
  | counters (ingress : IngressCounters) (egress : EgressCounters)
  | timingRecord (r : TimingRecord)
  | timeSet (pending : BitVec 48) (now : LocalTime)
  | restarted (state : TimingState) (selected : Option Source) (cls : QClass)
  | pattern (p : Pattern)
  | stepEntry (s : Option Step)
  | runId (id : BitVec 16)
  | firstEmpty (entry : Option Nat)
  | tenants (named : List Tenant)
  | results (runState : RunState) (runId : BitVec 16) (count : Nat) (flag : Bool) (acceptance : Acceptance)
      (records : List ResultRecord)
  | lockedTime (state : TimingState) (seconds : Nat)
  | slot (n : Nat)
  | status (r : StatusRecord) (line : LineCounters)
  | line (line : LineCounters)
  deriving DecidableEq, Repr

/-- A reply: the request's kind and tag unchanged, a status and a body (R171). -/
structure Reply where
  kind : Byte
  tag : Byte
  status : Status
  body : ReplyBody
  deriving DecidableEq, Repr

/-- A frame on the outgoing line (R172). -/
inductive LineFrame where
  | reply (r : Reply)
  | notice (kind : NoticeKind) (content : NoticeContent) (merge : Nat)
  deriving DecidableEq, Repr

/-- What a complete frame asks (R171): a kind not listed, a body length the kind does not permit, or a request. -/
inductive Incoming where
  | unknownKind
  | badLength
  | request (r : Request)
  deriving DecidableEq, Repr

/-- A complete request frame in the receive buffer (R170). -/
structure Buffered where
  kind : Byte
  tag : Byte
  what : Incoming
  deriving DecidableEq, Repr

/-- The Management Port (R169 to R174). `rx` is `none` in HUNT and holds the bytes collected after the start byte in
FRAME, oldest first. `resetPending` is the RESET answered OK whose reset has not taken place (R174). -/
structure Port where
  rx : Option (List Byte)
  buffer : List Buffered
  reply : Option Reply
  slots : NoticeSlots
  line : Option LineFrame
  resetPending : Option ResetOption
  counters : LineCounters
  lastCause : ResetCause
  deriving DecidableEq, Repr

/-! ## The whole state -/

/-- The state of the TS46, and the commands that wait, first in, first out. -/
structure State where
  role : Option Role
  link : LinkUnit
  ladder : Ladder
  planner : Planner
  tenants : Quad TenantUnit
  timing : Timing
  test : TestUnit
  port : Port
  store : Store
  /-- Model: the index of the next free value of `Config.missingByte` and `Config.uncapturedMarker` (log entries 7 and
  9). -/
  freeIndex : Nat
  /-- Model: the commands waiting, oldest first. -/
  pending : List Instr
  deriving DecidableEq, Repr

/-- The faults of a step: none. The spec gives every command of the table an effect in every state. -/
inductive Fault where
  deriving DecidableEq, Repr

/-- The refusals of a step. -/
inductive Refusal where
  /-- Raised by `exec` for a command that has no meaning yet; no arm uses it. Safe: the model stops. -/
  | notModelled (mnemonic : String)
  deriving DecidableEq, Repr

/-! ## The values after a POWER reset -/

/-- The Link Transmitter and Link Receiver after a POWER, PIN or COMMAND-FULL reset (R23). -/
def LinkUnit.initial : LinkUnit :=
  { state := .down, good := 0, lost := 0, rxXoff := Quad.const false, farReq := 0, farForce := false, farEnd := none,
    lastSeq := none,
    counters := { received := 0, goodHeaders := 0, lostFlagged := 0, lostCrc := 0, lostInconsistent := 0, absent := 0,
                  controlDiscarded := 0, tenantDiscarded := 0, losses := 0 },
    startsSince := 0, absenceDue := false, txProfile := 0, reqSent := 0, forceSent := false,
    xoffSent := Quad.const false, txSeq := 0, frameCounter := 0, frame := none }

/-- The Profile Ladder after such a reset, with the link record given (R37). -/
def Ladder.initial (record : LinkRecord) : Ladder :=
  { record := record, rp := 0, dwell := 0, confirm := none, forced := none, lastSample := none,
    counters := { downSteps := 0, upSteps := 0, capped := 0, belowRequested := 0 } }

/-- The Frame Planner after such a reset, with the share table given (R81). -/
def Planner.initial (shares : ShareTable) : Planner :=
  { shares := shares, pointers := Vector.replicate 8 .t0, last := none,
    counters := { planned := 0, plannedUp := 0, reserveLimited := 0, spareShort := 0, idleBlocks := 0,
                  committed := Quad.const 0, spare := Quad.const 0, xoffHeld := Quad.const 0 } }

/-- The ingress counters at 0. -/
def IngressCounters.zero : IngressCounters :=
  { packets := 0, blocks := 0, bad := 0, lengthErrors := 0, refused := 0, overrun := 0, testTaken := 0,
    staleRemovals := 0, testAged := 0, flushed := 0, packetsSent := 0, blocksSent := 0, pauses := 0 }

/-- The egress counters at 0. -/
def EgressCounters.zero : EgressCounters :=
  { blocks := 0, badBlocks := 0, gaps := 0, lossesGap := 0, lossesRestart := 0, descriptorErrors := 0, orphans := 0,
    testToChecker := 0, discardedOff := 0, erroredDiscarded := 0, erroredBuffered := 0, overruns := 0, delivered := 0,
    erroredDelivered := 0, aborted := 0, flushed := 0, xoffs := 0 }

/-- A Tenant Unit after such a reset, with its record and state and the level at its hold input (R59, R81, R97, R117).
DESIGN CHOICE (log entry 42): the hold input as last sampled reads released until it is sampled. -/
def TenantUnit.initial (record : TenantRecord) (state : TenantState) (hold : Bool) : TenantUnit :=
  { record := record, state := state, queue := [], nextSeq := 0, paused := false, ingress := .zero, blockSeq := 0,
    agedEarly := false, expected := none, packet := none, egress := [], delivering := false, hold := hold,
    holdSeen := false, portErrored := false, xoff := false, egressCounters := .zero, squelched := true, secondsEmitted := 0,
    secondsSquelched := 0, timingOut := none }

/-- A pulse qualifier after such a reset (R117). -/
def Qualifier.initial : Qualifier :=
  { state := .absent, reference := none, lastPulse := none, good := 0, bad := 0, lastM := none, lastCapture := none,
    counters := { pulses := 0, good := 0, badIntervals := 0, spurious := 0, absences := 0, faults := 0 } }

/-- The LINK source record after such a reset (R135). -/
def LinkSource.initial : LinkSource :=
  { state := .absent, accepted := 0, previous := none, since := 0, hubClass := none, lastM := none, result := none,
    expiryDue := false }

/-- The timing blocks after such a reset, with the timing record and the starting frequency given (R117, R135, R150). -/
def Timing.initial (record : TimingRecord) (frequency : Int) : Timing :=
  { base := { now := { sec := 0, half := 0 }, pendingSet := none, steer := frequency, advance := 0, frameHere := false,
              secondHere := false, markers := [], gnss := .initial, ext := .initial, record := record },
    xfer := { countdown := 0, syncSeq := 0, responses := [], exchanges := [], link := .initial,
              counters := { syncSent := 0, respSent := 0, reqTaken := 0, duplicates := 0, listFull := 0,
                            responsesAbandoned := 0, syncTaken := 0, reqSent := 0, displaced := 0, timeouts := 0,
                            entriesAbandoned := 0, unmatched := 0, completed := 0, rejected := 0, delayJumps := 0,
                            disqualified := 0 } },
    servo := { state := .freerun, selected := none, f := frequency, fHold := frequency, everLocked := false, lock := 0,
               unlock := 0, elapsed := 0, lockedTime := 0, cls := .c5, lastE := none,
               counters := { acted := 0, ignored := 0, inputClamped := 0, steps := 0, fullSets := 0, fClamped := 0,
                             sClamped := 0, lockEntries := 0, unlockEvents := 0, holdoverEntries := 0,
                             agingSteps := 0 },
               agingDue := false } }

/-- The Test Controller after such a reset, with the pattern table given (R168). -/
def TestUnit.initial (patterns : Quad Pattern) : TestUnit :=
  { patterns := patterns, steps := Vector.replicate 16 none, runState := .idle, runId := 0, count := 0, flag := false,
    work := none, results := [], check := none, report := none, acceptance := .none,
    counters := { runs := 0, blocksSent := 0, entriesRemoved := 0, reportsSent := 0, reportsReplaced := 0,
                  unmatchedReports := 0, unassignedBad := 0 } }

/-- Every notice slot clear (R173). -/
def NoticeSlots.clear : NoticeSlots :=
  { boot := none, link := none, timing := none, tenant := Quad.const none, test := none, store := none,
    profile := none }

/-- The line counters at 0 (R169). -/
def LineCounters.zero : LineCounters := { stray := 0, gap := 0, length := 0, check := 0, full := 0 }

/-- The settings of the defaults (R24, R39, R76, R110, R151), with no role. -/
def Settings.default : Settings :=
  { role := none, link := Config.defaultLink, tenants := Quad.const Config.defaultTenant,
    shares := Config.defaultShares, timing := Config.defaultTiming, patterns := Quad.const Config.clearedPattern }

/-- DESIGN CHOICE (log entry 11): a store in which nothing has ever been written. Every slot is invalid and the
boot-slot mark is none; the spec does not say what the part is delivered with. -/
def Store.blank : Store :=
  { plan := Quad.const { valid := false, settings := Settings.default }, cal := { valid := false, frequency := 0, aging := 0 },
    bootMark := none, op := none }

/-- The BOOT notice of a first POWER reset (R176). -/
def bootNoticeAtPower : BootNotice :=
  { cause := .power, applied := none, invalid := none, role := none, calValid := false, abandoned := none }

/-- The machine right after a first POWER reset with a blank store: the defaults apply, no role is set, every tenant
is OFF, and the BOOT notice has begun on the free line (R23, R37, R59, R81, R97, R117, R135, R150, R168, R172, R174,
R176, R182). The queue of commands is empty. -/
def State.reset : State :=
  { role := none, link := .initial, ladder := .initial Config.defaultLink, planner := .initial Config.defaultShares,
    tenants := Quad.const (.initial Config.defaultTenant .off false), timing := .initial Config.defaultTiming 0,
    test := .initial (Quad.const Config.clearedPattern),
    port := { rx := none, buffer := [], reply := none, slots := .clear,
              line := some (.notice .boot (.boot bootNoticeAtPower) 0), resetPending := none, counters := .zero,
              lastCause := .power },
    store := .blank, freeIndex := 0, pending := [] }

end Sys2Proof.Machine
end

