-- ==== Sys2Proof/Machine/Ops.lean ====
section
/-! DEFINITION. The named operations that every block uses: replacing one block of the state, raising a notice into
its slot (R173), the choice of the next notice on a free line (R172), and arithmetic on local time and timestamps. -/

namespace Sys2Proof.Machine

/-! ## One block of the state replaced -/

def State.withRole (s : State) (r : Option Role) : State := { s with role := r }
def State.withLink (s : State) (l : LinkUnit) : State := { s with link := l }
def State.withLadder (s : State) (l : Ladder) : State := { s with ladder := l }
def State.withPlanner (s : State) (p : Planner) : State := { s with planner := p }
def State.withTenants (s : State) (q : Quad TenantUnit) : State := { s with tenants := q }
def State.withTiming (s : State) (t : Timing) : State := { s with timing := t }
def State.withTest (s : State) (t : TestUnit) : State := { s with test := t }
def State.withPort (s : State) (p : Port) : State := { s with port := p }
def State.withStore (s : State) (st : Store) : State := { s with store := st }
def State.withFreeIndex (s : State) (n : Nat) : State := { s with freeIndex := n }
def State.withPending (s : State) (p : List Instr) : State := { s with pending := p }

/-- The Time Base replaced. -/
def State.withBase (s : State) (b : TimeBase) : State := s.withTiming { s.timing with base := b }

/-- One Tenant Unit. -/
def State.tenant (s : State) (t : Tenant) : TenantUnit := s.tenants.get t

/-- One Tenant Unit replaced; the others are not touched (03, introduction). -/
def State.withTenant (s : State) (t : Tenant) (u : TenantUnit) : State := s.withTenants (s.tenants.set t u)

/-! ## Notice slots (R173) -/

/-- The slot of a kind. -/
def NoticeSlots.get (n : NoticeSlots) : NoticeKind → Option PendingNotice
  | .boot => n.boot
  | .link => n.link
  | .timing => n.timing
  | .tenant t => n.tenant.get t
  | .test => n.test
  | .store => n.store
  | .profile => n.profile

/-- The slot of a kind replaced. -/
def NoticeSlots.put (n : NoticeSlots) (k : NoticeKind) (p : Option PendingNotice) : NoticeSlots :=
  match k with
  | .boot => { n with boot := p }
  | .link => { n with link := p }
  | .timing => { n with timing := p }
  | .tenant t => { n with tenant := n.tenant.set t p }
  | .test => { n with test := p }
  | .store => { n with store := p }
  | .profile => { n with profile := p }

/-- A notice raised into a slot: the content replaces what is there; the merge count starts at 0 in a clear slot and
increases by one in a pending one, stopping at 255 (R173). -/
def PendingNotice.raised (old : Option PendingNotice) (c : NoticeContent) : PendingNotice :=
  match old with
  | none => { content := c, merge := 0 }
  | some p => { content := c, merge := min (p.merge + 1) 255 }

/-- See `PendingNotice.raised`. -/
def NoticeSlots.raise (n : NoticeSlots) (k : NoticeKind) (c : NoticeContent) : NoticeSlots :=
  n.put k (some (PendingNotice.raised (n.get k) c))

/-- The kinds from highest to lowest sending priority (R173). -/
def noticePriority : List NoticeKind :=
  [.boot, .link, .timing, .tenant .t0, .tenant .t1, .tenant .t2, .tenant .t3, .test, .store, .profile]

/-- The pending slot highest in the priority order. -/
def NoticeSlots.highest (n : NoticeSlots) : Option (NoticeKind × PendingNotice) :=
  noticePriority.findSome? fun k => (n.get k).map fun p => (k, p)

/-- The highest pending notice begins on the line, and its slot is cleared (R172, R173). -/
def Port.sendNotice (p : Port) : Port :=
  match p.slots.highest with
  | some (k, n) => { p with line := some (.notice k n.content n.merge), slots := p.slots.put k none }
  | none => p

/-- Whether the line is free for a notice: nothing on it, and no reply waiting (R172). -/
def Port.freeForNotice (p : Port) : Bool := p.line.isNone && p.reply.isNone

/-- The choice of a notice on a free line (R172). -/
def announce (s : State) : State :=
  if s.port.freeForNotice then s.withPort s.port.sendNotice else s

/-- A notice raised: its slot becomes pending (R173), and on a free line the choice is made at once (R172). -/
def State.raise (s : State) (k : NoticeKind) (c : NoticeContent) : State :=
  announce (s.withPort { s.port with slots := s.port.slots.raise k c })

/-! ## Local time and timestamps -/

end Sys2Proof.Machine

namespace Sys2Proof

/-- A timestamp moved by whole nanoseconds, the seconds carried as in the offset step of R99 (R118). -/
def Stamp.shift (t : Stamp) (ns : Int) : Stamp :=
  let total : Int := t.ns + ns
  { sec := t.sec + BitVec.ofInt 48 (total / 1000000000), ns := (total % 1000000000).toNat }

/-- The whole nanoseconds from one timestamp to another, over both fields (R127). -/
def Stamp.diff (a b : Stamp) : Int :=
  ((a.sec.toNat : Int) - b.sec.toNat) * 1000000000 + ((a.ns : Int) - b.ns)

end Sys2Proof

namespace Sys2Proof.Machine

/-- Local time moved by whole nanoseconds and whole seconds, normalised as R99 normalises a sum (R99, R137). -/
def LocalTime.shift (t : LocalTime) (ns secs : Int) : LocalTime :=
  let total : Int := t.half + 2 * ns
  { sec := t.sec + BitVec.ofInt 48 (total / 2000000000 + secs), half := (total % 2000000000).toNat }

/-- Local time advanced by half nanoseconds, the seconds wrapping at 2⁴⁸ (R98). -/
def LocalTime.advance (t : LocalTime) (dt : Nat) : LocalTime :=
  { sec := t.sec + BitVec.ofNat 48 ((t.half + dt) / 2000000000), half := (t.half + dt) % 2000000000 }

/-- A boundary value of local time as a timestamp (R118): a boundary has no half nanosecond. -/
def LocalTime.stamp (t : LocalTime) : Stamp := { sec := t.sec, ns := t.half / 2 }

/-- A capture rounded to the nearest multiple of 4 ns, halfway rounded up, as the receive marker time (R103). -/
def LocalTime.marker (t : LocalTime) : Stamp :=
  let k := (t.half + 4) / 8 * 4
  if k = 1000000000 then { sec := t.sec + 1, ns := 0 } else { sec := t.sec, ns := k }

end Sys2Proof.Machine
end

