-- ==== Sys2Proof/Machine/Operands.lean ====
section
/-! DEFINITION. The byte layouts of Section 11 in both directions: the CRC of R9 and R169, the HEADER, the TENANT
block, the timing blocks, the pattern descriptor with the generator of R152, the TEST block, the test packet and the
TEST_REPORT. A byte offset beyond a list reads 0. -/

namespace Sys2Proof.Machine

/-! ## Fields -/

/-- The byte at an offset. -/
def byteAt (b : List Byte) (k : Nat) : Byte := b.getD k 0

/-- The number in `n` bytes from an offset, most-significant byte first (R183). -/
def numAt (b : List Byte) (k : Nat) : Nat → Nat
  | 0 => 0
  | n + 1 => numAt b k n * 256 + (byteAt b (k + n)).toNat

/-- A number as `n` bytes, most-significant byte first (R183). -/
def numBytes : Nat → Nat → List Byte
  | 0, _ => []
  | n + 1, x => numBytes n (x / 256) ++ [BitVec.ofNat 8 x]

/-- Bytes filled with zero, or cut, to a length: unused bytes are sent as zero (R183). -/
def padTo (n : Nat) (b : List Byte) : List Byte := b.take n ++ List.replicate (n - b.length) 0

/-- A timestamp as 10 bytes (R183). -/
def stampBytes (t : Stamp) : List Byte := numBytes 6 t.sec.toNat ++ numBytes 4 t.ns

/-- The timestamp in the 10 bytes from an offset (R183). -/
def stampAt (b : List Byte) (k : Nat) : Stamp := { sec := BitVec.ofNat 48 (numAt b k 6), ns := numAt b (k + 6) 4 }

/-! ## CRC-16 (R9, R169) -/

/-- One bit of the CRC with the polynomial 0x1021, no reflection. -/
def crcBit (c : BitVec 16) : BitVec 16 :=
  if c.msb then (c <<< (1 : Nat)) ^^^ 0x1021#16 else c <<< (1 : Nat)

/-- `n` bits of the CRC. -/
def crcBits : Nat → BitVec 16 → BitVec 16
  | 0, c => c
  | n + 1, c => crcBits n (crcBit c)

/-- One byte of the CRC, most-significant bit first. -/
def crcByte (c : BitVec 16) (b : Byte) : BitVec 16 := crcBits 8 (c ^^^ (b.setWidth 16 <<< (8 : Nat)))

/-- The CRC of a list of bytes from a register value. The register is matched on as a number after each byte, so that the
kernel evaluates it byte by byte; `crcFrom_eq_foldl` of Laws/State.lean says that it is the plain fold. -/
def crcFrom (c : BitVec 16) : List Byte → BitVec 16
  | [] => c
  | b :: rest =>
    match (crcByte c b).toNat with
    | 0 => crcFrom 0#16 rest
    | n + 1 => crcFrom (BitVec.ofNat 16 (n + 1)) rest

/-- The CRC of a list of bytes from the initial value 0xFFFF, not inverted. -/
def crc16 (b : List Byte) : BitVec 16 := crcFrom 0xFFFF#16 b

/-! ## The HEADER (R8, 11.2) -/

/-- The fields of a HEADER (R8). -/
structure Header where
  seq : BitVec 16
  txProfile : Nat
  requested : Nat
  force : Bool
  xoff : Quad Bool
  controls : List ControlKind
  testBlocks : Nat
  endMark : Option (BitVec 16)
  tenantBlocks : Quad Nat
  deriving DecidableEq, Repr

/-- The byte of a control kind (R183). -/
def ControlKind.code : ControlKind → Nat
  | .sync => 1 | .delayReq => 2 | .delayResp => 3 | .testReport => 4

/-- The control kind of a byte. -/
def ControlKind.ofCode : Nat → Option ControlKind
  | 1 => some .sync | 2 => some .delayReq | 3 => some .delayResp | 4 => some .testReport | _ => none

/-- Whether a kind is a timing kind (R12). -/
def ControlKind.timing : ControlKind → Bool
  | .sync => true | .delayReq => true | .delayResp => true | .testReport => false

/-- A tenant flag set as a byte: bit t carries tenant t (R183). -/
def flagByte (q : Quad Bool) : Byte :=
  BitVec.ofNat 8 (q.t0.toNat + 2 * q.t1.toNat + 4 * q.t2.toNat + 8 * q.t3.toNat)

/-- The tenant flag set in a byte; the unused bits are ignored (R183). -/
def flagsOf (b : Byte) : Quad Bool := ⟨b.getLsbD 0, b.getLsbD 1, b.getLsbD 2, b.getLsbD 3⟩

/-- The control kind byte at a position of the header: 0 where no control block is named (R183). -/
def kindByte (controls : List ControlKind) (k : Nat) : Byte :=
  BitVec.ofNat 8 ((controls[k]?.map ControlKind.code).getD 0)

/-- The first 126 bytes of the HEADER block (11.2). -/
def Header.body (h : Header) : List Byte :=
  numBytes 2 h.seq.toNat ++
  [BitVec.ofNat 8 h.txProfile, BitVec.ofNat 8 (h.requested % 8 + 128 * h.force.toNat), flagByte h.xoff,
   BitVec.ofNat 8 h.controls.length, kindByte h.controls 0, kindByte h.controls 1, BitVec.ofNat 8 h.testBlocks,
   BitVec.ofNat 8 h.endMark.isSome.toNat] ++
  numBytes 2 ((h.endMark.map BitVec.toNat).getD 0) ++
  h.tenantBlocks.toList.map (BitVec.ofNat 8) ++ List.replicate 110 0

/-- The HEADER block as sent: the header check covers every other byte (R9). -/
def Header.bytes (h : Header) : List Byte := h.body ++ numBytes 2 (crc16 h.body).toNat

/-- Whether a received HEADER passes the check of R9: the CRC over offsets 0 to 125 as received. -/
def headerCheckPasses (b : List Byte) : Bool :=
  crc16 ((List.range 126).map (byteAt b)) == BitVec.ofNat 16 (numAt b 126 2)

/-- The control kinds that a received header names in the positions its count names; `none` where a named position
holds no kind or the count is above 2 (R12, R183). -/
def controlsAt (b : List Byte) : Option (List ControlKind) :=
  match (byteAt b 5).toNat with
  | 0 => some []
  | 1 => (ControlKind.ofCode (byteAt b 6).toNat).map fun k => [k]
  | 2 => (ControlKind.ofCode (byteAt b 6).toNat).bind fun k =>
           (ControlKind.ofCode (byteAt b 7).toNat).map fun l => [k, l]
  | _ => none

/-- The consistency test on the control kinds: at most one timing kind, at most one TEST_REPORT, and of two the
timing block first (R12). -/
def controlsConsistent : List ControlKind → Bool
  | [] => true
  | [_] => true
  | [k, l] => k.timing && !l.timing
  | _ => false

/-- A received header read and put to the consistency test of R12; `none` where it fails. -/
def headerAt (b : List Byte) : Option Header :=
  match controlsAt b with
  | none => none
  | some controls =>
    let h : Header :=
      { seq := BitVec.ofNat 16 (numAt b 0 2), txProfile := (byteAt b 2).toNat,
        requested := (byteAt b 3).toNat % 8, force := (byteAt b 3).getLsbD 7, xoff := flagsOf (byteAt b 4),
        controls := controls, testBlocks := (byteAt b 8).toNat,
        endMark := if byteAt b 9 = 0 then none else some (BitVec.ofNat 16 (numAt b 10 2)),
        tenantBlocks := ⟨(byteAt b 12).toNat, (byteAt b 13).toNat, (byteAt b 14).toNat, (byteAt b 15).toNat⟩ }
    if h.txProfile ≤ 7 ∧ controlsConsistent controls = true ∧ h.testBlocks ≤ 64 ∧
        1 + controls.length + h.testBlocks + h.tenantBlocks.sum ≤ Config.blocksOf h.txProfile
    then some h else none

/-! ## The TENANT block (R73, 11.3) -/

/-- The segment descriptor of a TENANT block with its data bytes (R73). -/
structure Segment where
  first : Bool
  last : Bool
  origin : Origin
  seq : BitVec 8
  length : Nat
  data : List Byte
  deriving DecidableEq, Repr

/-- A TENANT block as sent (11.3). -/
def Segment.bytes (g : Segment) : List Byte :=
  [BitVec.ofNat 8 (g.first.toNat + 2 * g.last.toNat + 4 * (decide (g.origin = .test)).toNat), g.seq] ++
  numBytes 2 g.length ++ List.replicate 4 0 ++ padTo Config.segmentBytes g.data

/-- A TENANT block as received (R183). -/
def segmentAt (b : List Byte) : Segment :=
  { first := (byteAt b 0).getLsbD 0, last := (byteAt b 0).getLsbD 1,
    origin := if (byteAt b 0).getLsbD 2 then .test else .tenant, seq := byteAt b 1, length := numAt b 2 2,
    data := padTo Config.segmentBytes (b.drop 8) }

/-! ## Timing blocks (11.4) -/

/-- A SYNC as sent. -/
def syncBytes (seq : BitVec 16) (t1 : Stamp) (cls : QClass) : List Byte :=
  padTo Config.blockBytes (numBytes 2 seq.toNat ++ stampBytes t1 ++ [BitVec.ofNat 8 cls.num])

/-- The hub class in a received SYNC; a byte that is not 1 to 5 is taken as C5 (R183). -/
def hubClassAt (b : List Byte) : QClass := (QClass.ofNum (byteAt b 12).toNat).getD .c5

/-- A DELAY_REQ as sent. -/
def delayReqBytes (seq : BitVec 16) : List Byte := padTo Config.blockBytes (numBytes 2 seq.toNat)

/-- A DELAY_RESP as sent. -/
def delayRespBytes (seq : BitVec 16) (t4 : Stamp) : List Byte :=
  padTo Config.blockBytes (numBytes 2 seq.toNat ++ stampBytes t4)

/-- The sequence in a received timing block. -/
def timingSeqAt (b : List Byte) : BitVec 16 := BitVec.ofNat 16 (numAt b 0 2)

end Sys2Proof.Machine

namespace Sys2Proof

/-! ## Patterns (R151, R152, 11.5) -/

/-- Whether an entry lies within the ranges of R151. -/
def Pattern.inRange (p : Pattern) : Bool :=
  (p.bars == 1 || p.bars == 2 || p.bars == 4 || p.bars == 8) && 1 ≤ p.barSize && p.barSize ≤ 96 &&
    1 ≤ p.repeatSize && p.repeatSize ≤ 12 && p.fill.length == 16

/-- The payload byte at index `i`, for test block sequence `seq` (0 for a test packet) (R152). -/
def Pattern.byteOf (p : Pattern) (seq i : Nat) : Byte :=
  match p.mode with
  | .bars => p.fill.getD (min (i / p.barSize) (p.bars - 1)) 0
  | .fixed => p.fill.getD (i % p.repeatSize) 0
  | .count => BitVec.ofNat 8 (96 * seq + i)

/-- The byte of a pattern mode (11.5). -/
def PatternMode.code : PatternMode → Nat
  | .bars => 0 | .fixed => 1 | .count => 2

/-- The pattern descriptor as sent: 20 bytes (11.5). -/
def Pattern.descriptor (p : Pattern) : List Byte :=
  [BitVec.ofNat 8 p.mode.code, BitVec.ofNat 8 p.bars, BitVec.ofNat 8 p.barSize, BitVec.ofNat 8 p.repeatSize] ++
  Machine.padTo 16 p.fill

end Sys2Proof

namespace Sys2Proof.Machine

/-- The pattern a received descriptor names, where it names a valid one (R152, 11.5). -/
def patternAt (b : List Byte) (k : Nat) : Option Pattern :=
  let body (mode : PatternMode) : Pattern :=
    { mode := mode, bars := (byteAt b (k + 1)).toNat, barSize := (byteAt b (k + 2)).toNat,
      repeatSize := (byteAt b (k + 3)).toNat, fill := (List.range 16).map fun i => byteAt b (k + 4 + i) }
  let valid (p : Pattern) : Option Pattern := if p.inRange then some p else none
  match (byteAt b k).toNat with
  | 0 => valid (body .bars)
  | 1 => valid (body .fixed)
  | 2 => valid (body .count)
  | _ => none

/-- How many payload bytes differ from what the pattern generates from index `start` on; every byte differs where the
descriptor names no valid pattern (R152). -/
def differing (p : Option Pattern) (seq start : Nat) (payload : List Byte) : Nat :=
  match p with
  | none => payload.length
  | some p => ((payload.zipIdx start).filter fun x => x.1 != p.byteOf seq x.2).length

/-! ## TEST blocks, test packets and TEST_REPORTs (11.5, 11.6) -/

/-- A TEST block as sent (R156, 11.5). -/
def testBlockBytes (run : BitVec 16) (step : Nat) (p : Pattern) (seq : Nat) : List Byte :=
  numBytes 2 run.toNat ++ [BitVec.ofNat 8 step] ++ p.descriptor ++ numBytes 4 seq ++ List.replicate 5 0 ++
  (List.range 96).map (p.byteOf seq)

/-- The bytes of a test packet of length `n` (R158, 11.5). -/
def testPacketBytes (run : BitVec 16) (step : Nat) (p : Pattern) (n : Nat) : List Byte :=
  numBytes 2 run.toNat ++ [BitVec.ofNat 8 step] ++ p.descriptor ++ [0] ++ (List.range (n - 24)).map (p.byteOf 0)

/-- A count of a TEST_REPORT as sent: 32 bits, free for a count that 32 bits do not hold (11.6; log entry 33). -/
def countBytes (n : Nat) : List Byte := numBytes 4 (if n < 4294967296 then n else Config.wideCount n)

/-- A TEST_REPORT as sent (11.6). -/
def Report.bytes (r : Report) : List Byte :=
  padTo Config.blockBytes
    (numBytes 2 r.run.toNat ++ [BitVec.ofNat 8 r.step, 0] ++ countBytes r.blocks ++ countBytes r.erroredBlocks ++
     countBytes r.erroredBytes ++ countBytes r.missing ++ countBytes r.packets ++ countBytes r.erroredPackets)

/-- A TEST_REPORT as received (11.6). -/
def reportAt (b : List Byte) : Report :=
  { run := BitVec.ofNat 16 (numAt b 0 2), step := (byteAt b 2).toNat, blocks := numAt b 4 4,
    erroredBlocks := numAt b 8 4, erroredBytes := numAt b 12 4, missing := numAt b 16 4, packets := numAt b 20 4,
    erroredPackets := numAt b 24 4 }

/-- An IDLE block (R7). -/
def idleBytes : List Byte := List.replicate Config.blockBytes 0

end Sys2Proof.Machine
end

