-- ==== Sys2Proof/Machine/Flags.lean ====
section
/-! DEFINITION. The judgements that set a flag, a state or a class: pause and XOFF with their two levels (R51, R94), the
errored-present mark (R90), the quality class (R146), the selected source (R112), and the notices' causes. -/

namespace Sys2Proof.Machine

/-! ## Levels with hysteresis -/

/-- Set at or above the halt, clear at or below the resume, kept between the two (R51, R94, R158). -/
def hysteresis (halt resume occupancy : Nat) (old : Bool) : Bool :=
  if halt ≤ occupancy then true else if occupancy ≤ resume then false else old

/-- The blocks of a packet of `n` bytes: `n` divided by 120, rounded up (R48). -/
def blocksFor (n : Nat) : Nat := (n + 119) / 120

/-- The unsent blocks of an entry. -/
def Entry.unsent (e : Entry) : Nat := e.total - e.sent

/-- The occupancy of an ingress queue (R50). -/
def occupancy (q : List Entry) : Nat := (q.map Entry.unsent).sum

/-- The occupancy of an egress buffer (R89). -/
def egressOccupancy (b : List EgressEntry) : Nat := (b.map EgressEntry.blocks).sum

/-- A tenant that may be paused by occupancy: PENDING or ACTIVE (R51, R52). -/
def TenantState.judged : TenantState → Bool
  | .pending => true | .active => true | .off => false | .draining => false

/-- A tenant in service: ACTIVE or DRAINING (R43). -/
def TenantState.inService : TenantState → Bool
  | .active => true | .draining => true | .off => false | .pending => false

/-- The pause state judged on the occupancy of the queue (R51); in DRAINING and OFF it is not judged (R52). -/
def TenantUnit.judgePause (u : TenantUnit) : TenantUnit :=
  if u.state.judged then
    let p := hysteresis u.record.ingressHalt u.record.ingressResume (occupancy u.queue) u.paused
    { u with paused := p, ingress := { u.ingress with pauses := bumpIf (p && !u.paused) u.ingress.pauses } }
  else u

/-- The XOFF-sent state judged on the egress occupancy, in every tenant state (R94). -/
def TenantUnit.judgeXoff (u : TenantUnit) : TenantUnit :=
  let x := hysteresis u.record.egressHalt u.record.egressResume (egressOccupancy u.egress) u.xoff
  { u with xoff := x, egressCounters := { u.egressCounters with xoffs := bumpIf (x && !u.xoff) u.egressCounters.xoffs } }

/-- The errored-present mark: set while an entry of the egress buffer has its errored mark set (R90). -/
def TenantUnit.erroredPresent (u : TenantUnit) : Bool := u.egress.any EgressEntry.errored

/-- This end's four XOFF-sent states (R94). -/
def State.outgoingXoff (s : State) : Quad Bool := s.tenants.map TenantUnit.xoff

/-- The tenants ACTIVE or DRAINING, in index order (R154, R181). -/
def State.inService (s : State) : List Tenant := Tenant.all.filter fun t => (s.tenant t).state.inService

/-! ## The quality class (R146) -/

/-- The class of the Servo's state, with the stored hub class and the holdover limit (R146). A hub class is stored
whenever LINK is selected; where none is, the class is C5 (log entry 18). -/
def judgedClass (v : Servo) (hub : Option QClass) (limit : Nat) : QClass :=
  match v.state with
  | .locked => if v.selected = some .link then (hub.getD .c5).worse else .c1
  | .holdover => if v.elapsed < limit then .c3 else .c4
  | .acquiring => if v.everLocked then .c4 else .c5
  | .freerun => .c5

/-- The class re-judged (R146). -/
def Timing.rejudge (t : Timing) : Timing :=
  { t with servo := { t.servo with cls := judgedClass t.servo t.xfer.link.hubClass t.base.record.holdoverLimit } }

/-! ## The selected source (R112) -/

/-- The state of a source. -/
def Timing.sourceState (t : Timing) : Source → SourceState
  | .gnss => t.base.gnss.state
  | .ext => t.base.ext.state
  | .link => t.xfer.link.state

/-- The level of a source in the timing record; `none` is NOT_USED (R110). -/
def Timing.level (t : Timing) : Source → Option Nat
  | .gnss => t.base.record.gnssLevel
  | .ext => t.base.record.extLevel
  | .link => t.base.record.linkLevel

/-- The level at which a source is a candidate: it is QUALIFIED and its level is not NOT_USED (R112). -/
def Timing.candidate (t : Timing) (src : Source) : Option Nat :=
  if t.sourceState src = .qualified then t.level src else none

/-- The better of a choice so far and a further source: the further one only with a lower level (R112). -/
def betterSource (best : Option (Nat × Source)) (level : Option Nat) (src : Source) : Option (Nat × Source) :=
  match best, level with
  | _, none => best
  | none, some l => some (l, src)
  | some (b, x), some l => if l < b then some (l, src) else some (b, x)

/-- The selected source of R112: the lowest level, the first of GNSS, EXT, LINK among equals. -/
def Timing.selection (t : Timing) : Option Source :=
  (betterSource (betterSource (betterSource none (t.candidate .gnss) .gnss) (t.candidate .ext) .ext)
    (t.candidate .link) .link).map Prod.snd

/-! ## Causes of TIMING notices (R148) -/

/-- One cause when a condition holds. -/
def causeIf (b : Bool) (c : TimingCause) : List TimingCause := if b then [c] else []

/-- The causes of one event from the timing state before and after it, in the order of R148's table; `step` says
whether the event made an offset step or a full set. -/
def timingCauses (before after : Timing) (step : Bool) : List TimingCause :=
  causeIf (before.base.gnss.state != after.base.gnss.state) .sourceState ++
  causeIf (before.base.ext.state != after.base.ext.state) .sourceState ++
  causeIf (before.xfer.link.state != after.xfer.link.state) .sourceState ++
  causeIf (before.servo.selected != after.servo.selected) .sourceChange ++
  causeIf (before.servo.state != after.servo.state) .stateChange ++
  causeIf (before.servo.cls != after.servo.cls) .classChange ++
  causeIf step .step

/-- The content of a TIMING notice: the state after the whole event, and the "previous" fields from before it (R148). -/
def timingContent (before after : Timing) (c : TimingCause) : TimingNotice :=
  { cause := c, state := after.servo.state, previousState := before.servo.state, selected := after.servo.selected,
    previousSelected := before.servo.selected, cls := after.servo.cls, previousCls := before.servo.cls,
    gnss := after.base.gnss.state, ext := after.base.ext.state, link := after.xfer.link.state,
    everLocked := after.servo.everLocked, f := after.servo.f, fHold := after.servo.fHold, steer := after.base.steer,
    elapsed := after.servo.elapsed, time := after.base.now }

/-- The TIMING notices of one event raised, one for each cause (R148). -/
def State.raiseTiming (before : Timing) (s : State) (causes : List TimingCause) : State :=
  causes.foldl (fun s c => s.raise .timing (.timing (timingContent before s.timing c))) s

/-! ## The other notices -/

/-- A PROFILE notice raised (R35). DEDUCED (log entry 32): after a COMMAND-WARM reset it shows P0 as tx profile (R23) beside
the requested profile and the force indication of the last frame started. -/
def State.raiseProfile (s : State) (c : ProfileCause) : State :=
  s.raise .profile (.profile
    { cause := c, rp := s.ladder.rp, txProfile := s.link.txProfile, reqSent := s.link.reqSent,
      forceSent := s.link.forceSent, forced := s.ladder.forced, farReq := s.link.farReq, farForce := s.link.farForce,
      cap := s.ladder.record.cap, lastSample := s.ladder.lastSample, frameCounter := s.link.frameCounter })

/-- A TENANT notice raised in a tenant's slot, with the state from before the event (R47). -/
def State.raiseTenant (s : State) (t : Tenant) (previous : TenantState) (c : TenantCause) (extra : TenantExtra) : State :=
  s.raise (.tenant t) (.tenant
    { index := t.index, new := (s.tenant t).state, previous := previous, cause := c,
      blocks := occupancy (s.tenant t).queue, entries := (s.tenant t).queue.length, paused := (s.tenant t).paused,
      frameCounter := s.link.frameCounter, extra := extra })

/-- A LINK notice raised (R18). -/
def State.raiseLink (s : State) (previous : LinkState) (c : LinkCause) : State :=
  s.raise .link (.link { new := s.link.state, previous := previous, cause := c, frameCounter := s.link.frameCounter })

/-- A TEST notice raised (R155); the step fields are those of the last record logged. -/
def State.raiseTest (s : State) (c : TestCause) : State :=
  s.raise .test (.test
    { cause := c, runId := s.test.runId, runState := s.test.runState,
      last := s.test.results.getLast?.map fun r => (r.index, r.kind, r.verdict, r.reason),
      records := s.test.results.length, acceptance := s.test.acceptance })

end Sys2Proof.Machine
end

