-- ==== Sys2Proof/Machine/Planner.lean ====
section
/-! DEFINITION. The Frame Planner (04): demand, the stages of the plan, the rotation pointers, the planner counters, and
SET_SHARES. -/

namespace Sys2Proof

/-- The check of SET_SHARES on a share table (R77). -/
def ShareTable.ok (t : ShareTable) : Bool :=
  t.toList.all (fun e => e.level ≤ 7 && e.share ≤ 256) && (t.map Share.share).sum ≤ 256

end Sys2Proof

namespace Sys2Proof.Machine

/-- The inputs of one run of the planner (R61). -/
structure PlanInputs where
  blocks : Nat
  link : LinkState
  timing : Option ControlKind
  report : Bool
  request : Option (ReserveMode × Nat)
  offers : Quad Nat
  xoff : Quad Bool
  shares : ShareTable
  pointers : Vector Tenant 8
  deriving DecidableEq, Repr

/-- The control blocks placed: in UP every one offered, the timing block first (R64); in ACQUIRE an offered SYNC or
DELAY_REQ; in DOWN none (R71). -/
def PlanInputs.controls (i : PlanInputs) : List ControlKind :=
  match i.link with
  | .up => i.timing.toList ++ (if i.report then [.testReport] else [])
  | .acquire => i.timing.toList.filter fun k => k == .sync || k == .delayReq
  | .down => []

/-- The test request as read: not read while the link is not UP (R71). -/
def PlanInputs.testRequest (i : PlanInputs) : Option (ReserveMode × Nat) :=
  if i.link = .up then i.request else none

/-- The TEST blocks of the reserved stage out of what header and control blocks leave (R65). -/
def reservedBlocks (request : Option (ReserveMode × Nat)) (left : Nat) : Nat :=
  match request with
  | some (.reserved, t) => min t left
  | _ => 0

/-- The TEST blocks of the spare test stage (R69). -/
def spareTestBlocks (request : Option (ReserveMode × Nat)) (left : Nat) : Nat :=
  match request with
  | some (.spare, t) => min t left
  | _ => 0

/-- The demand of a tenant (R63). -/
def demandOf (link : LinkState) (xoff : Bool) (offer capacity : Nat) : Nat :=
  if link = .up ∧ xoff = false then min offer capacity else 0

/-- The committed grant (R66). -/
def committedOf (demand capacity share : Nat) : Nat := min demand (capacity * share / 256)

/-- The spare stage at work: the spare left, the grants so far, and the tenant that received the level's last spare
block (R67, R68). -/
structure Spare where
  left : Nat
  grants : Quad Nat
  last : Option Tenant
  deriving DecidableEq, Repr

/-- One visit of the rotation: a tenant of the level with unmet demand receives one block while spare is left (R67). -/
def Spare.visit (shares : ShareTable) (demand : Quad Nat) (level : Nat) (t : Tenant) (x : Spare) : Spare :=
  if 0 < x.left ∧ (shares.get t).level = level ∧ x.grants.get t < demand.get t then
    { left := x.left - 1, grants := x.grants.set t (x.grants.get t + 1), last := some t }
  else x

/-- One round: the four tenants in ascending index order from the pointer (R67). -/
def Spare.round (shares : ShareTable) (demand : Quad Nat) (level : Nat) (p : Tenant) (x : Spare) : Spare :=
  (((x.visit shares demand level p).visit shares demand level p.next).visit shares demand level p.next.next).visit
    shares demand level p.next.next.next

/-- `n` rounds. A round that hands out nothing changes nothing, so as many rounds as there are spare blocks reach the
end of the level (R67). -/
def Spare.rounds (shares : ShareTable) (demand : Quad Nat) (level : Nat) (p : Tenant) : Nat → Spare → Spare
  | 0, x => x
  | n + 1, x => Spare.rounds shares demand level p n (x.round shares demand level p)

/-- One level of the spare stage, and its rotation pointer after it (R67, R68). -/
def spareLevel (shares : ShareTable) (demand : Quad Nat) (x : Spare × Vector Tenant 8) (level : Fin 8) :
    Spare × Vector Tenant 8 :=
  let y := Spare.rounds shares demand level.val x.2[level] x.1.left { x.1 with last := none }
  match y.last with
  | none => (y, x.2)
  | some t => (y, x.2.set level.val t.next level.isLt)

/-- The spare stage over the levels 0 to 7 (R67). -/
def spareStage (shares : ShareTable) (demand : Quad Nat) (x : Spare × Vector Tenant 8) : Spare × Vector Tenant 8 :=
  [(0 : Fin 8), 1, 2, 3, 4, 5, 6, 7].foldl (spareLevel shares demand) x

/-- The plan of a frame start, and the rotation pointers after it (R62 to R71). -/
def planFrame (i : PlanInputs) : Plan × Vector Tenant 8 :=
  let controls := i.controls
  let left := i.blocks - 1 - controls.length
  let reserved := reservedBlocks i.testRequest left
  let capacity := left - reserved
  let demand : Quad Nat := Quad.ofFn fun t => demandOf i.link (i.xoff.get t) (i.offers.get t) capacity
  let committed : Quad Nat := Quad.ofFn fun t => committedOf (demand.get t) capacity (i.shares.get t).share
  let (spare, pointers) :=
    spareStage i.shares demand ({ left := capacity - committed.sum, grants := committed, last := none }, i.pointers)
  let spareTest := spareTestBlocks i.testRequest spare.left
  ({ blocks := i.blocks, controls := controls, request := i.testRequest, testBlocks := reserved + spareTest,
     capacity := capacity,
     tenants := Quad.ofFn fun t =>
       { offer := i.offers.get t, demand := demand.get t, committed := committed.get t, grant := spare.grants.get t },
     idle := i.blocks - 1 - controls.length - (reserved + spareTest) - spare.grants.sum, spareLeft := spare.left },
   pointers)

/-- The grant of a tenant in a plan. -/
def Plan.grant (p : Plan) (t : Tenant) : Nat := (p.tenants.get t).grant

/-- Whether a request of a mode got fewer blocks than it asked (R80). -/
def Plan.short (p : Plan) (mode : ReserveMode) : Bool :=
  match p.request with
  | some (m, t) => m == mode && p.testBlocks < t
  | none => false

/-- The planner counters after a run (R80). -/
def PlannerCounters.count (c : PlannerCounters) (up : Bool) (xoff : Quad Bool) (p : Plan) : PlannerCounters :=
  { planned := bump c.planned, plannedUp := bumpIf up c.plannedUp,
    reserveLimited := bumpIf (p.short .reserved) c.reserveLimited,
    spareShort := bumpIf (p.short .spare) c.spareShort, idleBlocks := addCount c.idleBlocks p.idle,
    committed := Quad.ofFn fun t => addCount (c.committed.get t) (p.tenants.get t).committed,
    spare := Quad.ofFn fun t => addCount (c.spare.get t) ((p.tenants.get t).grant - (p.tenants.get t).committed),
    xoffHeld := Quad.ofFn fun t => bumpIf (up && xoff.get t && 0 < (p.tenants.get t).offer) (c.xoffHeld.get t) }

/-- The planner after a run: the pointers, the plan kept for status, the counters (R68, R79, R80). -/
def Planner.ran (n : Planner) (frame : BitVec 32) (up : Bool) (xoff : Quad Bool) (r : Plan × Vector Tenant 8) : Planner :=
  { n with pointers := r.2, last := some (frame, r.1), counters := n.counters.count up xoff r.1 }

/-- SET_SHARES (R77, R78). -/
def doSetShares (table : ShareTable) (s : State) : State × Status × ReplyBody :=
  if ShareTable.ok table then (s.withPlanner { s.planner with shares := table }, .ok, .shares table)
  else (s, .badValue, .shares s.planner.shares)

end Sys2Proof.Machine
end

