-- ==== Sys2Proof/Machine/Egress.lean ====
section
/-! DEFINITION. The egress side of one Tenant Unit (05): the reassembly record, completed packets, the egress buffer and
its delivery, the hold input, TENANT_OFF and the WARM reset on this side. -/

namespace Sys2Proof.Machine

/-- What a TENANT block completes. -/
inductive Completion where
  | nothing
  | packet (p : Packet)
  deriving DecidableEq, Repr

/-- The check state's count over the bytes of one block of a TEST packet: `start` is the packet offset of its first
data byte; only packet bytes after the 24-byte descriptor and within the length are compared (R86, R152). -/
def packetDiffering (descriptor : List Byte) (start length : Nat) (data : List Byte) : Nat :=
  let inside := data.take (length - start)
  differing (patternAt descriptor 3) 0 (start - 24) (inside.drop (24 - start))

/-- A packet opened by its first block (R84, R86). -/
def Packet.opened (g : Segment) (bad : Bool) : Packet :=
  { length := g.length, total := blocksFor g.length, received := 1, errored := bad, origin := g.origin,
    data := match g.origin with
      | .tenant => g.data
      | .test => g.data.take 24,
    differing := match g.origin with
      | .tenant => 0
      | .test => packetDiffering (g.data.take 24) 0 g.length g.data }

/-- A packet with a further block taken into it (R85, R86). DESIGN CHOICE (log entry 48): R82 gives blocks received as 1 to
13 and R85 keeps a packet with more blocks than its total in progress; the count goes on past 13, and status shows it. -/
def Packet.continued (p : Packet) (g : Segment) (bad : Bool) : Packet :=
  { p with received := p.received + 1, errored := p.errored || bad,
           data := match p.origin with
             | .tenant => p.data ++ g.data
             | .test => p.data,
           differing := match p.origin with
             | .tenant => p.differing
             | .test => p.differing + packetDiffering p.data (Config.segmentBytes * p.received) p.length g.data }

/-- The counters of a block routed to the record, and the gap check with the next expected sequence (R83, R96). -/
def TenantUnit.gapCheck (u : TenantUnit) (g : Segment) (bad : Bool) : TenantUnit :=
  let c := { u.egressCounters with blocks := bump u.egressCounters.blocks,
                                   badBlocks := bumpIf bad u.egressCounters.badBlocks }
  if u.expected = none ∨ u.expected = some g.seq then
    { u with expected := some (g.seq + 1), egressCounters := c }
  else
    { u with expected := some (g.seq + 1), packet := none,
             egressCounters := { c with gaps := bump c.gaps, lossesGap := bumpIf u.packet.isSome c.lossesGap } }

/-- The packet in progress discarded as a descriptor error (R84, R85). -/
def TenantUnit.descriptorError (u : TenantUnit) : TenantUnit :=
  { u with packet := none,
           egressCounters := { u.egressCounters with descriptorErrors := bump u.egressCounters.descriptorErrors } }

/-- A block whose first flag is set (R84). -/
def TenantUnit.firstBlock (u : TenantUnit) (g : Segment) (bad : Bool) : TenantUnit × Completion :=
  let u1 : TenantUnit :=
    { u with packet := none,
             egressCounters := { u.egressCounters with
               lossesRestart := bumpIf u.packet.isSome u.egressCounters.lossesRestart } }
  if g.length < 64 ∨ 1536 < g.length then (u1.descriptorError, .nothing)
  else if g.last then
    if blocksFor g.length = 1 then (u1, .packet (Packet.opened g bad)) else (u1.descriptorError, .nothing)
  else ({ u1 with packet := some (Packet.opened g bad) }, .nothing)

/-- A block whose first flag is clear (R85). A packet that has all its blocks without the last flag, or the last flag
below all its blocks, does not match its own length; every other packet stays in progress, one with more blocks than its
total among them. -/
def TenantUnit.continuationBlock (u : TenantUnit) (g : Segment) (bad : Bool) : TenantUnit × Completion :=
  match u.packet with
  | none =>
    ({ u with egressCounters := { u.egressCounters with orphans := bump u.egressCounters.orphans } }, .nothing)
  | some p =>
    if g.origin ≠ p.origin then (u.descriptorError, .nothing)
    else
      let p1 := p.continued g bad
      if p1.received = p1.total ∧ g.last = true then ({ u with packet := none }, .packet p1)
      else if p1.received = p1.total ∨ (p1.received < p1.total ∧ g.last = true) then (u.descriptorError, .nothing)
      else ({ u with packet := some p1 }, .nothing)

/-- A TENANT block taken by the reassembly record (R83 to R85). -/
def TenantUnit.takeBlock (u : TenantUnit) (g : Segment) (bad : Bool) : TenantUnit × Completion :=
  if g.first then (u.gapCheck g bad).firstBlock g bad else (u.gapCheck g bad).continuationBlock g bad

/-! ## The egress buffer and delivery -/

/-- A moment at which a delivery could begin: where an entry is there and none is in progress, the hold input is sampled,
and a delivery begins when it is released (R91, R92). -/
def TenantUnit.beginDelivery (u : TenantUnit) : TenantUnit :=
  match u.egress with
  | [] => u
  | e :: _ =>
    if u.delivering then u
    else if u.hold then { u with holdSeen := true }
    else { u with holdSeen := false, delivering := true, portErrored := e.errored }

/-- Room in the egress buffer for `b` blocks (R89). -/
def TenantUnit.egressRoom (u : TenantUnit) (b : Nat) : Bool :=
  egressOccupancy u.egress + b ≤ Config.maxBlocks && u.egress.length < Config.maxEntries

/-- A completed TENANT packet by the ordered tests of R88; the mark says that it was discarded for want of room (R89). -/
def TenantUnit.completeTenant (u : TenantUnit) (p : Packet) : TenantUnit × Bool :=
  let c := u.egressCounters
  if u.state = .off then ({ u with egressCounters := { c with discardedOff := bump c.discardedOff } }, false)
  else if p.errored = true ∧ u.record.deliverErrored = false then
    ({ u with egressCounters := { c with erroredDiscarded := bump c.erroredDiscarded } }, false)
  else if u.egressRoom p.total = false then
    ({ u with egressCounters := { c with overruns := bump c.overruns } }, true)
  else
    ((({ u with
          egress := u.egress ++ [{ length := p.length, blocks := p.total, errored := p.errored,
                                   data := p.data.take p.length }],
          egressCounters := { c with erroredBuffered := bumpIf p.errored c.erroredBuffered } } :
        TenantUnit).judgeXoff).beginDelivery, false)

/-- A completed TEST packet handed to the checker is counted (R87). -/
def TenantUnit.completeTest (u : TenantUnit) : TenantUnit :=
  { u with egressCounters := { u.egressCounters with testToChecker := bump u.egressCounters.testToChecker } }

/-- The delivery in progress ends: the entry leaves, is counted, and the next delivery may begin (R91, R94). -/
def TenantUnit.endDelivery (u : TenantUnit) : TenantUnit :=
  match u.egress with
  | [] => u
  | e :: rest =>
    if u.delivering then
      (({ u with egress := rest, delivering := false,
                 egressCounters := { u.egressCounters with
                   delivered := bumpIf (!e.errored) u.egressCounters.delivered,
                   erroredDelivered := bumpIf e.errored u.egressCounters.erroredDelivered } } :
        TenantUnit).judgeXoff).beginDelivery
    else u

/-- The egress side emptied by TENANT_OFF or a COMMAND-WARM reset: a delivery in progress is ended with the errored mark
shown and counted as aborted, every other entry as flushed (R93, R97). -/
def TenantUnit.emptyEgress (u : TenantUnit) : TenantUnit :=
  let aborted := u.delivering && !u.egress.isEmpty
  { u with egress := [], delivering := false, portErrored := u.portErrored || aborted,
           egressCounters := { u.egressCounters with
             aborted := bumpIf aborted u.egressCounters.aborted,
             flushed := addCount u.egressCounters.flushed (u.egress.length - aborted.toNat) } }

/-- The egress side at TENANT_OFF: the buffer emptied, the packet in progress discarded as a reassembly loss (restart),
no sequence expected, and the XOFF-sent state judged on an occupancy of 0 (R93). -/
def TenantUnit.flushEgress (u : TenantUnit) : TenantUnit :=
  let v := u.emptyEgress
  ({ v with packet := none, expected := none,
            egressCounters := { v.egressCounters with
              lossesRestart := bumpIf u.packet.isSome v.egressCounters.lossesRestart } } : TenantUnit).judgeXoff

/-- The egress side at a COMMAND-WARM reset (R97): as TENANT_OFF, but a packet in progress is not counted as a loss, and
the XOFF-sent state is cleared. -/
def TenantUnit.warmEgress (u : TenantUnit) : TenantUnit :=
  { u.emptyEgress with packet := none, expected := none, xoff := false }

end Sys2Proof.Machine
end

