-- ==== Sys2Proof/Machine/Ingress.lean ====
section
/-! DEFINITION. The ingress side of one Tenant Unit (03) and the cutting of its grant into TENANT blocks (4.6):
admission, aging, the offer, the blocks given, and the tenant record. -/

namespace Sys2Proof

/-- The check of SET_TENANT on the fields that are not limited (R39, R40): a halt of 0, a stale limit of 1 to 7 or above
65,535. -/
def TenantRecord.ok (r : TenantRecord) : Bool :=
  r.ingressHalt != 0 && r.egressHalt != 0 && (r.staleLimit == 0 || 8 ≤ r.staleLimit) && r.staleLimit ≤ 65535

/-- The limiting of the four flow-control levels (R41). -/
def TenantRecord.limited (r : TenantRecord) : TenantRecord :=
  let ih := min r.ingressHalt 1024
  let eh := min r.egressHalt 1024
  { r with ingressHalt := ih, ingressResume := min r.ingressResume (ih - 1),
           egressHalt := eh, egressResume := min r.egressResume (eh - 1) }

end Sys2Proof

namespace Sys2Proof.Machine

/-! ## Admission (R48 to R50) -/

/-- Room for a packet of `b` blocks: at most 1,024 unsent blocks in at most 256 entries (R48, R50). -/
def TenantUnit.hasRoom (u : TenantUnit) (b : Nat) : Bool :=
  occupancy u.queue + b ≤ Config.maxBlocks && u.queue.length < Config.maxEntries

/-- A packet appended at the tail of the queue with the next ingress sequence number (R49, R50). -/
def TenantUnit.append (u : TenantUnit) (frame : BitVec 32) (origin : Origin) (run : Option (BitVec 16))
    (step : Option Nat) (data : List Byte) : TenantUnit :=
  { u with
    queue := u.queue ++ [{ seq := u.nextSeq, length := data.length, total := blocksFor data.length, sent := 0,
                           arrival := frame, origin := origin, run := run, step := step, data := data }],
    nextSeq := u.nextSeq + 1 }

/-- A tenant packet at the port, by the ordered tests of R48; an admitted one is appended and the pause state judged
(R49, R51). -/
def TenantUnit.arrive (u : TenantUnit) (frame : BitVec 32) (bad : Bool) (data : List Byte) : TenantUnit :=
  let c := u.ingress
  if bad then { u with ingress := { c with bad := bump c.bad } }
  else if data.length < 64 ∨ 1536 < data.length then { u with ingress := { c with lengthErrors := bump c.lengthErrors } }
  else if u.state ≠ .active then { u with ingress := { c with refused := bump c.refused } }
  else if u.hasRoom (blocksFor data.length) = false then { u with ingress := { c with overrun := bump c.overrun } }
  else
    (({ u with ingress := { c with packets := bump c.packets,
                                   blocks := addCount c.blocks (blocksFor data.length) } } : TenantUnit).append
      frame .tenant none none data).judgePause

/-- Whether the queue takes an offered test packet (R50). -/
def TenantUnit.takesTest (u : TenantUnit) (length : Nat) : Bool := u.state.judged && u.hasRoom (blocksFor length)

/-- A test packet taken by the queue (R50), the pause state judged (R51). -/
def TenantUnit.takeTest (u : TenantUnit) (frame : BitVec 32) (run : BitVec 16) (step : Nat) (data : List Byte) :
    TenantUnit :=
  (({ u with ingress := { u.ingress with testTaken := bump u.ingress.testTaken } } : TenantUnit).append
    frame .test (some run) (some step) data).judgePause

/-! ## Aging (R53) -/

/-- Whether an entry at the head is removed by aging at the frame start of a counter value: it is not started and its
age, taken modulo 2³², is greater than the stale limit; a stale limit of 0 turns aging off (R53). -/
def Entry.stale (limit : Nat) (frame : BitVec 32) (e : Entry) : Bool :=
  e.sent == 0 && limit != 0 && limit < (frame - e.arrival).toNat

/-- The entries that aging removes from the head of a queue, and the queue it leaves (R53). -/
def ageQueue (limit : Nat) (frame : BitVec 32) : List Entry → List Entry × List Entry
  | [] => ([], [])
  | e :: q =>
    if e.stale limit frame then
      let r := ageQueue limit frame q
      (e :: r.1, r.2)
    else ([], e :: q)

/-- The counters after entries removed by aging (R53, R56). -/
def IngressCounters.aged (c : IngressCounters) (removed : List Entry) : IngressCounters :=
  { c with staleRemovals := addCount c.staleRemovals (removed.filter fun e => e.origin == .tenant).length,
           testAged := addCount c.testAged (removed.filter fun e => e.origin == .test).length }

/-- Aging at a frame start: the unit, and the entries removed. -/
def TenantUnit.age (u : TenantUnit) (frame : BitVec 32) : TenantUnit × List Entry :=
  let r := ageQueue u.record.staleLimit frame u.queue
  ({ u with queue := r.2, ingress := u.ingress.aged r.1 }, r.1)

/-- The head removed by aging ahead of the frame start (the row STALE_REMOVAL), when it is stale; the pause state is
judged (R53). -/
def TenantUnit.ageHead (u : TenantUnit) (frame : BitVec 32) : Option (TenantUnit × Entry) :=
  match u.queue with
  | [] => none
  | e :: q =>
    if e.stale u.record.staleLimit frame then
      some (({ u with queue := q, ingress := u.ingress.aged [e], agedEarly := true } : TenantUnit).judgePause, e)
    else none

/-! ## The offer and the blocks given (R54, R73 to R75) -/

/-- Whether the planner may send an entry in a tenant state (R54). -/
def eligible (state : TenantState) (e : Entry) : Bool :=
  match state with
  | .active => true
  | .draining => true
  | .pending => e.origin == .test
  | .off => false

/-- The queue's offer: the unsent blocks of its eligible entries (R54). -/
def TenantUnit.offer (u : TenantUnit) : Nat := occupancy (u.queue.filter (eligible u.state))

/-- The next block of an entry, with a block sequence (R73, R74). -/
def Entry.segment (e : Entry) (seq : BitVec 8) : Segment :=
  { first := e.sent == 0, last := e.sent + 1 == e.total, origin := e.origin, seq := seq,
    length := if e.sent = 0 then e.length else 0,
    data := (e.data.drop (Config.segmentBytes * e.sent)).take Config.segmentBytes }

/-- What a queue gives to a grant: the queue left, the block sequence after it, the blocks in order, and the entries
that left the queue with their last block given (R54). -/
structure Given where
  queue : List Entry
  seq : BitVec 8
  segments : List Segment
  left : List Entry
  deriving DecidableEq, Repr

/-- The blocks of a grant given from the head onward (R54, R75). -/
def giveBlocks : Nat → List Entry → BitVec 8 → Given
  | 0, q, seq => { queue := q, seq := seq, segments := [], left := [] }
  | _ + 1, [], seq => { queue := [], seq := seq, segments := [], left := [] }
  | n + 1, e :: q, seq =>
    let e' : Entry := { e with sent := e.sent + 1 }
    if e.total ≤ e.sent + 1 then
      let r := giveBlocks n q (seq + 1)
      { r with segments := e.segment seq :: r.segments, left := e' :: r.left }
    else
      let r := giveBlocks n (e' :: q) (seq + 1)
      { r with segments := e.segment seq :: r.segments }

/-- The unit after it has given a grant, the pause state judged on the occupancy that results (R51, R54, R73). -/
def TenantUnit.gave (u : TenantUnit) (g : Given) : TenantUnit :=
  ({ u with queue := g.queue, blockSeq := g.seq, agedEarly := false,
            ingress := { u.ingress with packetsSent := addCount u.ingress.packetsSent g.left.length,
                                        blocksSent := addCount u.ingress.blocksSent g.segments.length } } :
    TenantUnit).judgePause

/-! ## Removal and drain -/

/-- Whether an entry is an unstarted TEST entry of a step of a run (R158, R159). -/
def Entry.unstartedOf (run : BitVec 16) (step : Nat) (e : Entry) : Bool :=
  e.origin == .test && e.run == some run && e.step == some step && e.sent == 0

/-- The unstarted TEST entries of a step removed, the pause state judged; with the number removed (R159). -/
def TenantUnit.removeTest (u : TenantUnit) (run : BitVec 16) (step : Nat) : TenantUnit × Nat :=
  let kept := u.queue.filter fun e => !e.unstartedOf run step
  (({ u with queue := kept } : TenantUnit).judgePause, u.queue.length - kept.length)

/-- The ingress side at TENANT_OFF: every entry removed and counted as flushed, pause released, the tenant OFF (R46). -/
def TenantUnit.flushIngress (u : TenantUnit) : TenantUnit :=
  { u with queue := [], paused := false, state := .off, agedEarly := false,
           ingress := { u.ingress with flushed := addCount u.ingress.flushed u.queue.length } }

/-- A drain completes: a DRAINING tenant with an empty queue becomes OFF, its pause output is released, and the TENANT
notice is raised; the egress side is left as it stands (R45). -/
def drainIfEmpty (t : Tenant) (s : State) : State :=
  if (s.tenant t).state = .draining ∧ (s.tenant t).queue = [] then
    (s.withTenant t { s.tenant t with state := .off, paused := false }).raiseTenant t .draining .drained .plain
  else s

end Sys2Proof.Machine
end

