-- ==== Sys2Proof/Machine/Ladder.lean ====
section
/-! DEFINITION. The Profile Ladder (02): samples, down-steps and up-steps, the forced profile, the profile requested of
the far end and the tx profile, and SET_LINK. -/

namespace Sys2Proof

/-- The threshold of a profile (R24). -/
def LinkRecord.threshold (r : LinkRecord) (p : Nat) : Nat := r.thresholds.toList.getD p 0

/-- Whether every threshold is at least the one below it (R25). -/
def LinkRecord.nonDecreasing (r : LinkRecord) : Bool :=
  (List.range 7).all fun p => r.threshold p ≤ r.threshold (p + 1)

/-- The check of SET_LINK on a complete link record (R25). -/
def LinkRecord.ok (r : LinkRecord) : Bool :=
  r.threshold 0 == 0 && r.thresholds.toList.all (· ≤ 255) && r.nonDecreasing && r.hysteresis ≤ 40 &&
    64 ≤ r.upDwell && r.upDwell ≤ 65535 && r.cap ≤ 7

/-- The highest profile whose threshold is at most `m` (R28). -/
def LinkRecord.highestAt (r : LinkRecord) (m : Nat) : Nat :=
  (List.range 8).foldl (fun best p => if r.threshold p ≤ m then p else best) 0

end Sys2Proof

namespace Sys2Proof.Machine

/-- The down test of R28 on one sample: the ladder, and whether it made a down-step. -/
def Ladder.judgeDown (l : Ladder) (x : Nat) : Ladder × Bool :=
  if x < l.record.threshold l.rp then
    match l.confirm with
    | none => ({ l with confirm := some x }, false)
    | some h =>
      ({ l with rp := l.record.highestAt (min h x), confirm := none, dwell := 0,
                counters := { l.counters with downSteps := bump l.counters.downSteps } }, true)
  else ({ l with confirm := none }, false)

/-- Whether a sample passes the up test of R29. -/
def Ladder.passesUp (l : Ladder) (x : Nat) : Bool :=
  l.rp < 7 && l.record.threshold (l.rp + 1) + l.record.hysteresis ≤ x

/-- The up test of R29 on one sample: the ladder, and whether it made an up-step. -/
def Ladder.judgeUp (l : Ladder) (x : Nat) : Ladder × Bool :=
  if l.passesUp x then
    if l.record.upDwell ≤ l.dwell + 1 then
      ({ l with rp := l.rp + 1, dwell := 0, counters := { l.counters with upSteps := bump l.counters.upSteps } }, true)
    else ({ l with dwell := l.dwell + 1 }, false)
  else ({ l with dwell := 0 }, false)

/-- One SNR sample taken (R27): stored, counted when it lies below the threshold of the profile last requested (R36),
then judged by R28 and R29. A sample below R_p fails the up test (R29), so after R28 found it below, the dwell is 0. -/
def Ladder.sample (l : Ladder) (requested x : Nat) : Ladder × List ProfileCause :=
  let l0 : Ladder :=
    { l with lastSample := some x,
             counters := { l.counters with
               belowRequested := bumpIf (x < l.record.threshold requested) l.counters.belowRequested } }
  let (l1, down) := l0.judgeDown x
  if x < l0.record.threshold l0.rp then
    ({ l1 with dwell := 0 }, if down then [.recommendDown] else [])
  else
    let (l2, up) := l1.judgeUp x
    (l2, if up then [.recommendUp] else [])

/-- An SNR sample given to the ladder, with the PROFILE notices it raises (R27 to R29). -/
def giveSample (x : Nat) (s : State) : State :=
  let (l, causes) := s.ladder.sample s.link.reqSent x
  causes.foldl State.raiseProfile (s.withLadder l)

/-- The ladder's part of the entry to DOWN, without its notice (R30). -/
def Ladder.linkDown (l : Ladder) : Ladder := { l with rp := 0, dwell := 0, confirm := none }

/-- The ladder at the Link Receiver's entry to DOWN (R30). -/
def ladderEntersDown (s : State) : State :=
  let s1 := s.withLadder s.ladder.linkDown
  if 0 < s.ladder.rp then s1.raiseProfile .linkDown else s1

/-- The forced profile set or replaced (R31). -/
def setForce (p : Nat) (s : State) : State :=
  (s.withLadder { s.ladder with forced := some p }).raiseProfile .forceSet

/-- The forced profile removed (R31); nothing happens when none is present. -/
def removeForce (s : State) : State :=
  if s.ladder.forced.isSome then (s.withLadder { s.ladder with forced := none }).raiseProfile .forceRemoved else s

/-- The requested profile and force indication for the header of a frame start (R11, R32). -/
def State.requestedProfile (s : State) : Nat × Bool :=
  if s.link.state = .up then
    match s.ladder.forced with
    | some p => (p, true)
    | none => if s.link.farForce then (s.link.farReq, false) else (s.ladder.rp, false)
  else (0, false)

/-- The tx profile of a frame start: in UP the lower of the far end's request and the cap, else P0 (R11, R34). -/
def State.nextTxProfile (s : State) : Nat :=
  if s.link.state = .up then min s.link.farReq s.ladder.record.cap else 0

/-- Whether the cap limits the tx profile of this frame start (R34). -/
def State.cappedNow (s : State) : Bool := s.link.state = .up && s.ladder.record.cap < s.link.farReq

/-- A link record put in force with the effects of R26. -/
def Ladder.takeRecord (l : Ladder) (r : LinkRecord) : Ladder := { l with record := r, dwell := 0, confirm := none }

/-- SET_LINK (R25, R26). -/
def doSetLink (r : LinkRecord) (s : State) : State × Status × ReplyBody :=
  if r.ok then (s.withLadder (s.ladder.takeRecord r), .ok, .linkRecord r)
  else (s, .badValue, .linkRecord s.ladder.record)

end Sys2Proof.Machine
end

