-- ==== Sys2Proof/Machine/TimeBase.lean ====
section
/-! DEFINITION. The Time Base (06): the advance of local time, the second boundary, captures and the phase comparator,
the pulse qualifiers, and the check of the timing record. -/

namespace Sys2Proof

/-- A level of the source table: 0 to 3, or NOT_USED (R110). -/
def levelOk (l : Option Nat) : Bool :=
  match l with
  | none => true
  | some n => n ≤ 3

/-- The check of SET_TIMING (R110, R111). -/
def TimingRecord.ok (r : TimingRecord) : Bool :=
  levelOk r.gnssLevel && levelOk r.extLevel && levelOk r.linkLevel &&
    r.pulseKp ≤ 65535 && r.pulseKi ≤ 65535 && r.linkKp ≤ 65535 && r.linkKi ≤ 65535 &&
    100 ≤ r.stepThreshold && r.stepThreshold ≤ 1000000 && 8 ≤ r.lockWindow && r.lockWindow ≤ 10000 &&
    60 ≤ r.holdoverLimit && r.holdoverLimit ≤ 86400 && 64 ≤ r.timingPeriod && r.timingPeriod ≤ 4096 &&
    r.ltx ≤ 65535 && r.lrx ≤ 65535 && -10000 ≤ r.asymmetry && r.asymmetry ≤ 10000

end Sys2Proof

namespace Sys2Proof.Machine

/-! ## The advance of local time (R98, R103) -/

/-- Local time and the advance reading advanced by half nanoseconds. Where the advance ends on a boundary, that boundary
has been reached and its event has not been taken. -/
def TimeBase.advanceBy (dt : Nat) (b : TimeBase) : TimeBase :=
  if dt = 0 then b
  else
    { b with now := b.now.advance dt, advance := b.advance + dt,
             frameHere := (b.now.half + dt) % Config.halfPerFrame == 0,
             secondHere := (b.now.half + dt) % Config.halfPerSecond == 0 }

/-- The advance to the next second boundary; 0 when local time stands on one whose event has not been taken. -/
def TimeBase.toSecond (b : TimeBase) : Nat := if b.secondHere then 0 else Config.halfPerSecond - b.now.half

/-- The advance to the next frame boundary; 0 when local time stands on one whose frame has not started. -/
def TimeBase.toFrame (b : TimeBase) : Nat :=
  if b.frameHere then 0 else Config.halfPerFrame - b.now.half % Config.halfPerFrame

/-- Whether the next frame boundary is a second boundary whose event has not been taken: that event comes first (R98). -/
def TimeBase.secondFirst (b : TimeBase) : Bool :=
  b.secondHere || (!b.frameHere && b.now.half + b.toFrame == Config.halfPerSecond)

/-- The second boundary taken: local time advances to it, and a pending TIME_SET value replaces the increase of the
seconds (R98, R102). -/
def TimeBase.reachSecond (b : TimeBase) : TimeBase :=
  let r := b.advanceBy b.toSecond
  { r with now := { r.now with sec := r.pendingSet.getD r.now.sec }, pendingSet := none, secondHere := false }

/-- A change of local time other than by advance: a step that lands on a boundary starts no frame and raises no event
there (R4, R99). DESIGN CHOICE (log entry 24): where local time stands on a boundary reached by advance whose frame has not
started or whose second-boundary event has not been taken, the change is taken first and that frame and that event do not
come; the spec gives no order for the two falling together. -/
def TimeBase.stepBy (ns secs : Int) (b : TimeBase) : TimeBase :=
  { b with now := b.now.shift ns secs, frameHere := false, secondHere := false }

/-! ## The phase comparator (R104) -/

/-- m_raw in half nanoseconds from the capture's half nanoseconds within the second (R104). -/
def rawPhase (half : Nat) : Int := if half < 1000000000 then -(half : Int) else 2000000000 - (half : Int)

/-- The measurement m: m_raw rounded to the nearest multiple of 4 ns, halfway away from zero (R104). -/
def phaseMeasurement (half : Nat) : Int := 4 * rndDiv (rawPhase half) 8

/-! ## The pulse qualifiers (R105 to R109) -/

/-- The judgement of a pulse by its interval (R106). -/
inductive PulseJudgement where
  | noInterval | good | bad | spurious
  deriving DecidableEq, Repr

/-- The judgement of a pulse at an advance reading against the reference (R106). -/
def judgePulse (reference : Option Nat) (reading : Nat) : PulseJudgement :=
  match reference with
  | none => .noInterval
  | some r =>
    if reading - r < 1000000000 then .spurious
    else if 1999998000 ≤ reading - r ∧ reading - r ≤ 2000002000 then .good
    else .bad

/-- The source state and the two counts after a judged pulse (R107). -/
def Qualifier.judged (q : Qualifier) (j : PulseJudgement) : Qualifier :=
  match j, q.state with
  | .noInterval, .absent => { q with state := .qualifying, good := 0, bad := 0 }
  | .noInterval, _ => q
  | .good, .absent => q
  | .good, .qualified => { q with bad := 0 }
  | .good, _ =>
    if 8 ≤ q.good + 1 then { q with state := .qualified, good := 0, bad := 0 }
    else { q with good := q.good + 1, bad := 0 }
  | _, .absent => q
  | _, .faulted => { q with bad := min (q.bad + 1) 3, good := 0 }
  | _, .qualifying =>
    if 3 ≤ q.bad + 1 then
      { q with state := .faulted, good := 0, bad := 0, counters := { q.counters with faults := bump q.counters.faults } }
    else { q with bad := q.bad + 1, good := 0 }
  | _, .qualified =>
    if 3 ≤ q.bad + 1 then
      { q with state := .faulted, good := 0, bad := 0, counters := { q.counters with faults := bump q.counters.faults } }
    else { q with bad := q.bad + 1 }

/-- A pulse captured at an advance reading: judged, and the reference and the last pulse moved (R106, R107, R116). -/
def Qualifier.pulse (q : Qualifier) (reading : Nat) (capture : LocalTime) : Qualifier × PulseJudgement :=
  let j := judgePulse q.reference reading
  ({ q.judged j with
       reference := if j = .spurious then q.reference else some reading, lastPulse := some reading,
       lastCapture := some capture,
       counters := { (q.judged j).counters with
         pulses := bump q.counters.pulses, good := bumpIf (j = .good) q.counters.good,
         badIntervals := bumpIf (j = .bad) q.counters.badIntervals,
         spurious := bumpIf (j = .spurious) q.counters.spurious } }, j)

/-- The absence of an input expires (R108). -/
def Qualifier.expire (q : Qualifier) : Qualifier :=
  { q with state := .absent, reference := none, lastPulse := none, lastM := none, good := 0, bad := 0,
           counters := { q.counters with absences := bump q.counters.absences } }

/-- The qualifier of a pulse input. -/
def TimeBase.qualifier (b : TimeBase) : PulseInput → Qualifier
  | .gnss => b.gnss
  | .ext => b.ext

/-- The qualifier of a pulse input replaced; the other is not touched (6.4). -/
def TimeBase.withQualifier (b : TimeBase) (i : PulseInput) (q : Qualifier) : TimeBase :=
  match i with
  | .gnss => { b with gnss := q }
  | .ext => { b with ext := q }

/-- Whether an input's absence supervision runs, and the advance reading at which it expires (R108). -/
def Qualifier.expiryAt (q : Qualifier) : Option Nat :=
  if q.state = .absent then none else q.lastPulse.map (· + Config.halfPerAbsence)

/-- Whether local time has advanced past an input's expiry without its ABSENCE_EXPIRY having been taken. -/
def TimeBase.overdue (b : TimeBase) (i : PulseInput) : Bool :=
  match (b.qualifier i).expiryAt with
  | some e => e < b.advance
  | none => false

/-- The advance from the present moment to an input's expiry. -/
def TimeBase.toExpiry (b : TimeBase) (i : PulseInput) : Nat :=
  match (b.qualifier i).expiryAt with
  | some e => e - b.advance
  | none => 0

end Sys2Proof.Machine
end

