-- ==== Sys2Proof/Machine/Servo.lean ====
section
/-! DEFINITION. The Servo (08): the taking of a selection, the stages of a measurement, holdover and its aging, the
second's counting, TIMING_RESTART. -/

namespace Sys2Proof.Machine

/-! ## The exchange table at a change of local time (R126) -/

/-- The exchange table emptied, its entries counted as abandoned (R126). -/
def Transfer.abandonExchanges (x : Transfer) : Transfer :=
  { x with exchanges := [],
           counters := { x.counters with
             entriesAbandoned := addCount x.counters.entriesAbandoned x.exchanges.length } }

/-- The response list emptied, its entries counted as abandoned (R120). -/
def Transfer.abandonResponses (x : Transfer) : Transfer :=
  { x with responses := [],
           counters := { x.counters with
             responsesAbandoned := addCount x.counters.responsesAbandoned x.responses.length } }

/-! ## The selected source and the timing state (R141, R143) -/

/-- Entry to HOLDOVER: S from F_hold, the elapsed time from 0 (R143). -/
def Timing.enterHoldover (t : Timing) : Timing :=
  { t with
    base := { t.base with steer := t.servo.fHold },
    servo := { t.servo with state := .holdover, selected := none, lock := 0, unlock := 0, lockedTime := 0, elapsed := 0,
                            agingDue := false,
                            counters := { t.servo.counters with
                              holdoverEntries := bump t.servo.counters.holdoverEntries } } }

/-- A selection taken by the Servo when it differs from the one held (R141). DESIGN CHOICE (log entry 43): an aging step
that a second boundary has made due and that has not been taken is dropped when HOLDOVER ends here. -/
def Timing.takeSelection (t : Timing) (sel : Option Source) : Timing :=
  if sel = t.servo.selected then t
  else
    match t.servo.selected, sel with
    | _, none =>
      if t.servo.everLocked then t.enterHoldover
      else { t with servo := { t.servo with state := .freerun, selected := none, lock := 0, unlock := 0, lockedTime := 0 } }
    | none, some x =>
      { t with servo := { t.servo with state := .acquiring, selected := some x, lock := 0, unlock := 0,
                                       agingDue := false } }
    | some _, some x => { t with servo := { t.servo with selected := some x } }

/-- The re-evaluation of the selection with what follows from it: the Servo's state and the class (R113, R141, R146). -/
def Timing.reselect (t : Timing) : Timing := (t.takeSelection t.selection).rejudge

/-! ## A measurement (R136 to R140) -/

end Sys2Proof.Machine

/-- The gains of a source's kind: Kp and Ki (R136). -/
def Sys2Proof.TimingRecord.gains (r : Sys2Proof.TimingRecord) : Sys2Proof.Source → Nat × Nat
  | .link => (r.linkKp, r.linkKi)
  | _ => (r.pulseKp, r.pulseKi)

namespace Sys2Proof.Machine

/-- The bound of the servo input: ±131,068 ns (R136). -/
def inputBound : Nat := 131068

/-- Whether the Servo acts on a measurement of a source: it is the selected one, in ACQUIRING or LOCKED (R136). -/
def Servo.actsOn (v : Servo) (src : Source) : Bool :=
  v.selected == some src && (v.state == .acquiring || v.state == .locked)

/-- Whether the step check makes a step or a full set (R137). -/
def Timing.stepNeeded (t : Timing) (src : Source) (m w : Int) : Bool :=
  t.servo.state == .acquiring && !t.servo.everLocked &&
    (t.base.record.stepThreshold < m.natAbs || (src == .link && w != 0))

/-- The offset step or the full set of R137, with its effects on a pending TIME_SET (R99) and on the exchange table
(R126); F, F_hold and S are not changed. A full set takes local time to its value plus m ns less W seconds. -/
def Timing.makeStep (t : Timing) (src : Source) (m w : Int) : Timing :=
  let c := t.servo.counters
  if src = .link then
    { base := { t.base.stepBy m (-w) with pendingSet := none },
      xfer := t.xfer.abandonExchanges,
      servo := { t.servo with lock := 0, unlock := 0, counters := { c with fullSets := bump c.fullSets } } }
  else
    { base := t.base.stepBy m 0,
      xfer := t.xfer.abandonExchanges,
      servo := { t.servo with lock := 0, unlock := 0, counters := { c with steps := bump c.steps } } }

/-- The new F before its clamp (R138). -/
def rawF (v : Servo) (e : Int) (ki : Nat) : Int := v.f + rndDiv (e * ki) 256

/-- The integral and steer stage (R138). -/
def Timing.steerStage (t : Timing) (e : Int) (gains : Nat × Nat) : Timing :=
  let f0 := rawF t.servo e gains.2
  let f := clampTo Config.steerBound f0
  let s0 := f + rndDiv (e * gains.1) 256
  let s := clampTo Config.steerBound s0
  let c := t.servo.counters
  { t with base := { t.base with steer := s },
           servo := { t.servo with f := f, counters := { c with fClamped := bumpIf (f != f0) c.fClamped,
                                                                sClamped := bumpIf (s != s0) c.sClamped } } }

/-- The averaging stage, in LOCKED only (R139). -/
def Timing.averageStage (t : Timing) : Timing :=
  if t.servo.state = .locked then
    { t with servo := { t.servo with fHold := t.servo.fHold + rndDiv (t.servo.f - t.servo.fHold) 16 } }
  else t

/-- The counting stage (R140). -/
def Timing.countStage (t : Timing) (e : Int) : Timing :=
  let v := t.servo
  let inside := e.natAbs ≤ t.base.record.lockWindow
  match v.state with
  | .acquiring =>
    if inside then
      if 16 ≤ v.lock + 1 then
        { t with servo := { v with state := .locked, lock := 0, unlock := 0, everLocked := true, lockedTime := 0,
                                   counters := { v.counters with lockEntries := bump v.counters.lockEntries } } }
      else { t with servo := { v with lock := v.lock + 1 } }
    else { t with servo := { v with lock := 0 } }
  | .locked =>
    if inside then { t with servo := { v with unlock := 0 } }
    else if 4 ≤ v.unlock + 1 then
      { t with servo := { v with state := .acquiring, lock := 0, unlock := 0, lockedTime := 0,
                                 counters := { v.counters with unlockEvents := bump v.counters.unlockEvents } } }
    else { t with servo := { v with unlock := v.unlock + 1 } }
  | _ => t

/-- The measurement counted as acted on, with the servo input e it forms (R136). -/
def Timing.takeInput (t : Timing) (src : Source) (m : Int) : Timing :=
  let e := clampTo inputBound m
  let c := t.servo.counters
  { t with servo := { t.servo with lastE := some (e, src),
                                   counters := { c with acted := bump c.acted,
                                                        inputClamped := bumpIf (e != m) c.inputClamped } } }

/-- A measurement handed to the Servo (R136 to R140), the class re-judged after it (R146). The mark says that a step or
a full set was made. -/
def Timing.measure (t : Timing) (src : Source) (m w : Int) : Timing × Bool :=
  if t.servo.actsOn src then
    let t1 := t.takeInput src m
    if t.stepNeeded src m w then (t1.makeStep src m w, true)
    else
      let e := clampTo inputBound m
      ((((t1.steerStage e (t.base.record.gains src)).averageStage).countStage e).rejudge, false)
  else
    ({ t with servo := { t.servo with counters := { t.servo.counters with
                                                      ignored := bump t.servo.counters.ignored } } }, false)

/-! ## Holdover and the second's counting (R144, R145) -/

/-- The counting of the Servo's two times at a second boundary, which may make a holdover aging step due (R144, R145). -/
def Servo.countSecond (v : Servo) : Servo :=
  match v.state with
  | .holdover =>
    let n := bump v.elapsed
    { v with elapsed := n, agingDue := v.agingDue || (n % 3600 == 0 && 0 < n) }
  | .locked => { v with lockedTime := bump v.lockedTime }
  | _ => v

/-- The holdover aging step with an aging rate (R145). -/
def Timing.ageStep (t : Timing) (rate : Int) : Timing :=
  let s0 := t.base.steer + rndDiv rate 24
  let s := clampTo Config.steerBound s0
  let c := t.servo.counters
  { t with base := { t.base with steer := s },
           servo := { t.servo with f := s, agingDue := false,
                                   counters := { c with agingSteps := bump c.agingSteps,
                                                        sClamped := bumpIf (s != s0) c.sClamped } } }

/-- Whether the holdover elapsed time has reached the limit and the class is still C3 (R144). -/
def Timing.limitReached (t : Timing) : Bool :=
  t.servo.state == .holdover && t.servo.cls == .c3 && t.base.record.holdoverLimit ≤ t.servo.elapsed

/-! ## TIMING_RESTART (R147) -/

/-- The Servo after TIMING_RESTART (R147). DESIGN CHOICE (log entry 43): an aging step due and not yet taken is dropped with
the HOLDOVER that the restart ends. -/
def Timing.restart (t : Timing) : Timing :=
  ({ t with servo := { t.servo with
      state := if t.servo.selected.isSome then .acquiring else .freerun,
      everLocked := false, lock := 0, unlock := 0, lockedTime := 0, elapsed := 0, agingDue := false } } : Timing).rejudge

/-- The causes of the notices of TIMING_RESTART: the change to FREERUN and the change to ACQUIRING are two changes of
timing state (R147, R148; log entry 16). -/
def restartCauses (before after : Timing) : List TimingCause :=
  causeIf (before.servo.state != .freerun) .stateChange ++
  causeIf (after.servo.state == .acquiring) .stateChange ++
  causeIf (before.servo.cls != after.servo.cls) .classChange ++ [.restart]

end Sys2Proof.Machine
end

