-- ==== Sys2Proof/Machine/Transfer.lean ====
section
/-! DEFINITION. The Time Transfer Unit (07): the HUB's SYNC schedule and response list, the TRAILER's exchange table,
the offset and delay of a completed exchange, and the LINK source. -/

namespace Sys2Proof.Machine

/-! ## The LINK source (R129 to R132) -/

/-- LINK becomes ABSENT: the accepted count, the previous delay and the last measurement go with it (R130, R132). -/
def LinkSource.toAbsent (l : LinkSource) : LinkSource :=
  { l with state := .absent, accepted := 0, previous := none, lastM := none, expiryDue := false }

/-- LINK becomes QUALIFYING from ABSENT (R130). -/
def LinkSource.toQualifying (l : LinkSource) : LinkSource :=
  { l with state := .qualifying, accepted := 0, previous := none, since := 0, expiryDue := false }

/-- A hub class that does not disqualify LINK: C1 to C3 (R130). -/
def QClassGood (c : QClass) : Bool := c.num ≤ 3

/-- LINK at the Link Receiver's entry to UP, in the TRAILER role (R130). -/
def LinkSource.entersUp (l : LinkSource) : LinkSource :=
  if l.state = .absent ∧ (l.hubClass.map QClassGood).getD true = true then l.toQualifying else l

/-- The hub class of a SYNC stored and judged (R123, R130, R131); the mark says that it disqualified LINK. -/
def LinkSource.judgeHubClass (l : LinkSource) (c : QClass) (up : Bool) : LinkSource × Bool :=
  let l1 := { l with hubClass := some c }
  if QClassGood c then (if l.state = .absent ∧ up = true then l1.toQualifying else l1, false)
  else if l.state = .absent then (l1, false)
  else (l1.toAbsent, true)

/-- One frame start of the supervision (R130, R133): the count increases while LINK is QUALIFYING or QUALIFIED, and
reaching 8 times the timing period makes the expiry due. -/
def LinkSource.supervise (l : LinkSource) (period : Nat) : LinkSource :=
  if l.state = .absent then l
  else { l with since := l.since + 1, expiryDue := l.expiryDue || decide (8 * period ≤ l.since + 1) }

/-! ## The HUB side (R119 to R121) -/

/-- The SYNC countdown of a frame start (R119). -/
def Transfer.countdownTick (x : Transfer) : Transfer := { x with countdown := x.countdown - 1 }

/-- A DELAY_REQ taken by the HUB (R120). -/
def Transfer.takeReq (x : Transfer) (seq : BitVec 16) (t4 : Stamp) : Transfer :=
  let c := { x.counters with reqTaken := bump x.counters.reqTaken }
  if x.responses.any fun r => r.seq == seq then { x with counters := { c with duplicates := bump c.duplicates } }
  else if 4 ≤ x.responses.length then { x with counters := { c with listFull := bump c.listFull } }
  else { x with responses := x.responses ++ [{ seq := seq, t4 := t4 }], counters := c }

/-- The HUB's offer: the timing-slot arbiter (R121). -/
def Transfer.hubOffer (x : Transfer) (link : LinkState) : Option ControlKind :=
  match link with
  | .up => if x.responses.isEmpty = false then some .delayResp else if x.countdown = 0 then some .sync else none
  | .acquire => if x.countdown = 0 then some .sync else none
  | .down => none

/-- A SYNC placed: its sequence is used up and the countdown starts from the timing period (R119). -/
def Transfer.syncPlaced (x : Transfer) (period : Nat) : Transfer :=
  { x with syncSeq := x.syncSeq + 1, countdown := period,
           counters := { x.counters with syncSent := bump x.counters.syncSent } }

/-- A DELAY_RESP placed: the oldest entry leaves the list (R121). -/
def Transfer.respPlaced (x : Transfer) : Transfer :=
  { x with responses := x.responses.tail, counters := { x.counters with respSent := bump x.counters.respSent } }

/-! ## The TRAILER's exchange table (R122 to R126) -/

/-- The TRAILER's offer: a DELAY_REQ while an entry has no t3 (R124). -/
def Transfer.trailerOffer (x : Transfer) (link : LinkState) : Option ControlKind :=
  if link ≠ .down ∧ (x.exchanges.any fun e => e.t3.isNone) = true then some .delayReq else none

/-- The oldest entry without t3 (R124). -/
def Transfer.nextReq (x : Transfer) : Option Exchange := x.exchanges.find? fun e => e.t3.isNone

/-- The t3 of the oldest entry without one formed (R124). -/
def placeReq (t3 : Stamp) : List Exchange → List Exchange
  | [] => []
  | e :: r => if e.t3.isNone then { e with t3 := some t3 } :: r else e :: placeReq t3 r

/-- A DELAY_REQ placed (R124). -/
def Transfer.reqPlaced (x : Transfer) (t3 : Stamp) : Transfer :=
  { x with exchanges := placeReq t3 x.exchanges, counters := { x.counters with reqSent := bump x.counters.reqSent } }

/-- A SYNC entered in the exchange table: an entry with its sequence goes, and the oldest of four (R123). -/
def Transfer.enterSync (x : Transfer) (seq : BitVec 16) (t1 t2 : Stamp) (frame : BitVec 32) : Transfer :=
  let kept := x.exchanges.filter fun e => e.seq != seq
  let room := if 4 ≤ kept.length then kept.tail else kept
  { x with exchanges := room ++ [{ seq := seq, t1 := t1, t2 := t2, t3 := none, t4 := none, frame := frame }],
           counters := { x.counters with displaced := addCount x.counters.displaced (x.exchanges.length - room.length) } }

/-- Whether an entry has reached an age of 64 frames at the frame start of a counter value (R126). -/
def Exchange.timedOut (frame : BitVec 32) (e : Exchange) : Bool := 64 ≤ (frame - e.frame).toNat

/-- The timeouts of a frame start (R126). -/
def Transfer.timeouts (x : Transfer) (frame : BitVec 32) : Transfer :=
  let kept := x.exchanges.filter fun e => !e.timedOut frame
  { x with exchanges := kept,
           counters := { x.counters with timeouts := addCount x.counters.timeouts (x.exchanges.length - kept.length) } }

/-! ## Offset and delay (R127, R128) -/

/-- A difference brought into the range above −500,000,000 and up to +500,000,000 ns (R127). -/
def reduceDiff (x : Int) : Int := (x + 499999999) % 1000000000 - 499999999

/-- The whole seconds removed by the reduction: W for t2 − t1 (R127). -/
def wholeSeconds (x : Int) : Int := (x - reduceDiff x) / 1000000000

/-- Whether an exchange is accepted (R127). -/
def acceptable (a b : Int) : Bool := a.natAbs ≤ 1000000 && b.natAbs ≤ 1000000

/-- The offset o and the path delay d of an accepted exchange (R128). -/
def linkResult (a b asymmetry : Int) : LinkResult := { o := (a - b) / 2 - asymmetry, d := (a + b) / 2, a := a, b := b }

/-- The measurement m: −o rounded to the nearest multiple of 4 ns, halfway away from zero (R128). -/
def linkMeasurement (r : LinkResult) : Int := 4 * rndDiv (-r.o) 4

/-- A rejected exchange at the LINK source (R127, R132). -/
def LinkSource.reject (l : LinkSource) : LinkSource :=
  if l.state = .qualifying then { l with accepted := 0, previous := none } else l

/-- Whether d lies within 200 ns of the previous delay; true where there is none (R132). -/
def LinkSource.steady (l : LinkSource) (d : Int) : Bool :=
  match l.previous with
  | none => true
  | some p => (d - p).natAbs ≤ 200

/-- One more accepted exchange in QUALIFYING; the fourth makes LINK QUALIFIED (R132). -/
def LinkSource.advanceCount (l : LinkSource) : LinkSource :=
  if l.state = .qualifying then
    if 4 ≤ (if l.previous.isNone then 1 else l.accepted + 1) then { l with state := .qualified, accepted := 0 }
    else { l with accepted := if l.previous.isNone then 1 else l.accepted + 1 }
  else l

/-- An accepted exchange at the LINK source (R130, R132): the source, and whether its measurement is handed on. While
the source is ABSENT only the last o, d, a and b are updated. -/
def LinkSource.accept (l : LinkSource) (r : LinkResult) (m w : Int) : LinkSource × Bool :=
  if l.state = .absent then ({ l with result := some r }, false)
  else if l.steady r.d then
    ({ l.advanceCount with previous := some r.d, since := 0, expiryDue := false, result := some r, lastM := some (m, w) },
      true)
  else
    ({ l with state := .qualifying, accepted := 1, previous := some r.d, since := 0, expiryDue := false,
              result := some r }, false)

/-- A completed exchange judged (R127, R128, R132), before the selection is re-evaluated: the unit, and the measurement
with its W where one is handed on. -/
def Transfer.complete (x : Transfer) (t1 t2 t3 t4 : Stamp) (asymmetry : Int) : Transfer × Option (Int × Int) :=
  let a := reduceDiff (t2.diff t1)
  let w := wholeSeconds (t2.diff t1)
  let b := reduceDiff (t4.diff t3)
  let c := { x.counters with completed := bump x.counters.completed }
  if acceptable a b then
    let r := linkResult a b asymmetry
    let m := linkMeasurement r
    let (l, handed) := x.link.accept r m w
    let jump := x.link.state != .absent && !x.link.steady r.d
    ({ x with link := l, counters := { c with delayJumps := bumpIf jump c.delayJumps } },
      if handed then some (m, w) else none)
  else ({ x with link := x.link.reject, counters := { c with rejected := bump c.rejected } }, none)

/-- A DELAY_RESP taken by the TRAILER (R125): the exchange it completes leaves the table; without one it is ignored. -/
def Transfer.takeResp (x : Transfer) (seq : BitVec 16) (t4 : Stamp) (asymmetry : Int) : Transfer × Option (Int × Int) :=
  match x.exchanges.find? fun e => e.seq == seq && e.t3.isSome with
  | some { t1 := t1, t2 := t2, t3 := some t3, .. } =>
    ({ x with exchanges := x.exchanges.filter fun e => e.seq != seq }).complete t1 t2 t3 t4 asymmetry
  | _ => ({ x with counters := { x.counters with unmatched := bump x.counters.unmatched } }, none)

/-- The unit's part of a new timing record: in the HUB role the countdown is limited to the new period (R133). -/
def Transfer.limitCountdown (x : Transfer) (role : Option Role) (period : Nat) : Transfer :=
  if role = some .hub then { x with countdown := min x.countdown period } else x

end Sys2Proof.Machine
end

