-- ==== Sys2Proof/Machine/Tests.lean ====
section
/-! DEFINITION. The Test Controller (09): the steps of a run from start to end, injection, the checker, the reports, and
the requests SET_PATTERN, SET_STEP, TEST_START, TEST_ABORT, GET_RESULTS and ACCEPT_WAIVE. -/

namespace Sys2Proof

/-- The kind of a step (R153). -/
def StepBody.kind : StepBody → Machine.StepKind
  | .linkPattern .. => .linkPattern
  | .tenantPath .. => .tenantPath
  | .timingCross .. => .timingCross
  | .wait .. => .wait

/-- The ranges of a step's fields, a T above 64 apart (R153). -/
def StepBody.ok : StepBody → Bool
  | .linkPattern profile pattern blocks _ lead active tail errorLimit missLimit =>
    (profile.getD 0 ≤ 7) && pattern ≤ 3 && 1 ≤ blocks && lead ≤ 65535 && 1 ≤ active && active ≤ 65535 &&
      4 ≤ tail && tail ≤ 65535 && errorLimit ≤ 4294967295 && missLimit ≤ 4294967295
  | .tenantPath _ pattern packets length errorLimit missLimit =>
    pattern ≤ 3 && 1 ≤ packets && packets ≤ 65535 && 64 ≤ length && length ≤ 1536 && errorLimit ≤ 65535 &&
      missLimit ≤ 65535
  | .timingCross samples limit => 4 ≤ samples && samples ≤ 3600 && limit ≤ 1000000
  | .wait _ timeout => 1 ≤ timeout && timeout ≤ 3600

/-- A T above 64 taken as 64 (R153). -/
def StepBody.limited : StepBody → StepBody
  | .linkPattern profile pattern blocks mode lead active tail errorLimit missLimit =>
    .linkPattern profile pattern (min blocks 64) mode lead active tail errorLimit missLimit
  | b => b

/-- The profile a LINK_PATTERN step forces, where it forces one (R31, R156). -/
def StepBody.forces : StepBody → Option Nat
  | .linkPattern profile .. => profile
  | _ => none

end Sys2Proof

namespace Sys2Proof.Machine

/-! ## The current step -/

/-- The end mark of the headers: the run id while a run's step is in its TAIL phase (R10, R157). -/
def TestUnit.endMark (t : TestUnit) : Option (BitVec 16) :=
  match t.runState, t.work with
  | .running, some w => if w.phase = .tail then some t.runId else none
  | _, _ => none

/-- The test request to the planner: only in the ACTIVE phase of a LINK_PATTERN step (R72, R156). -/
def TestUnit.request (t : TestUnit) : Option (ReserveMode × Nat) :=
  match t.runState, t.work with
  | .running, some w =>
    match w.step.body, w.phase with
    | .linkPattern _ _ blocks mode .., .active => some (mode, blocks)
    | _, _ => none
  | _, _ => none

/-- The current step of a running run replaced. -/
def State.withWork (s : State) (w : Option Working) : State := s.withTest { s.test with work := w }

/-- The current step at its start, before its start conditions are judged: every working count 0 (R156 to R161). -/
def Working.fresh (i : Nat) (step : Step) (pattern : Pattern) : Working :=
  { index := i, step := step, phase := .waiting, remaining := 0, pattern := pattern, blocksSent := 0, lowest := none,
    made := 0, sent := 0, aged := 0, injectPause := false, report := none, samples := 0, sum := 0, deadline := 0,
    waited := 0 }

/-- The pattern entry a step names (R151); a step without one copies entry 0 and never uses it. -/
def TestUnit.patternFor (t : TestUnit) : StepBody → Pattern
  | .linkPattern _ k .. => t.patterns.at k
  | .tenantPath _ k .. => t.patterns.at k
  | _ => t.patterns.at 0

/-! ## Injection (R50, R158) -/

/-- The injection pause judged on the occupancy (R158). -/
def Working.judgeInjection (w : Working) (u : TenantUnit) : Working :=
  { w with injectPause := hysteresis u.record.ingressHalt u.record.ingressResume (occupancy u.queue) w.injectPause }

/-- Packets offered one at a time while the pause is clear, packets remain and the queue takes them (R50, R158). -/
def injectPackets (frame : BitVec 32) (run : BitVec 16) (count length : Nat) : Nat → TenantUnit × Working → TenantUnit × Working
  | 0, x => x
  | n + 1, (u, w) =>
    if w.injectPause = false ∧ w.made < count ∧ u.takesTest length = true then
      let u1 := u.takeTest frame run w.index (testPacketBytes run w.index w.pattern length)
      injectPackets frame run count length n (u1, { (w.judgeInjection u1) with made := w.made + 1 })
    else (u, w)

/-- An occasion of a TENANT_PATH step in ACTIVE on a tenant's queue: the pause is judged and packets are offered (R158).
A queue holds at most 256 entries, so 257 offers reach the first that is not taken. -/
def inject (t : Tenant) (s : State) : State :=
  match s.test.runState, s.test.work with
  | .running, some w =>
    match w.step.body, w.phase with
    | .tenantPath x _ packets length _ _, .active =>
      if x = t then
        let r := injectPackets s.link.frameCounter s.test.runId packets length 257
          (s.tenant t, w.judgeInjection (s.tenant t))
        (s.withTenant t r.1).withWork (some r.2)
      else s
    | _, _ => s
  | _, _ => s

/-- The entries of a list that are of the current step (R158). -/
def Working.ofStep (w : Working) (run : BitVec 16) (es : List Entry) : Nat :=
  (es.filter fun e => e.origin == .test && e.run == some run && e.step == some w.index).length

/-- The step's counts after entries sent and entries aged (R158). -/
def countPathEntries (sent aged : List Entry) (s : State) : State :=
  match s.test.runState, s.test.work with
  | .running, some w =>
    match w.step.body with
    | .tenantPath .. =>
      s.withWork (some { w with sent := w.sent + w.ofStep s.test.runId sent,
                                aged := w.aged + w.ofStep s.test.runId aged })
    | _ => s
  | _, _ => s

/-- The ACTIVE phase of a TENANT_PATH step ends when all its packets are made and every one is sent or aged; TAIL lasts
4 frame starts (R159). -/
def endPathActive (s : State) : State :=
  match s.test.runState, s.test.work with
  | .running, some w =>
    match w.step.body, w.phase with
    | .tenantPath _ _ packets .., .active =>
      if w.made = packets ∧ w.sent + w.aged = w.made then
        s.withWork (some { w with phase := .tail, remaining := 4 })
      else s
    | _, _ => s
  | _, _ => s

/-! ## The end of a step and of a run (R155) -/

/-- The counts of a results record (R166). -/
def Working.counts (w : Working) : StepCounts :=
  match w.step.body with
  | .linkPattern .. => .linkPattern w.blocksSent w.report w.lowest
  | .tenantPath .. => .tenantPath w.made w.sent w.aged w.report
  | .timingCross samples _ =>
    .timingCross w.samples (if samples ≤ w.samples then some (rndDiv w.sum w.samples) else none)
  | .wait .. => .wait w.waited

/-- A record appended to the results log (R155, R166). -/
def TestUnit.log (t : TestUnit) (w : Working) (v : Verdict) (r : EndReason) : TestUnit :=
  { t with results := t.results ++ [{ index := w.index, kind := w.step.body.kind, mandatory := w.step.mandatory,
                                      verdict := v, reason := r, counts := w.counts }] }

/-- The unstarted TEST entries of a TENANT_PATH step in ACTIVE removed from the tenant's queue and counted; a DRAINING
tenant whose queue this empties becomes OFF (R45, R159). -/
def removeStepEntries (w : Working) (s : State) : State :=
  match w.step.body, w.phase with
  | .tenantPath t .., .active =>
    let r := (s.tenant t).removeTest s.test.runId w.index
    drainIfEmpty t ((s.withTenant t r.1).withTest
      { s.test with counters := { s.test.counters with
                                    entriesRemoved := addCount s.test.counters.entriesRemoved r.2 } })
  | _, _ => s

/-- The end of the current step up to its notice: the force removed, its entries removed, its record logged, STEP_END
raised (R155). DESIGN CHOICE (log entry 53): the entries of R159 are removed before the record is logged. -/
def closeStep (w : Working) (v : Verdict) (r : EndReason) (s : State) : State :=
  let s1 := if w.step.body.forces.isSome then removeForce s else s
  let s2 := removeStepEntries w s1
  (s2.withTest { s2.test.log w v r with work := none }).raiseTest .stepEnd

/-- The later steps of a run logged SKIPPED, `n` of them from an index (R155, R165). DESIGN CHOICE (log entry 49): a step
that never started is logged with the counts of `Working.fresh`, every one 0 and nothing measured. -/
def skipSteps (reason : EndReason) : Nat → Nat → TestUnit → TestUnit
  | 0, _, t => t
  | n + 1, i, t =>
    match t.steps.toList.getD i none with
    | none => skipSteps reason n (i + 1) t
    | some step => skipSteps reason n (i + 1) (t.log (Working.fresh i step (t.patternFor step.body)) .skipped reason)

/-- The later steps of the run logged SKIPPED (R155, R165). -/
def skipRest (i : Nat) (reason : EndReason) (s : State) : State :=
  s.withTest (skipSteps reason (s.test.count - i) i s.test)

/-- Whether every mandatory step logged has the outcome PASS (R155). -/
def allMandatoryPass (rs : List ResultRecord) : Bool := rs.all fun r => !r.mandatory || r.verdict == .pass

/-- The run ends: DONE, the acceptance record when flagged, RUN_END (R155). A run that ends by abort leaves the acceptance
record unchanged (R165). -/
def finishRun (aborted : Bool) (s : State) : State :=
  (s.withTest { s.test with
      runState := .done, work := none,
      acceptance :=
        if s.test.flag && !aborted then (if allMandatoryPass s.test.results then .passed else .failed)
        else s.test.acceptance }).raiseTest .runEnd

/-- Whether the condition of a WAIT step holds (R161). -/
def State.holds (s : State) : WaitCond → Bool
  | .linkUp => s.link.state == .up
  | .timingLocked => s.timing.servo.state == .locked
  | .sourceQualified src => s.timing.sourceState src == .qualified

/-- GNSS and LINK both QUALIFIED (R160). -/
def State.crossReady (s : State) : Bool :=
  s.timing.sourceState .gnss == .qualified && s.timing.sourceState .link == .qualified

/-- A step starts and judges its start conditions; the result says how it ended when it ended at once (R156, R158, R160,
R161). -/
def beginStep (w : Working) (s : State) : State × Option (Verdict × EndReason) :=
  match w.step.body with
  | .linkPattern profile _ _ _ lead active .. =>
    if s.link.state ≠ .up then (s.withWork (some w), some (.fail, .linkNotUp))
    else
      let s1 := match profile with
        | some p => setForce p s
        | none => s
      if lead = 0 then (s1.withWork (some { w with phase := .active, remaining := active }), none)
      else (s1.withWork (some { w with phase := .lead, remaining := lead }), none)
  | .tenantPath t .. =>
    if s.link.state ≠ .up then (s.withWork (some w), some (.fail, .linkNotUp))
    else if (s.tenant t).state.judged = false then (s.withWork (some w), some (.fail, .tenantState))
    else (inject t (s.withWork (some { w with phase := .active })), none)
  | .timingCross samples _ =>
    if s.role ≠ some .trailer then (s.withWork (some w), some (.fail, .role))
    else if s.crossReady = false then (s.withWork (some w), some (.fail, .sourceNotQualified))
    else (s.withWork (some { w with deadline := 2 * samples }), none)
  | .wait cond timeout =>
    if s.holds cond then (s.withWork (some w), some (.pass, .none))
    else (s.withWork (some { w with deadline := timeout }), none)

/-- The step of an index started (R155). -/
def startStep (i : Nat) (s : State) : State × Option (Verdict × EndReason) :=
  match s.test.steps.toList.getD i none with
  | none => (s, none)
  | some step => beginStep (Working.fresh i step (s.test.patternFor step.body)) s

/-- The current step ends, and what follows is decided; a next step that ends at its start is ended in turn (R155). The
first argument bounds the steps that can follow one another: a run has at most 16. -/
def endStepFor : Nat → Verdict → EndReason → State → State
  | 0, _, _, s => s
  | n + 1, v, r, s =>
    match s.test.work with
    | none => s
    | some w =>
      let s1 := closeStep w v r s
      if w.step.mandatory = true ∧ v ≠ .pass then finishRun false (skipRest (w.index + 1) .mandatoryFailed s1)
      else if s1.test.count ≤ w.index + 1 then finishRun false s1
      else
        match startStep (w.index + 1) s1 with
        | (s2, none) => s2
        | (s2, some (v', r')) => endStepFor n v' r' s2

/-- The current step of a RUNNING run ends with an outcome and a reason (R155). -/
def endStep (v : Verdict) (r : EndReason) (s : State) : State :=
  if s.test.runState = .running then endStepFor 17 v r s else s

/-- A run in progress ends by abort (R165). -/
def abortRun (reason : EndReason) (s : State) : State :=
  match s.test.work with
  | none => finishRun true s
  | some w => finishRun true (skipRest (w.index + 1) .runAborted (closeStep w .aborted reason s))

/-! ## Events that end or move a step -/

/-- The link enters DOWN during a LINK_PATTERN or TENANT_PATH step (R157, R159). -/
def stepLinkLost (s : State) : State :=
  match s.test.work with
  | none => s
  | some w =>
    match w.step.body with
    | .linkPattern .. => endStep .fail .linkLost s
    | .tenantPath .. => endStep .fail .linkLost s
    | _ => s

/-- A tenant leaves PENDING or ACTIVE during a TENANT_PATH step of its own (R159). -/
def stepTenantLeft (t : Tenant) (s : State) : State :=
  match s.test.work with
  | none => s
  | some w =>
    match w.step.body with
    | .tenantPath x .. => if x = t then endStep .fail .tenantState s else s
    | _ => s

/-- The step in WAITING judged after a change of link state, timing state or source state: a WAIT step whose condition
holds passes, and a TIMING_CROSS step that has lost a source ends (R160, R161). -/
def stepWatch (s : State) : State :=
  match s.test.work with
  | none => s
  | some w =>
    match w.step.body with
    | .wait cond _ => if s.holds cond then endStep .pass .none s else s
    | .timingCross .. => if s.crossReady then s else endStep .fail .sourceLost s
    | _ => s

/-- A GNSS measurement handed to the Test Controller: a sample of a TIMING_CROSS step while GNSS and LINK are both
QUALIFIED; the last sample evaluates the step (R160). Without a last measurement of LINK, which QUALIFIED brings, there is
none (log entry 56). -/
def crossSample (m : Int) (s : State) : State :=
  match s.test.runState, s.test.work, s.timing.xfer.link.lastM with
  | .running, some w, some (l, _) =>
    match w.step.body with
    | .timingCross samples limit =>
      if s.crossReady then
        let w1 := { w with samples := w.samples + 1, sum := w.sum + (m - l) }
        let s1 := s.withWork (some w1)
        if samples ≤ w1.samples then
          if (rndDiv w1.sum w1.samples).natAbs ≤ limit then endStep .pass .none s1
          else endStep .fail .limitExceeded s1
        else s1
      else s
    | _ => s
  | _, _, _ => s

/-- The evaluation of a report against the step's limits (R157, R159). A miss limit at or above the count sent is always
met. -/
def evaluateReport (w : Working) (r : Report) : Verdict × EndReason :=
  match w.step.body with
  | .linkPattern _ _ _ _ _ _ _ errorLimit missLimit =>
    if w.blocksSent - missLimit ≤ r.blocks ∧ r.erroredBlocks ≤ errorLimit then (.pass, .none)
    else (.fail, .limitExceeded)
  | .tenantPath _ _ _ _ errorLimit missLimit =>
    if w.sent - missLimit ≤ r.packets ∧ r.erroredPackets ≤ errorLimit then (.pass, .none) else (.fail, .limitExceeded)
  | _ => (.pass, .none)

/-- The step evaluated on the report it holds (R157). -/
def endOnReport (w : Working) (r : Report) (s : State) : State :=
  endStep (evaluateReport w r).1 (evaluateReport w r).2 s

/-- Whether a received report is matching: the run is RUNNING, the current step is a LINK_PATTERN or TENANT_PATH step in
TAIL or AWAIT_REPORT, and the run id and the step index are theirs (R164). -/
def TestUnit.matchingWork (t : TestUnit) (r : Report) : Option Working :=
  match t.runState, t.work with
  | .running, some w =>
    if (w.step.body.kind = .linkPattern ∨ w.step.body.kind = .tenantPath) ∧
        (w.phase = .tail ∨ w.phase = .awaitReport) ∧ r.run = t.runId ∧ r.step = w.index then some w
    else none
  | _, _ => none

/-- A TEST_REPORT taken by the sending side: held in TAIL, evaluated at once in AWAIT_REPORT, ignored otherwise (R157,
R164). DESIGN CHOICE (log entry 54): a second matching report taken in TAIL replaces the one held. -/
def takeReport (r : Report) (s : State) : State :=
  match s.test.matchingWork r with
  | none =>
    s.withTest { s.test with counters := { s.test.counters with
                                             unmatchedReports := bump s.test.counters.unmatchedReports } }
  | some w =>
    let w1 := { w with report := some r }
    if w.phase = .awaitReport then endOnReport w1 r (s.withWork (some w1)) else s.withWork (some w1)

/-! ## The phases' ends (R156, R157, R160, R161) -/

/-- The current step where it is of a kind, in a phase, with no frame start of the phase remaining. -/
def TestUnit.phaseOver (t : TestUnit) (kind : Option StepKind) (phase : Phase) : Option Working :=
  match t.runState, t.work with
  | .running, some w =>
    if w.phase = phase ∧ w.remaining = 0 ∧ (kind = none ∨ kind = some w.step.body.kind) then some w else none
  | _, _ => none

/-- The frame starts of LEAD have passed: the step enters ACTIVE (R156). -/
def leadOver (s : State) : State :=
  match s.test.phaseOver (some .linkPattern) .lead with
  | some w =>
    match w.step.body with
    | .linkPattern _ _ _ _ _ active .. => s.withWork (some { w with phase := .active, remaining := active })
    | _ => s
  | none => s

/-- The frame starts of ACTIVE have passed: the step enters TAIL (R157). -/
def activeOver (s : State) : State :=
  match s.test.phaseOver (some .linkPattern) .active with
  | some w =>
    match w.step.body with
    | .linkPattern _ _ _ _ _ _ tail .. => s.withWork (some { w with phase := .tail, remaining := tail })
    | _ => s
  | none => s

/-- The frame starts of TAIL have passed: a held report is evaluated, or the step awaits one for up to 256 frame starts
(R157, R159). -/
def tailOver (s : State) : State :=
  match s.test.phaseOver none .tail with
  | some w =>
    match w.report with
    | some r => endOnReport w r s
    | none => s.withWork (some { w with phase := .awaitReport, remaining := 256 })
  | none => s

/-- The 256th frame start of AWAIT_REPORT has passed without a report (R157). -/
def reportWaitOver (s : State) : State :=
  match s.test.phaseOver none .awaitReport with
  | some _ => endStep .fail .noReport s
  | none => s

/-- The current step where it is of a kind, in WAITING, with no second-boundary event remaining. -/
def TestUnit.deadlineOver (t : TestUnit) (kind : StepKind) : Bool :=
  match t.runState, t.work with
  | .running, some w => w.step.body.kind == kind && w.phase == .waiting && w.deadline == 0
  | _, _ => false

/-- The deadline of a WAIT step has reached 0 (R161). -/
def waitOver (s : State) : State := if s.test.deadlineOver .wait then endStep .fail .timeout s else s

/-- The deadline of a TIMING_CROSS step has reached 0 (R160). -/
def crossOver (s : State) : State := if s.test.deadlineOver .timingCross then endStep .fail .timeout s else s

/-- One second-boundary event of a step in WAITING (R160, R161). -/
def TestUnit.countSecond (t : TestUnit) : TestUnit :=
  match t.runState, t.work with
  | .running, some w =>
    if w.phase = .waiting then { t with work := some { w with deadline := w.deadline - 1, waited := w.waited + 1 } } else t
  | _, _ => t

/-- One frame start of a step's phase, with the test blocks it sent and the frame's tx profile (R156, R157). -/
def TestUnit.countFrame (t : TestUnit) (sent txProfile : Nat) : TestUnit :=
  match t.runState, t.work with
  | .running, some w =>
    let w1 : Working :=
      match w.step.body, w.phase with
      | .linkPattern .., .active =>
        { w with blocksSent := w.blocksSent + sent, lowest := some (min txProfile (w.lowest.getD txProfile)) }
      | _, _ => w
    { t with work := some { w1 with remaining := w1.remaining - 1 },
             counters := { t.counters with blocksSent := addCount t.counters.blocksSent sent } }
  | _, _ => t

/-- The TEST blocks an ACTIVE LINK_PATTERN step supplies, with sequences running on from its count sent (R156). -/
def TestUnit.testBlocks (t : TestUnit) (n : Nat) : List (List Byte) :=
  match t.work with
  | some w => (List.range n).map fun k => testBlockBytes t.runId w.index w.pattern (w.blocksSent + k)
  | none => []

/-! ## The checker (R162 to R164) -/

/-- A new check record (R163, R164). -/
def CheckRecord.fresh (run : BitVec 16) (step : Nat) : CheckRecord :=
  { run := run, step := step, blocks := 0, erroredBlocks := 0, erroredBytes := 0, missing := 0, lastSeq := none,
    packets := 0, erroredPackets := 0, reported := false }

/-- Whether traffic of a run and step matches the record (R163). -/
def CheckRecord.matchesTraffic (c : Option CheckRecord) (run : BitVec 16) (step : Nat) : Bool :=
  match c with
  | none => false
  | some c => c.run == run && c.step == step && !c.reported

/-- A TEST block taken into the record (R163). -/
def CheckRecord.takeBlock (c : CheckRecord) (b : List Byte) (bad : Bool) : CheckRecord :=
  let seq := numAt b 23 4
  let d := differing (patternAt b 3) seq 0 ((List.range 96).map fun i => byteAt b (32 + i))
  { c with blocks := c.blocks + 1, erroredBytes := c.erroredBytes + d,
           erroredBlocks := c.erroredBlocks + (bad || decide (0 < d)).toNat,
           missing := match c.lastSeq with
             | none => c.missing + seq
             | some l => if l < seq then c.missing + (seq - l - 1) else c.missing,
           lastSeq := match c.lastSeq with
             | none => some seq
             | some l => if l < seq then some seq else some l }

/-- A TEST block routed to the checker (R163). -/
def TestUnit.checkBlock (t : TestUnit) (b : List Byte) (bad : Bool) : TestUnit :=
  let run := BitVec.ofNat 16 (numAt b 0 2)
  let step := (byteAt b 2).toNat
  match CheckRecord.matchesTraffic t.check run step, t.check, bad with
  | true, some c, _ => { t with check := some (c.takeBlock b bad) }
  | _, _, true => { t with counters := { t.counters with unassignedBad := bump t.counters.unassignedBad } }
  | _, _, false => { t with check := some ((CheckRecord.fresh run step).takeBlock b false) }

/-- A completed TEST packet given to the checker (R164): `data` holds its descriptor. -/
def TestUnit.checkPacket (t : TestUnit) (p : Packet) : TestUnit :=
  let run := BitVec.ofNat 16 (numAt p.data 0 2)
  let step := (byteAt p.data 2).toNat
  let c := match CheckRecord.matchesTraffic t.check run step, t.check with
    | true, some c => c
    | _, _ => CheckRecord.fresh run step
  { t with check := some { c with packets := c.packets + 1, erroredBytes := c.erroredBytes + p.differing,
                                  erroredPackets := c.erroredPackets + (p.errored || decide (0 < p.differing)).toNat } }

/-- The report of a check record as it stands (R164). -/
def CheckRecord.report (c : CheckRecord) : Report :=
  { run := c.run, step := c.step, blocks := c.blocks, erroredBlocks := c.erroredBlocks, erroredBytes := c.erroredBytes,
    missing := c.missing, packets := c.packets, erroredPackets := c.erroredPackets }

/-- An end mark passed on to the checker: the first one of the record's run queues a report (R164). -/
def TestUnit.endMarkTaken (t : TestUnit) (run : BitVec 16) : TestUnit :=
  match t.check with
  | some c =>
    if c.run = run ∧ c.reported = false then
      { t with check := some { c with reported := true }, report := some c.report,
               counters := { t.counters with
                 reportsReplaced := bumpIf t.report.isSome t.counters.reportsReplaced } }
    else t
  | none => t

/-- The pending report placed in a frame (R164). -/
def TestUnit.reportPlaced (t : TestUnit) : TestUnit :=
  { t with report := none, counters := { t.counters with reportsSent := bump t.counters.reportsSent } }

/-! ## Requests -/

/-- SET_PATTERN (R151). -/
def doSetPattern (index : Nat) (p : Option Pattern) (s : State) : State × Status × ReplyBody :=
  match p with
  | none => (s, .badValue, .empty)
  | some p =>
    if 3 < index ∨ p.inRange = false then (s, .badValue, .empty)
    else if s.test.runState = .running then (s, .wrongState, .empty)
    else (s.withTest { s.test with patterns := s.test.patterns.put index p }, .ok, .pattern p)

/-- An entry of the step table replaced. -/
def TestUnit.withStep (t : TestUnit) (i : Nat) (e : Option Step) : TestUnit :=
  { t with steps := t.steps.setIfInBounds i e }

/-- SET_STEP (R153). -/
def doSetStep (index : Nat) (arg : StepArg) (s : State) : State × Status × ReplyBody :=
  if s.test.runState = .running then (s, .wrongState, .empty)
  else if 15 < index then (s, .badValue, .empty)
  else
    match arg with
    | .unspelled => (s, .badValue, .empty)
    | .empty => (s.withTest (s.test.withStep index none), .ok, .stepEntry none)
    | .step e =>
      if e.body.ok = false then (s, .badValue, .empty)
      else
        let e1 := { e with body := e.body.limited }
        (s.withTest (s.test.withStep index (some e1)), if e1 = e then .ok else .adjusted, .stepEntry (some e1))

/-- The first empty entry of the first `n` of the step table (R154). -/
def TestUnit.firstEmpty (t : TestUnit) (n : Nat) : Option Nat :=
  (List.range n).find? fun i => (t.steps.toList.getD i none).isNone

/-- The run record at the taking of a TEST_START (R154). -/
def TestUnit.started (t : TestUnit) (n : Nat) (flag : Bool) : TestUnit :=
  { t with results := [], runId := t.runId + 1, count := n, flag := flag, runState := .running, work := none,
           counters := { t.counters with runs := bump t.counters.runs } }

/-- The run started: step 0 starts, and ends at once where its start conditions say so (R154, R155). -/
def runFirstStep (s : State) : State :=
  match startStep 0 s with
  | (s1, none) => s1
  | (s1, some (v, r)) => endStep v r s1

/-- TEST_START (R154). DESIGN CHOICE (log entry 44): for a count outside 1 to 16 the reply names no entry. -/
def doTestStart (n : Nat) (flag : Bool) (s : State) : State × Status × ReplyBody :=
  if s.test.runState = .running then (s, .wrongState, .empty)
  else if n < 1 ∨ 16 < n then (s, .badValue, .firstEmpty none)
  else if (s.test.firstEmpty n).isSome = true then (s, .badValue, .firstEmpty (s.test.firstEmpty n))
  else if flag = true ∧ s.inService ≠ [] then (s, .wrongState, .tenants s.inService)
  else (runFirstStep (s.withTest (s.test.started n flag)), .ok, .runId (s.test.runId + 1))

/-- TEST_ABORT (R165). -/
def doTestAbort (s : State) : State × Status × ReplyBody :=
  if s.test.runState = .running then (abortRun .abortRequest s, .ok, .empty) else (s, .wrongState, .empty)

/-- GET_RESULTS (R166). -/
def doGetResults (s : State) : State × Status × ReplyBody :=
  (s, .ok, .results s.test.runState s.test.runId s.test.count s.test.flag s.test.acceptance s.test.results)

/-- ACCEPT_WAIVE (R167). -/
def doAcceptWaive (s : State) : State × Status × ReplyBody :=
  if s.test.runState = .running ∧ s.test.flag = true then (s, .wrongState, .empty)
  else ((s.withTest { s.test with acceptance := .waived }).raiseTest .waived, .ok, .empty)

end Sys2Proof.Machine
end

