-- ==== Sys2Proof/Machine/Tenants.lean ====
section
/-! DEFINITION. The events and requests of one tenant (03, 05): packet arrival, hold, the end of a delivery, early aging,
SET_TENANT, TENANT_ACTIVATE, TENANT_DRAIN, TENANT_OFF and GET_COUNTERS. -/

namespace Sys2Proof.Machine

/-! ## Events at a port -/

/-- A packet at a tenant port (R48, R49, R51); an admitted one is a change of occupancy, at which a TENANT_PATH step
judges its pause and offers packets (R158). -/
def arriveAt (t : Tenant) (bad : Bool) (bytes : List Byte) (s : State) : State :=
  let u := (s.tenant t).arrive s.link.frameCounter bad bytes
  let s1 := s.withTenant t u
  if occupancy u.queue = occupancy (s.tenant t).queue then s1 else inject t s1

/-- TENANT_PACKET_ARRIVAL (R48). -/
def execTenantPacketArrival (t : Tenant) (bad : Bool) (bytes : List Byte) (s : State) :
    Host.Outcome State Fault Refusal :=
  .next (announce (arriveAt t bad bytes s))

/-- The hold input of a tenant at a level; a delivery begins when it may (R92). -/
def TenantUnit.holdAt (u : TenantUnit) (asserted : Bool) : TenantUnit :=
  ({ u with hold := asserted } : TenantUnit).beginDelivery

/-- HOLD_INPUT (R92). -/
def execHoldInput (t : Tenant) (asserted : Bool) (s : State) : Host.Outcome State Fault Refusal :=
  .next (announce (s.withTenant t ((s.tenant t).holdAt asserted)))

/-- DELIVERY_END (R91); with no delivery in progress there is nothing to end. -/
def execDeliveryEnd (t : Tenant) (s : State) : Host.Outcome State Fault Refusal :=
  .next (announce (s.withTenant t (s.tenant t).endDelivery))

/-- The head of a queue removed by aging at the frame start that comes next (R53), with the drain it may complete (R45)
and the count of a TENANT_PATH step (R158). Where the head is not stale, nothing is removed. -/
def removeStale (t : Tenant) (s : State) : State :=
  if s.role = none then s
  else
    match (s.tenant t).ageHead s.link.frameCounter with
    | none => s
    | some (u, e) => drainIfEmpty t (countPathEntries [] [e] (s.withTenant t u))

/-- STALE_REMOVAL (R53). -/
def execStaleRemoval (t : Tenant) (s : State) : Host.Outcome State Fault Refusal := .next (announce (removeStale t s))

/-! ## SET_TENANT (R40, R41) -/

/-- The unit with a tenant record in force: OFF becomes PENDING, and pause and XOFF are judged against its levels (R41,
R58, R95). DESIGN CHOICE (log entry 58): where the new levels assert pause, the assertion is counted (R51, R56), although R41
and R58 keep the counters; so is one of XOFF (R94). -/
def TenantUnit.takeRecord (u : TenantUnit) (r : TenantRecord) : TenantUnit :=
  (({ u with record := r, state := if u.state = .off then .pending else u.state } : TenantUnit).judgePause).judgeXoff

/-- A tenant record taken by a tenant, with the TENANT notice of a tenant that was OFF (R41, R58). -/
def takeTenantRecord (t : Tenant) (r : TenantRecord) (cause : TenantCause) (s : State) : State :=
  let s1 := s.withTenant t ((s.tenant t).takeRecord r)
  if (s.tenant t).state = .off then s1.raiseTenant t .off cause .plain else s1

/-- SET_TENANT for a tenant (R40, R41). -/
def setTenantOf (t : Tenant) (r : Option TenantRecord) (s : State) : State × Status × ReplyBody :=
  let u := s.tenant t
  if u.state.inService then (s, .wrongState, .tenantRecord (some u.record) (some u.state))
  else
    match r with
    | none => (s, .badValue, .tenantRecord (some u.record) none)
    | some r =>
      if r.ok = false then (s, .badValue, .tenantRecord (some u.record) none)
      else
        (takeTenantRecord t r.limited .recordSet s, if r.limited = r then .ok else .adjusted,
          .tenantRecord (some r.limited) none)

/-- SET_TENANT (R40). No record is in force for an index that names no tenant. -/
def doSetTenant (index : Nat) (r : Option TenantRecord) (s : State) : State × Status × ReplyBody :=
  match Tenant.ofIndex index with
  | none => (s, .badValue, .tenantRecord none none)
  | some t => setTenantOf t r s

/-! ## TENANT_ACTIVATE (R42) -/

/-- One condition's name when it is not met. -/
def condUnless (met : Bool) (c : ActivateCond) : List ActivateCond := if met then [] else [c]

/-- Whether the acceptance record reads PASSED or WAIVED (R42). -/
def Acceptance.good : Acceptance → Bool
  | .passed => true
  | .waived => true
  | .none => false
  | .failed => false

/-- The CLASS condition (R42). -/
def State.classMet (s : State) (t : Tenant) : Bool :=
  !(s.tenant t).record.phaseRequired || s.timing.servo.cls.atLeast (s.tenant t).record.minClass

/-- The conditions of R42 that are not met. -/
def State.unmet (s : State) (t : Tenant) : List ActivateCond :=
  condUnless ((s.tenant t).state == .pending) .notPending ++
  condUnless s.test.acceptance.good .acceptance ++
  condUnless (!(s.test.runState == .running && s.test.flag)) .acceptanceRun ++
  condUnless (s.classMet t) .cls

/-- The tenant made ACTIVE, with its notice (R42). -/
def activate (t : Tenant) (s : State) : State :=
  (s.withTenant t { s.tenant t with state := .active }).raiseTenant t (s.tenant t).state .activated .plain

/-- TENANT_ACTIVATE (R42). -/
def doTenantActivate (index : Nat) (s : State) : State × Status × ReplyBody :=
  match Tenant.ofIndex index with
  | none => (s, .badValue, .empty)
  | some t =>
    if s.unmet t = [] then (activate t s, .ok, .empty)
    else
      (s, .wrongState,
        .unmet (s.unmet t)
          (if s.classMet t then none else some (s.timing.servo.cls, (s.tenant t).record.minClass)))

/-! ## TENANT_DRAIN (R44) and TENANT_OFF (R46, R93) -/

/-- A drain taken by an ACTIVE tenant (R44); a TENANT_PATH step of the tenant ends (R159). DESIGN CHOICE (log entry 41): the
DRAIN_STARTED notice is raised before the step's unstarted TEST entries are removed, and its occupancy counts them. -/
def drain (t : Tenant) (s : State) : State :=
  let u := s.tenant t
  if u.queue = [] then
    stepTenantLeft t
      ((s.withTenant t { u with state := .off, paused := false }).raiseTenant t .active .drained .plain)
  else
    stepTenantLeft t
      ((s.withTenant t { u with state := .draining, paused := true }).raiseTenant t .active .drainStarted .plain)

/-- TENANT_DRAIN (R44). -/
def doTenantDrain (index : Nat) (s : State) : State × Status × ReplyBody :=
  match Tenant.ofIndex index with
  | none => (s, .badValue, .empty)
  | some t => if (s.tenant t).state = .active then (drain t s, .ok, .empty) else (s, .wrongState, .empty)

/-- A tenant switched off (R46, R93); a TENANT_PATH step of a tenant that was in PENDING or ACTIVE ends (R159). -/
def switchOff (t : Tenant) (s : State) : State :=
  let s1 := s.withTenant t (s.tenant t).flushIngress.flushEgress
  if (s.tenant t).state = .off then s1
  else stepTenantLeft t (s1.raiseTenant t (s.tenant t).state .offRequest .plain)

/-- TENANT_OFF (R46). -/
def doTenantOff (index : Nat) (s : State) : State × Status × ReplyBody :=
  match Tenant.ofIndex index with
  | none => (s, .badValue, .empty)
  | some t => (switchOff t s, .ok, .empty)

/-! ## GET_COUNTERS (R56, R96) -/

/-- Both counters records of a tenant at 0. -/
def TenantUnit.cleared (u : TenantUnit) : TenantUnit := { u with ingress := .zero, egressCounters := .zero }

/-- GET_COUNTERS (R56). -/
def doGetCounters (index : Nat) (clear : Bool) (s : State) : State × Status × ReplyBody :=
  match Tenant.ofIndex index with
  | none => (s, .badValue, .empty)
  | some t =>
    (if clear then s.withTenant t (s.tenant t).cleared else s, .ok,
      .counters (s.tenant t).ingress (s.tenant t).egressCounters)

end Sys2Proof.Machine
end

