-- ==== Sys2Proof/Machine/Due.lean ====
section
/-! DEFINITION. The link's entry to DOWN (R17) with its effects elsewhere, and the events that stand due after another
event made them so (log entry 1): the absent frame, the expiry of LINK supervision and of a pulse input's absence, the
holdover limit and aging, and the ends of a step's phases. Each has its own command; `settle` takes all that are due. -/

namespace Sys2Proof.Machine

/-! ## Events on the timing blocks -/

/-- The timing blocks replaced by an event that changed source states, selection, timing state or class: the TIMING
notices of the whole event are raised, and the step in WAITING is judged (R148, R160, R161). DESIGN CHOICE (log entry 50):
the TIMING notices come before the TEST notices of a step that the event ends. -/
def timingEvent (after : Timing) (s : State) : State :=
  stepWatch ((s.withTiming after).raiseTiming s.timing (timingCauses s.timing after false))

/-- The aging rate A of R145 and R149: that of the calibration slot, 0 while the slot is not valid. -/
def State.agingRate (s : State) : Int := if s.store.cal.valid then s.store.cal.aging else 0

/-! ## The entry to DOWN (R17) -/

/-- The Link Receiver's own values at the entry to DOWN (R17, R33). -/
def LinkUnit.down (l : LinkUnit) : LinkUnit :=
  { l with state := .down, good := 0, lost := 0, rxXoff := Quad.const false, farReq := 0, farForce := false,
           farEnd := none }

/-- The timing blocks at the Link Receiver's entry to DOWN: both lists emptied, LINK ABSENT, the selection re-evaluated
(R120, R126, R130, R113). -/
def Timing.linkDown (t : Timing) : Timing :=
  let x := t.xfer.abandonExchanges.abandonResponses
  ({ t with xfer := { x with link := x.link.toAbsent } } : Timing).reselect

/-- The link lost by a lost or absent frame (R16, R17, R30, R157, R159). DESIGN CHOICE (log entry 40): the stored fields
are cleared first, then come the LINK notice, the PROFILE notice LINK_DOWN, the TIMING notices, and last the end of a step
with its PROFILE notice FORCE_REMOVED. -/
def enterDown (cause : LinkCause) (s : State) : State :=
  let l := s.link.down
  let s1 := (s.withLink { l with counters := { l.counters with losses := bump l.counters.losses } }).raiseLink
    s.link.state cause
  let s2 := ladderEntersDown s1
  let s3 := (s2.withTiming s2.timing.linkDown).raiseTiming s2.timing (timingCauses s2.timing s2.timing.linkDown false)
  stepWatch (stepLinkLost s3)

/-- The effect of a lost or absent frame on the link state (R15 to R17). -/
def lostEffect (s : State) : State :=
  match s.link.state with
  | .down => s
  | .acquire => enterDown .lostInAcquire s
  | .up => if 64 ≤ s.link.lost + 1 then enterDown .lost64 s else s.withLink { s.link with lost := s.link.lost + 1 }

/-! ## The events that stand due -/

/-- The absent frame that a frame start found is registered (R13). -/
def absentDue (s : State) : State :=
  if s.link.absenceDue then
    lostEffect (s.withLink { s.link with absenceDue := false,
                                         counters := { s.link.counters with absent := bump s.link.counters.absent } })
  else s

/-- The timing blocks when LINK supervision expires (R130). -/
def Timing.linkExpired (t : Timing) : Timing :=
  ({ t with xfer := { t.xfer with link := t.xfer.link.toAbsent } } : Timing).reselect

/-- The expiry of LINK supervision (R130). -/
def supervisionDue (s : State) : State :=
  if s.timing.xfer.link.expiryDue then timingEvent s.timing.linkExpired s else s

/-- The holdover aging step (R145). -/
def agingDue (s : State) : State :=
  if s.timing.servo.agingDue then s.withTiming (s.timing.ageStep s.agingRate) else s

/-- The class at the holdover limit (R144, R146). -/
def limitDue (s : State) : State := if s.timing.limitReached then timingEvent s.timing.rejudge s else s

/-- The timing blocks when a pulse input's absence expires (R108, R113). -/
def Timing.inputExpired (t : Timing) (i : PulseInput) : Timing :=
  ({ t with base := t.base.withQualifier i (t.base.qualifier i).expire } : Timing).reselect

/-- The absence of a pulse input taken when local time has advanced past its expiry (R108). -/
def overdueAbsence (i : PulseInput) (s : State) : State :=
  if s.timing.base.overdue i then timingEvent (s.timing.inputExpired i) s else s

/-- Every event that stands due is taken, one after another. DESIGN CHOICE (log entry 1): in this order. -/
def settle (s : State) : State :=
  crossOver (waitOver (reportWaitOver (tailOver (activeOver (leadOver (limitDue (agingDue (supervisionDue
    (absentDue (overdueAbsence .ext (overdueAbsence .gnss s)))))))))))

/-- Whether no event stands due. -/
def State.quiet (s : State) : Bool :=
  !s.timing.base.overdue .gnss && !s.timing.base.overdue .ext && !s.link.absenceDue &&
  !s.timing.xfer.link.expiryDue && !s.timing.servo.agingDue && !s.timing.limitReached &&
  (s.test.phaseOver (some .linkPattern) .lead).isNone && (s.test.phaseOver (some .linkPattern) .active).isNone &&
  (s.test.phaseOver none .tail).isNone && (s.test.phaseOver none .awaitReport).isNone &&
  !s.test.deadlineOver .wait && !s.test.deadlineOver .timingCross

/-! ## Their commands -/

/-- ABSENT_FRAME (R13). -/
def execAbsentFrame (s : State) : Host.Outcome State Fault Refusal := .next (announce (absentDue s))

/-- LINK_SUPERVISION_EXPIRY (R130). -/
def execLinkSupervisionExpiry (s : State) : Host.Outcome State Fault Refusal := .next (announce (supervisionDue s))

/-- HOLDOVER_LIMIT (R144). -/
def execHoldoverLimit (s : State) : Host.Outcome State Fault Refusal := .next (announce (limitDue s))

/-- HOLDOVER_AGING (R145). -/
def execHoldoverAging (s : State) : Host.Outcome State Fault Refusal := .next (announce (agingDue s))

/-- LEAD_END (R156). -/
def execLeadEnd (s : State) : Host.Outcome State Fault Refusal := .next (announce (leadOver s))

/-- ACTIVE_END (R157). -/
def execActiveEnd (s : State) : Host.Outcome State Fault Refusal := .next (announce (activeOver s))

/-- TAIL_END (R157, R159). -/
def execTailEnd (s : State) : Host.Outcome State Fault Refusal := .next (announce (tailOver s))

/-- REPORT_WAIT_EXPIRY (R157). -/
def execReportWaitExpiry (s : State) : Host.Outcome State Fault Refusal := .next (announce (reportWaitOver s))

/-- WAIT_TIMEOUT (R161). -/
def execWaitTimeout (s : State) : Host.Outcome State Fault Refusal := .next (announce (waitOver s))

/-- TIMING_CROSS_TIMEOUT (R160). -/
def execTimingCrossTimeout (s : State) : Host.Outcome State Fault Refusal := .next (announce (crossOver s))

end Sys2Proof.Machine
end

