-- ==== Sys2Proof/Machine/Receive.lean ====
section
/-! DEFINITION. The Link Receiver (1.4 to 1.6): the header check, the link state, the fields stored, and the routing of a
received frame's blocks to their owners. -/

namespace Sys2Proof.Machine

/-! ## The link state (R15 to R17) -/

/-- The entry to UP at the LINK source of a TRAILER (R130). -/
def enterUpTiming (s : State) : State :=
  if s.role = some .trailer then
    timingEvent (({ s.timing with xfer := { s.timing.xfer with link := s.timing.xfer.link.entersUp } } : Timing).reselect) s
  else stepWatch s

/-- A good header's effect on the link state (R15 to R17). -/
def goodEffect (s : State) : State :=
  match s.link.state with
  | .down => (s.withLink { s.link with state := .acquire, good := 1 }).raiseLink .down .firstHeader
  | .acquire =>
    if 16 ≤ s.link.good + 1 then
      enterUpTiming
        ((s.withLink { s.link with state := .up, good := s.link.good + 1, lost := 0 }).raiseLink .acquire .acquired)
    else s.withLink { s.link with good := s.link.good + 1 }
  | .up => s.withLink { s.link with lost := 0 }

/-! ## The header (R12) -/

/-- The judgement of block 0 of a record: good with its header, or lost under the first condition that fails (R12). -/
inductive HeaderJudgement where
  | good (h : Header)
  | flagged
  | crc
  | inconsistent
  deriving DecidableEq, Repr

/-- The judgement of a record's block 0 (R12). -/
def judgeHeader (r : FrameRecord) : HeaderJudgement :=
  match r.positions.head? with
  | none => .flagged
  | some p =>
    if p.bad then .flagged
    else if headerCheckPasses p.bytes = false then .crc
    else
      match headerAt p.bytes with
      | none => .inconsistent
      | some h => .good h

/-- The link counters after a record taken (R22). -/
def LinkCounters.taken (c : LinkCounters) : HeaderJudgement → LinkCounters
  | .good _ => { c with received := bump c.received, goodHeaders := bump c.goodHeaders }
  | .flagged => { c with received := bump c.received, lostFlagged := bump c.lostFlagged }
  | .crc => { c with received := bump c.received, lostCrc := bump c.lostCrc }
  | .inconsistent => { c with received := bump c.received, lostInconsistent := bump c.lostInconsistent }

/-- The positions of a frame of `b` blocks: those delivered up to that count, and each missing one as a block flagged
bad, whose bytes are free (R2; log entry 7). -/
def padPositions (b freeIndex : Nat) (ps : List Position) : List Position :=
  ps.take b ++ (List.range (b - ps.length)).map fun k => { bytes := Config.missingBlock (freeIndex + k), bad := true }

/-- The fields of a good header stored (R19, R33); the end mark is stored only in UP. -/
def LinkUnit.store (l : LinkUnit) (h : Header) : LinkUnit :=
  { l with rxXoff := h.xoff, farReq := h.requested, farForce := h.force, lastSeq := some h.seq,
           farEnd := if l.state = .up then h.endMark else l.farEnd }

/-- The end mark of a header taken in UP passed to the checker (R19, R164). -/
def passEndMark (h : Header) (s : State) : State :=
  match h.endMark with
  | some run => if s.link.state = .up then s.withTest (s.test.endMarkTaken run) else s
  | none => s

/-! ## Control blocks (R20) -/

/-- A control block discarded and counted (R20). -/
def discardControl (s : State) : State :=
  s.withLink { s.link with
    counters := { s.link.counters with controlDiscarded := bump s.link.counters.controlDiscarded } }

/-- Whether a control kind is accepted by the role in the link state (R20). -/
def controlAccepted (role : Option Role) (link : LinkState) : ControlKind → Bool
  | .sync => role == some .trailer && link != .down
  | .delayReq => role == some .hub && link != .down
  | .delayResp => role == some .trailer && link != .down
  | .testReport => role.isSome && link == .up

/-- Whether a received block of a kind holds a timestamp that is none: nanoseconds above 999,999,999 (R183). -/
def badStamp (k : ControlKind) (b : List Byte) : Bool :=
  match k with
  | .sync => 999999999 < (stampAt b 2).ns
  | .delayResp => 999999999 < (stampAt b 2).ns
  | _ => false

/-- The timing blocks with the hub class of a SYNC stored and judged, the selection re-evaluated (R123, R130, R131). -/
def Timing.syncJudged (t : Timing) (c : QClass) (up : Bool) : Timing :=
  let l := t.xfer.link.judgeHubClass c up
  let n := { t.xfer.counters with syncTaken := bump t.xfer.counters.syncTaken,
                                  disqualified := bumpIf l.2 t.xfer.counters.disqualified }
  ({ t with xfer := { t.xfer with link := l.1, counters := n } } : Timing).reselect

/-- A SYNC taken by the TRAILER (R123): the hub class first, then the exchange table. -/
def takeSync (b : List Byte) (marker : Stamp) (s : State) : State :=
  let s1 := timingEvent (s.timing.syncJudged (hubClassAt b) (s.link.state == .up)) s
  s1.withTiming { s1.timing with
    xfer := s1.timing.xfer.enterSync (timingSeqAt b) (stampAt b 2) (marker.shift (-(s1.timing.base.record.lrx : Int)))
      s1.link.frameCounter }

/-- A DELAY_REQ taken by the HUB (R120). -/
def takeDelayReq (b : List Byte) (marker : Stamp) (s : State) : State :=
  s.withTiming { s.timing with
    xfer := s.timing.xfer.takeReq (timingSeqAt b) (marker.shift (-(s.timing.base.record.lrx : Int))) }

/-- A measurement handed to the Servo, an event of its own with its TIMING notices, and the step in WAITING judged after
it (R136, R148; log entries 17 and 50). -/
def handOn (src : Source) (m w : Int) (s : State) : State :=
  let r := s.timing.measure src m w
  stepWatch ((s.withTiming r.1).raiseTiming s.timing (timingCauses s.timing r.1 r.2))

/-- A DELAY_RESP taken by the TRAILER (R125): the source's state change and the re-evaluation with their TIMING notices
first, then the hand-on (R132). -/
def takeDelayResp (b : List Byte) (s : State) : State :=
  let r := s.timing.xfer.takeResp (timingSeqAt b) (stampAt b 2) s.timing.base.record.asymmetry
  let s1 := timingEvent ({ s.timing with xfer := r.1 } : Timing).reselect s
  match r.2 with
  | none => s1
  | some (m, w) => handOn .link m w s1

/-- A control block routed by its kind, or discarded (R20). -/
def routeControl (marker : Stamp) (s : State) (kp : ControlKind × Position) : State :=
  if kp.2.bad || !controlAccepted s.role s.link.state kp.1 || badStamp kp.1 kp.2.bytes then discardControl s
  else
    match kp.1 with
    | .sync => takeSync kp.2.bytes marker s
    | .delayReq => takeDelayReq kp.2.bytes marker s
    | .delayResp => takeDelayResp kp.2.bytes s
    | .testReport => takeReport (reportAt kp.2.bytes) s

/-! ## TEST and TENANT blocks (R21) -/

/-- A TEST block routed to the checker (R163). -/
def routeTest (s : State) (p : Position) : State := s.withTest (s.test.checkBlock p.bytes p.bad)

/-- The EGRESS_OVERRUN notice of a discarded packet (R89). -/
def raiseOverrun (t : Tenant) (length : Nat) (s : State) : State :=
  let u := s.tenant t
  s.raiseTenant t u.state .egressOverrun (.overrun (egressOccupancy u.egress) u.egress.length length u.xoff)

/-- A completed packet at its owner: a TEST packet goes to the checker, a TENANT packet to the buffer (R87 to R89). -/
def packetDone (t : Tenant) (p : Packet) (s : State) : State :=
  match p.origin with
  | .test => (s.withTenant t (s.tenant t).completeTest).withTest (s.test.checkPacket p)
  | .tenant =>
    let r := (s.tenant t).completeTenant p
    if r.2 then raiseOverrun t p.length (s.withTenant t r.1) else s.withTenant t r.1

/-- A TENANT block routed to a tenant's reassembly record (R83 to R89). -/
def routeTenant (t : Tenant) (s : State) (p : Position) : State :=
  let r := (s.tenant t).takeBlock (segmentAt p.bytes) p.bad
  match r.2 with
  | .nothing => s.withTenant t r.1
  | .packet q => packetDone t q (s.withTenant t r.1)

/-- The TENANT blocks of the four tenants, in position order from a position (R14, R21). -/
def routeTenants (counts : Quad Nat) (ps : List Position) (s : State) : State :=
  let p1 := ps.drop counts.t0
  let p2 := p1.drop counts.t1
  let p3 := p2.drop counts.t2
  (p3.take counts.t3).foldl (routeTenant .t3)
    ((p2.take counts.t2).foldl (routeTenant .t2)
      ((p1.take counts.t1).foldl (routeTenant .t1) ((ps.take counts.t0).foldl (routeTenant .t0) s)))

/-- The TEST and TENANT blocks of a frame while the link is not UP: each TENANT block counted (R21). -/
def discardTraffic (tenantBlocks : Nat) (s : State) : State :=
  s.withLink { s.link with
    counters := { s.link.counters with tenantDiscarded := addCount s.link.counters.tenantDiscarded tenantBlocks } }

/-- The blocks of a frame after its header, routed in position order (R14, R20, R21). DESIGN CHOICE (log entry 53): so are
blocks of different owners, whose notices then come in that order. -/
def routeFrame (h : Header) (marker : Stamp) (ps : List Position) (s : State) : State :=
  let k := h.controls.length
  let s1 := (h.controls.zip (ps.drop 1)).foldl (routeControl marker) s
  if s.link.state = .up then
    let s2 := ((ps.drop (1 + k)).take h.testBlocks).foldl routeTest s1
    routeTenants h.tenantBlocks (ps.drop (1 + k + h.testBlocks)) s2
  else discardTraffic h.tenantBlocks.sum s1

/-! ## The record -/

/-- The receive marker time of the record being taken: the capture waiting longest; free where no capture waits (R2, R103;
log entry 9). -/
def State.recordMarker (s : State) : Stamp := s.timing.base.markers.head?.getD (Config.freeMarker s.freeIndex)

/-- The capture that waited for a record leaves the Time Base with it (R2, R103). -/
def deliverMarker (s : State) : State := s.withBase { s.timing.base with markers := s.timing.base.markers.tail }

/-- A frame with a good header: the link state, then the sample, the fields stored and the blocks routed (R19 to R21).
DESIGN CHOICE: the end mark reaches the checker before the frame's own blocks (log entry 51), and the sample is judged before
the header's fields are stored (log entry 52). -/
def takeGood (h : Header) (r : FrameRecord) (marker : Stamp) (s : State) : State :=
  let s1 := giveSample r.snr (goodEffect s)
  let s2 := passEndMark h (s1.withLink (s1.link.store h))
  let b := Config.blocksOf h.txProfile
  routeFrame h marker (padPositions b s.freeIndex r.positions)
    (s2.withFreeIndex (s.freeIndex + 1 + (b - r.positions.length)))

/-- A received frame record taken with its receive marker time (R12): a good header's frame is routed; a lost frame gives
a sample of 0 and has its effect on the link state (log entry 13). -/
def takeFrame (r : FrameRecord) (s : State) : State :=
  let j := judgeHeader r
  let s1 := deliverMarker (s.withLink { s.link with startsSince := 0, counters := s.link.counters.taken j })
  match j with
  | .good h => takeGood h r s.recordMarker s1
  | _ => lostEffect (giveSample 0 s1)

/-- RECEIVED_FRAME_RECORD (R12): with no role set the record is discarded whole, its marker with it; otherwise what stands
due comes first. -/
def execReceivedFrameRecord (r : FrameRecord) (s : State) : Host.Outcome State Fault Refusal :=
  .next (announce (if s.role = none then deliverMarker s else takeFrame r (settle s)))

end Sys2Proof.Machine
end

