-- ==== Sys2Proof/Machine/TimeEvents.lean ====
section
/-! DEFINITION. The events of local time (06) at their moment: the second boundary with the tenants' timing outputs, a pulse
captured and judged, and the capture of the receive marker. Machine/Passing.lean brings local time to the moment. -/

namespace Sys2Proof.Machine

/-! ## The second boundary (R98, R102, R114, R115, R144) -/

/-- A tenant's timing output at a second boundary, on the class in force and the new seconds value (R114, R115); a tenant
in OFF emits nothing and is not judged. -/
def TenantUnit.second (u : TenantUnit) (cls : QClass) (sec : BitVec 48) : TenantUnit :=
  if u.state = .off then { u with timingOut := none }
  else if cls.atLeast u.record.minClass then
    { u with squelched := false, secondsEmitted := bump u.secondsEmitted, timingOut := some { sec := sec, cls := cls } }
  else { u with squelched := true, secondsSquelched := bump u.secondsSquelched, timingOut := none }

/-- A tenant's timing output with its notice when the squelch state changes (R115). -/
def tenantSecond (s : State) (t : Tenant) : State :=
  let u := s.tenant t
  let cls := s.timing.servo.cls
  let sec := s.timing.base.now.sec
  let v := u.second cls sec
  if v.squelched = u.squelched then s.withTenant t v
  else
    (s.withTenant t v).raiseTenant t v.state (if v.squelched then .squelched else .unsquelched)
      (.squelch cls u.record.minClass sec)

/-- The exchange table of a TRAILER at a change of local time by TIME_SET (R126). -/
def State.timeSetTaken (s : State) (applied : Bool) : State :=
  if applied ∧ s.role = some .trailer then s.withTiming { s.timing with xfer := s.timing.xfer.abandonExchanges } else s

/-- The second counted by the Servo and by a step in WAITING (R144, R160, R161). -/
def countSecond (s : State) : State :=
  (s.withTiming { s.timing with servo := s.timing.servo.countSecond }).withTest s.test.countSecond

/-- A second boundary reached by advance (R98): a pending TIME_SET is applied, the timing outputs are judged on the class
in force, and the second is counted. What stood due before is taken first (log entry 1). DESIGN CHOICE (log entry 53): the
tenants are judged in the order T0 to T3. -/
def secondEvent (s : State) : State :=
  let applied := s.timing.base.pendingSet.isSome
  let s1 := (settle (s.withBase s.timing.base.reachSecond)).timeSetTaken applied
  countSecond (Tenant.all.foldl tenantSecond s1)

/-! ## Pulses (R103 to R109) -/

/-- The timing blocks with a pulse judged by its qualifier and the selection re-evaluated (R106, R107, R113). -/
def Timing.pulsed (t : Timing) (i : PulseInput) : Timing × PulseJudgement :=
  let r := (t.base.qualifier i).pulse t.base.advance t.base.now
  (({ t with base := t.base.withQualifier i r.1 } : Timing).reselect, r.2)

/-- The measurement of a good pulse as the last one of its qualifier (R109). -/
def Timing.keepM (t : Timing) (i : PulseInput) (m : Int) : Timing :=
  { t with base := t.base.withQualifier i { t.base.qualifier i with lastM := some m } }

/-- A pulse at the present moment: judged and the selection re-evaluated with their TIMING notices, then a good pulse's
measurement kept and handed on (R109).
A GNSS measurement goes to the Test Controller as well (R160). DESIGN CHOICE (log entry 45): the Servo takes it first, so a
TIMING_CROSS step that starts because this pulse brings LOCKED takes the same pulse as a sample. -/
def takePulse (i : PulseInput) (s : State) : State :=
  let r := s.timing.pulsed i
  let s1 := timingEvent r.1 s
  if r.2 = .good then
    let m := phaseMeasurement s.timing.base.now.half
    let s2 := handOn i.source m 0 (s1.withTiming (s1.timing.keepM i m))
    match i with
    | .gnss => crossSample m s2
    | .ext => s2
  else s1

/-- A frame-start signal of the modem captured at the present moment: the marker time waits for the frame's record (R2,
R103). -/
def TimeBase.captureMarker (b : TimeBase) : TimeBase := { b with markers := b.markers ++ [b.now.marker] }

end Sys2Proof.Machine
end

