-- ==== Sys2Proof/Machine/Transmit.lean ====
section
/-! DEFINITION. The Link Transmitter (1.2, 1.3): a frame start from the boundary of local time to the frame handed to the
Radio Port, with aging, planning, the blocks taken from their owners, and the counts kept by the others at a frame start. -/

namespace Sys2Proof.Machine

/-! ## What a frame start reads -/

/-- What one Tenant Unit gives to a frame: the unit before the frame start, the unit after aging, the entries aged, and
the blocks given. -/
structure TenantGiven where
  aged : TenantUnit
  removed : List Entry
  given : Given
  deriving DecidableEq, Repr

/-- The four units after aging at this frame start, with the entries aged (R53). -/
def State.agedUnits (s : State) : Quad (TenantUnit × List Entry) :=
  s.tenants.map fun u => u.age s.link.frameCounter

/-- The timing block offered at this frame start (R121, R124). -/
def State.timingOffer (s : State) : Option ControlKind :=
  match s.role with
  | some .hub => s.timing.xfer.hubOffer s.link.state
  | some .trailer => s.timing.xfer.trailerOffer s.link.state
  | none => none

/-- The inputs of the planner at this frame start (R61, R63, R72). -/
def State.planInputs (s : State) : PlanInputs :=
  { blocks := Config.blocksOf s.nextTxProfile, link := s.link.state, timing := s.timingOffer,
    report := s.test.report.isSome, request := s.test.request, offers := s.agedUnits.map fun x => x.1.offer,
    xoff := s.link.rxXoff, shares := s.planner.shares, pointers := s.planner.pointers }

/-- The plan of this frame start, and the rotation pointers after it (R61). -/
def State.plan (s : State) : Plan × Vector Tenant 8 := planFrame s.planInputs

/-- What each tenant gives to this frame under a plan (R54). -/
def State.given (s : State) (p : Plan) : Quad TenantGiven :=
  Quad.ofFn fun t =>
    let x := s.agedUnits.get t
    { aged := x.1, removed := x.2, given := giveBlocks (p.grant t) x.1.queue x.1.blockSeq }

/-- The XOFF set of this frame: this end's XOFF-sent states in UP, else empty (R10, R11). -/
def State.frameXoff (s : State) : Quad Bool := if s.link.state = .up then s.outgoingXoff else Quad.const false

/-- The end mark of this frame: only in UP (R10, R11). -/
def State.frameEndMark (s : State) : Option (BitVec 16) := if s.link.state = .up then s.test.endMark else none

/-- The HEADER of this frame (R8, R10, R11). -/
def State.frameHeader (s : State) (p : Plan) : Header :=
  { seq := s.link.txSeq, txProfile := s.nextTxProfile, requested := s.requestedProfile.1, force := s.requestedProfile.2,
    xoff := s.frameXoff, controls := p.controls, testBlocks := p.testBlocks, endMark := s.frameEndMark,
    tenantBlocks := p.tenants.map TenantPlan.grant }

/-- The frame start time as t1 or t3: with the transmit latency added (R118). -/
def State.sentStamp (s : State) : Stamp := s.timing.base.now.stamp.shift s.timing.base.record.ltx

/-- The bytes of a control block placed (R119, R121, R124, R164). -/
def State.controlBytes (s : State) : ControlKind → List Byte
  | .sync => syncBytes s.timing.xfer.syncSeq s.sentStamp s.timing.servo.cls
  | .delayReq => delayReqBytes ((s.timing.xfer.nextReq.map Exchange.seq).getD 0)
  | .delayResp =>
    match s.timing.xfer.responses.head? with
    | some r => delayRespBytes r.seq r.t4
    | none => idleBytes
  | .testReport =>
    match s.test.report with
    | some r => r.bytes
    | none => idleBytes

/-- The blocks of this frame in the order of R7. -/
def State.frameBlocks (s : State) (p : Plan) (g : Quad TenantGiven) : List (List Byte) :=
  [(s.frameHeader p).bytes] ++ p.controls.map s.controlBytes ++ s.test.testBlocks p.testBlocks ++
  (Tenant.all.map fun t => (g.get t).given.segments.map Segment.bytes).flatten ++
  List.replicate p.idle idleBytes

/-- The transmit frame handed to the Radio Port (R1). -/
def State.txFrame (s : State) (p : Plan) (g : Quad TenantGiven) : TxFrame :=
  { start := s.timing.base.now.stamp, blocks := s.frameBlocks p g }

/-! ## The effects of a frame start -/

/-- The effect of a control block placed, on its owner (R119, R121, R124, R164). -/
def placeControl (s : State) : ControlKind → State
  | .sync => s.withTiming { s.timing with xfer := s.timing.xfer.syncPlaced s.timing.base.record.timingPeriod }
  | .delayReq => s.withTiming { s.timing with xfer := s.timing.xfer.reqPlaced s.sentStamp }
  | .delayResp => s.withTiming { s.timing with xfer := s.timing.xfer.respPlaced }
  | .testReport => s.withTest s.test.reportPlaced

/-- The counts of the Time Transfer Unit at a frame start, before the arbiter: the SYNC countdown of a HUB (R119), the
timeouts of the exchange table (R126), the supervision of LINK (R130). -/
def Timing.frameTick (t : Timing) (role : Option Role) (frame : BitVec 32) : Timing :=
  match role with
  | some .hub => { t with xfer := t.xfer.countdownTick }
  | some .trailer =>
    let x := t.xfer.timeouts frame
    { t with xfer := { x with link := x.link.supervise t.base.record.timingPeriod } }
  | none => t

/-- One tenant's unit after its aging and its grant, with the drain it may complete (R45, R53, R54). -/
def tenantGives (g : Quad TenantGiven) (s : State) (t : Tenant) : State :=
  drainIfEmpty t (s.withTenant t ((g.get t).aged.gave (g.get t).given))

/-- Whether the occupancy of a tenant changed at this frame start, aging taken ahead of it included (R158). -/
def occupancyMoved (before : TenantUnit) (g : TenantGiven) : Bool :=
  before.agedEarly || occupancy before.queue != occupancy g.given.queue

/-- One tenant's entries counted by a TENANT_PATH step, and the injection at a change of occupancy (R158). -/
def tenantTests (before : Quad TenantUnit) (g : Quad TenantGiven) (s : State) (t : Tenant) : State :=
  let s1 := countPathEntries (g.get t).given.left (g.get t).removed s
  if occupancyMoved (before.get t) (g.get t) then inject t s1 else s1

/-- The Link Transmitter's record of the frame started and handed over (R1, R22). -/
def LinkUnit.sent (l : LinkUnit) (h : Header) (frame : TxFrame) : LinkUnit :=
  { l with txProfile := h.txProfile, reqSent := h.requested, forceSent := h.force, xoffSent := h.xoff,
           frame := some frame }

/-- The sequence and the frame counter after the frame has been handed over (R3), and the watch for missing records
(R13): an absence is found when two frame starts lie between this one and the last record taken. -/
def LinkUnit.started (l : LinkUnit) : LinkUnit :=
  { l with txSeq := l.txSeq + 1, frameCounter := l.frameCounter + 1,
           absenceDue := l.absenceDue || decide (2 ≤ l.startsSince), startsSince := min (l.startsSince + 1) 2 }

/-- The PROFILE notice of a change of the tx profile (R34). DESIGN CHOICE (log entry 53): it is raised before the DRAINED
notices of the same frame start. -/
def raiseTxChange (before : Nat) (s : State) : State :=
  if s.link.txProfile = before then s else s.raiseProfile .txChange

/-- The frame built, handed over and counted, under a plan and with what the tenants give (R1, R10, R11, R79, R80). -/
def handOver (p : Plan × Vector Tenant 8) (g : Quad TenantGiven) (s : State) : State :=
  let s1 := p.1.controls.foldl placeControl s
  let s2 := s1.withLink (s1.link.sent (s.frameHeader p.1) (s.txFrame p.1 g))
  let s3 := (raiseTxChange s.link.txProfile s2).withPlanner
    (s.planner.ran s.link.frameCounter (s.link.state == .up) s.link.rxXoff p)
  s3.withLadder { s3.ladder with counters := { s3.ladder.counters with
                                   capped := bumpIf s.cappedNow s3.ladder.counters.capped } }

/-- The queues after the frame's aging and grants, and the test step's counts of a frame start (R53, R54, R156). -/
def giveUp (p : Plan) (g : Quad TenantGiven) (txProfile : Nat) (s : State) : State :=
  let s1 := Tenant.all.foldl (tenantGives g) s
  s1.withTest (s1.test.countFrame p.testBlocks txProfile)

/-- The frame has been handed over: the sequence and the frame counter move on, and the boundary is used (R3). -/
def frameDone (s : State) : State :=
  (s.withLink s.link.started).withBase { s.timing.base with frameHere := false }

/-- The occasion of a TENANT_PATH step at a frame start, after the frame's blocks have been given: what was sent and aged
is counted, and packets taken now are of the next frame to start (R49, R158). -/
def pathOccasion (before : Quad TenantUnit) (g : Quad TenantGiven) (s : State) : State :=
  endPathActive (Tenant.all.foldl (tenantTests before g) s)

/-- The frame planned, built and handed over from the state as it stands (R5), with every block given up by its owner.
DESIGN CHOICE (log entry 53): the frame is handed over, with TX_CHANGE, before the queues give up their blocks, with DRAINED
in the order T0 to T3. -/
def sendFrame (s : State) : State :=
  let p := s.plan
  let g := s.given p.1
  pathOccasion s.tenants g (frameDone (giveUp p.1 g s.nextTxProfile (handOver p g s)))

/-- The state at the frame boundary that comes next: a second boundary there comes first (R98), what stands due is taken,
and the counts of the frame start are made. -/
def reachFrame (s : State) : State :=
  let s0 := if s.timing.base.secondFirst then secondEvent s else s
  let s1 := settle (s0.withBase (s0.timing.base.advanceBy s0.timing.base.toFrame))
  s1.withTiming (s1.timing.frameTick s1.role s1.link.frameCounter)

/-- A frame start (R3); while no role is set no frame starts. -/
def frameStart (s : State) : State := if s.role = none then s else sendFrame (reachFrame s)

/-- FRAME_START (R3). -/
def execFrameStart (s : State) : Host.Outcome State Fault Refusal := .next (announce (frameStart s))

/-- The SYNC countdown reaching 0 ahead of the frame start that makes it do so (R119). -/
def syncDueNow (s : State) : State :=
  if s.role = some .hub ∧ s.timing.xfer.countdown = 1 then
    s.withTiming { s.timing with xfer := s.timing.xfer.countdownTick }
  else s

/-- SYNC_DUE (R119). -/
def execSyncDue (s : State) : Host.Outcome State Fault Refusal := .next (announce (syncDueNow s))

/-- The timeouts of the exchange table ahead of the frame start that comes next (R126). -/
def timeoutsNow (s : State) : State :=
  if s.role = some .trailer then s.withTiming { s.timing with xfer := s.timing.xfer.timeouts s.link.frameCounter } else s

/-- EXCHANGE_TIMEOUT (R126). -/
def execExchangeTimeout (s : State) : Host.Outcome State Fault Refusal := .next (announce (timeoutsNow s))

end Sys2Proof.Machine
end

