-- ==== Sys2Proof/Machine/Passing.lean ====
section
/-! DEFINITION. The passing of local time (R98): an advance runs the frame starts and the second-boundary events of the
boundaries it crosses, each at its boundary and in its order. With it the commands that happen at a moment of local time:
SECOND_BOUNDARY, PULSE, ABSENCE_EXPIRY and RECEIVE_MARKER_CAPTURE. -/

namespace Sys2Proof.Machine

/-! ## Local time passes -/

/-- The advance to the boundary whose event comes next: 0 when local time stands on it. While no role is set no frame
starts, and only second boundaries have an event (R3, R98). -/
def State.toBoundary (s : State) : Nat :=
  if s.timing.base.secondHere then 0 else if s.role = none then s.timing.base.toSecond else s.timing.base.toFrame

/-- The event of the boundary that comes next: the second boundary, or the frame start, which takes a second boundary at
its moment first (R98). -/
def boundaryEvent (s : State) : State := if s.timing.base.secondHere = true ∨ s.role = none then secondEvent s else frameStart s

/-- Local time passes by `dt` half nanoseconds over at most so many boundaries: the event of every boundary crossed is
taken there. A boundary on which the passing ends has been reached, and its event is still to be taken. -/
def passOver : Nat → Nat → State → State
  | 0, dt, s => s.withBase (s.timing.base.advanceBy dt)
  | n + 1, dt, s =>
    if s.toBoundary < dt then passOver n (dt - s.toBoundary) (boundaryEvent s)
    else s.withBase (s.timing.base.advanceBy dt)

/-- Local time passes by `dt` half nanoseconds (R98). Boundaries lie 250,000 half nanoseconds apart, but for a frame and a
second boundary on which local time may stand at the start. -/
def passTime (dt : Nat) (s : State) : State := passOver (dt / Config.halfPerFrame + 3) dt s

/-! ## The commands of a moment -/

/-- SECOND_BOUNDARY (R98): local time passes to the next second boundary, and its event is taken. -/
def execSecondBoundary (s : State) : Host.Outcome State Fault Refusal :=
  .next (announce (secondEvent (passTime s.timing.base.toSecond s)))

/-- PULSE (R106): local time passes to the pulse, what stands due is taken, and the pulse is captured and judged. -/
def execPulse (i : PulseInput) (elapsed : Nat) (s : State) : Host.Outcome State Fault Refusal :=
  .next (announce (takePulse i (settle (passTime elapsed s))))

/-- The absence of a pulse input expires at the present moment; an input that is ABSENT is not supervised (R108). -/
def absenceNow (i : PulseInput) (s : State) : State :=
  if (s.timing.base.qualifier i).expiryAt.isSome then timingEvent (s.timing.inputExpired i) s else s

/-- ABSENCE_EXPIRY (R108): local time passes to the expiry; an input that is not supervised has none. -/
def execAbsenceExpiry (i : PulseInput) (s : State) : Host.Outcome State Fault Refusal :=
  .next (announce (absenceNow i (passTime (s.timing.base.toExpiry i) s)))

/-- RECEIVE_MARKER_CAPTURE (R103): local time passes to the modem's signal, and the marker is captured. -/
def execReceiveMarkerCapture (elapsed : Nat) (s : State) : Host.Outcome State Fault Refusal :=
  let s1 := passTime elapsed s
  .next (announce (s1.withBase s1.timing.base.captureMarker))

end Sys2Proof.Machine
end

