-- ==== Sys2Proof/Machine/StoreUnit.lean ====
section
/-! DEFINITION. The Settings Store (10.5): its operations from taking to end, STORE_LOAD, and the store requests. -/

namespace Sys2Proof.Machine

/-! ## The store state -/

/-- The store state (R177): READY without an operation in flight. -/
def Store.state (st : Store) : StoreState :=
  match st.op with
  | none => .ready
  | some o =>
    match o.stage with
    | .erasing => .erasing
    | .programming => .programming

/-- The validity of the four plan slots. -/
def Store.validity (st : Store) : Quad Bool := st.plan.map PlanSlot.valid

/-- The plan slot of an index with its validity mark erased (R177, R178). -/
def Store.erasePlan (st : Store) (i : Nat) : Store :=
  { st with plan := st.plan.put i { st.plan.at i with valid := false } }

/-- The plan slot of an index written, its validity mark programmed last (R177). -/
def Store.writePlan (st : Store) (i : Nat) (v : Settings) : Store :=
  { st with plan := st.plan.put i { valid := true, settings := v } }

/-- The first stage of an operation (R178). -/
def StoreOpKind.firstStage : StoreOpKind → StoreStage
  | .save _ _ => .erasing
  | .erase _ => .erasing
  | .boot _ => .programming
  | .cal _ _ => .erasing

/-- Whether PROGRAMMING follows the ERASING of an operation (R178). -/
def StoreOpKind.programs : StoreOpKind → Bool
  | .save _ _ => true
  | .erase _ => false
  | .boot _ => true
  | .cal _ _ => true

/-- The duration of an operation in half nanoseconds: 38 ms, 30 ms or 2 ms (R178). -/
def StoreOpKind.duration : StoreOpKind → Nat
  | .save _ _ => 76000000
  | .erase _ => 60000000
  | .boot _ => 4000000
  | .cal _ _ => 76000000

/-- The name of an operation. -/
def StoreOpKind.name : StoreOpKind → StoreOpName
  | .save i _ => .save i
  | .erase i => .erase i
  | .boot i => .boot i
  | .cal _ _ => .cal

/-- The slot or mark an operation concerns (R180). -/
def StoreOpKind.subject : StoreOpKind → StoreSubject
  | .save i _ => .plan i
  | .erase i => .plan i
  | .boot _ => .bootMark
  | .cal _ _ => .calibration

/-- The cause of the notice at the end of an operation (R180). -/
def StoreOpKind.cause : StoreOpKind → StoreCause
  | .save _ _ => .saved
  | .erase _ => .erased
  | .boot _ => .bootSet
  | .cal _ _ => .calWritten

/-- What the taking of an operation erases at once: a slot's validity mark, or the boot-slot mark (R178, R179). -/
def Store.begun (st : Store) : StoreOpKind → Store
  | .save i _ => st.erasePlan i
  | .erase i => st.erasePlan i
  | .boot _ => { st with bootMark := none }
  | .cal _ _ => { st with cal := { st.cal with valid := false } }

/-- What the end of an operation leaves (R178). -/
def Store.finished (st : Store) : StoreOpKind → Store
  | .save i v => st.writePlan i v
  | .erase _ => st
  | .boot i => { st with bootMark := i }
  | .cal f a => { st with cal := { valid := true, frequency := f, aging := a } }

/-- An operation taken at an advance reading (R178). -/
def Store.take (st : Store) (k : StoreOpKind) (reading : Nat) : Store :=
  { st.begun k with op := some { kind := k, stage := k.firstStage, taken := reading } }

/-- The operation in flight abandoned: what its taking erased stays erased (R182). -/
def Store.abandoned (st : Store) : Store := { st with op := none }

/-- A STORE notice raised (R180). -/
def State.raiseStore (s : State) (c : StoreCause) (subject : StoreSubject) : State :=
  s.raise .store (.store
    { cause := c, subject := subject, state := s.store.state, valid := s.store.validity, calValid := s.store.cal.valid,
      bootMark := s.store.bootMark })

/-! ## The stages' ends -/

/-- The 30 ms ERASING of a STORE_SAVE or a STORE_CAL ends, and PROGRAMMING follows (R178). -/
def Store.erased (st : Store) : Store :=
  match st.op with
  | some o => if o.stage = .erasing ∧ o.kind.programs = true then { st with op := some { o with stage := .programming } } else st
  | none => st

/-- ERASING_END (R178). The last stage of a STORE_ERASE ends as STORE_OPERATION_END. -/
def execErasingEnd (s : State) : Host.Outcome State Fault Refusal := .next (announce (s.withStore s.store.erased))

/-- Whether an operation is in its last stage (R178, R180). -/
def StoreOp.last (o : StoreOp) : Bool := o.stage == .programming || !o.kind.programs

/-- The operation in flight ends at the end of its last stage: the store is READY and the STORE notice is raised
(R180). -/
def storeEnds (s : State) : State :=
  match s.store.op with
  | some o =>
    if o.last then (s.withStore { s.store.finished o.kind with op := none }).raiseStore o.kind.cause o.kind.subject
    else s
  | none => s

/-- STORE_OPERATION_END (R180). -/
def execStoreOperationEnd (s : State) : Host.Outcome State Fault Refusal := .next (announce (storeEnds s))

/-! ## The requests -/

/-- The settings in force, as STORE_SAVE copies them (R177, R178). -/
def State.settings (s : State) : Settings :=
  { role := s.role, link := s.ladder.record, tenants := s.tenants.map TenantUnit.record, shares := s.planner.shares,
    timing := s.timing.base.record, patterns := s.test.patterns }

/-- A store operation taken (R178). -/
def takeOp (k : StoreOpKind) (s : State) : State × Status × ReplyBody :=
  (s.withStore (s.store.take k s.timing.base.advance), .ok, .empty)

/-- STORE_SAVE (R178). -/
def doStoreSave (slot : Nat) (s : State) : State × Status × ReplyBody :=
  if 3 < slot then (s, .badValue, .empty)
  else if s.store.op.isSome then (s, .busy, .empty)
  else takeOp (.save slot s.settings) s

/-- STORE_ERASE (R178). -/
def doStoreErase (slot : Nat) (s : State) : State × Status × ReplyBody :=
  if 3 < slot then (s, .badValue, .empty)
  else if s.store.op.isSome then (s, .busy, .empty)
  else takeOp (.erase slot) s

/-- STORE_BOOT (R178): a plan slot that is not valid is refused with STORE_FAULT; NONE is always taken. -/
def doStoreBoot (slot : Option Nat) (s : State) : State × Status × ReplyBody :=
  if 3 < slot.getD 0 then (s, .badValue, .empty)
  else if s.store.op.isSome then (s, .busy, .empty)
  else
    match slot with
    | none => takeOp (.boot none) s
    | some i => if (s.store.plan.at i).valid then takeOp (.boot (some i)) s else (s, .storeFault, .empty)

/-- STORE_CAL (R179). -/
def doStoreCal (aging : Int) (s : State) : State × Status × ReplyBody :=
  if Config.agingBound < aging.natAbs then (s, .badValue, .empty)
  else if s.store.op.isSome then (s, .busy, .empty)
  else if s.timing.servo.state = .locked ∧ 3600 ≤ s.timing.servo.lockedTime then
    takeOp (.cal s.timing.servo.fHold aging) s
  else (s, .wrongState, .lockedTime s.timing.servo.state s.timing.servo.lockedTime)

/-! ## The timing record and STORE_LOAD -/

/-- A timing record put in force: the countdown of a HUB limited, the selection re-evaluated, the class re-judged, with
the TIMING notices (R111, R133, R146). -/
def takeTimingRecord (r : TimingRecord) (s : State) : State :=
  timingEvent
    (({ s.timing with base := { s.timing.base with record := r },
                      xfer := s.timing.xfer.limitCountdown s.role r.timingPeriod } : Timing).reselect) s

/-- The four tenant records loaded (R58). -/
def loadTenants (q : Quad TenantRecord) (s : State) : State :=
  Tenant.all.foldl (fun s t => takeTenantRecord t (q.get t) .loaded s) s

/-- The settings of a slot applied by STORE_LOAD, but for the role (R181). -/
def applySettings (v : Settings) (s : State) : State :=
  let s1 := (s.withLadder (s.ladder.takeRecord v.link)).withPlanner { s.planner with shares := v.shares }
  let s2 := (takeTimingRecord v.timing s1)
  loadTenants v.tenants (s2.withTest { s2.test with patterns := v.patterns })

/-- STORE_LOAD (R181). -/
def doStoreLoad (slot : Nat) (s : State) : State × Status × ReplyBody :=
  if 3 < slot then (s, .badValue, .empty)
  else if s.store.op.isSome then (s, .busy, .empty)
  else if s.inService ≠ [] then (s, .wrongState, .tenants s.inService)
  else if (s.store.plan.at slot).valid = false then (s, .storeFault, .empty)
  else
    ((applySettings (s.store.plan.at slot).settings s).raiseStore .loaded (.plan slot), .ok, .slot slot)

end Sys2Proof.Machine
end

