-- ==== Sys2Proof/Machine/Status.lean ====
section
/-! DEFINITION. The records of GET_STATUS (R22, R36, R57, R79, R80, R96, R116, R134, R149, R166, R182). Reading one
changes no state. -/

namespace Sys2Proof.Machine

/-- The link status record (R22, R36, R79, R80). -/
def State.linkStatus (s : State) : LinkStatus :=
  { role := s.role, state := s.link.state, good := s.link.good, lost := s.link.lost, txProfile := s.link.txProfile,
    reqSent := s.link.reqSent, farReq := s.link.farReq, rxXoff := s.link.rxXoff, xoffSent := s.link.xoffSent,
    farEnd := s.link.farEnd, lastSeq := s.link.lastSeq, txSeq := s.link.txSeq, frameCounter := s.link.frameCounter,
    counters := s.link.counters, record := s.ladder.record, rp := s.ladder.rp, dwell := s.ladder.dwell,
    confirm := s.ladder.confirm, forced := s.ladder.forced, farForce := s.link.farForce,
    lastSample := s.ladder.lastSample, ladder := s.ladder.counters, shares := s.planner.shares,
    pointers := s.planner.pointers, lastPlan := s.planner.last, planner := s.planner.counters }

/-- One pulse input's part of the timing status record (R116). -/
def Qualifier.status (q : Qualifier) : PulseStatus :=
  { state := q.state, good := q.good, bad := q.bad, lastM := q.lastM, lastCapture := q.lastCapture,
    counters := q.counters }

/-- One tenant's part of the timing status record (R116). -/
def TenantUnit.squelchStatus (u : TenantUnit) : SquelchStatus :=
  { squelched := u.squelched, emitted := u.secondsEmitted, squelchedCount := u.secondsSquelched }

/-- The transfer fields by role (R134). -/
def Transfer.status (x : Transfer) : Option Role → TransferStatus
  | none => .noRole
  | some .hub => .hub x.syncSeq x.countdown x.responses
  | some .trailer =>
    .trailer x.exchanges x.link.state x.link.accepted x.link.previous x.link.since x.link.hubClass x.link.lastM
      x.link.result

/-- The timing status record (R116, R134, R149). -/
def State.timingStatus (s : State) : TimingStatus :=
  { now := s.timing.base.now, pendingSet := s.timing.base.pendingSet, steer := s.timing.base.steer,
    record := s.timing.base.record, gnss := s.timing.base.gnss.status, ext := s.timing.base.ext.status,
    tenants := s.tenants.map TenantUnit.squelchStatus, transfer := s.timing.xfer.status s.role,
    transferCounters := s.timing.xfer.counters, state := s.timing.servo.state, selected := s.timing.servo.selected,
    cls := s.timing.servo.cls, f := s.timing.servo.f, fHold := s.timing.servo.fHold,
    everLocked := s.timing.servo.everLocked, lock := s.timing.servo.lock, unlock := s.timing.servo.unlock,
    lockedTime := s.timing.servo.lockedTime, elapsed := s.timing.servo.elapsed, lastE := s.timing.servo.lastE,
    aging := s.agingRate, servoCounters := s.timing.servo.counters }

/-- The head entry as the tenant status shows it (R57); its age is that of the next frame start. -/
def Entry.headStatus (e : Entry) (frame : BitVec 32) : HeadStatus :=
  { seq := e.seq, origin := e.origin, total := e.total, sent := e.sent, age := (frame - e.arrival).toNat }

/-- The packet in progress as the tenant status shows it (R96). -/
def Packet.status (p : Packet) : PacketStatus :=
  { length := p.length, total := p.total, received := p.received, errored := p.errored, origin := p.origin }

/-- The length of the packet in delivery, or none (R96). -/
def TenantUnit.deliveryLength (u : TenantUnit) : Option Nat :=
  if u.delivering then u.egress.head?.map EgressEntry.length else none

/-- The tenant status record (R57, R96), with the hold input as last sampled. -/
def TenantUnit.status (u : TenantUnit) (frame : BitVec 32) : TenantStatus :=
  { state := u.state, record := u.record, blocks := occupancy u.queue, entries := u.queue.length, nextSeq := u.nextSeq,
    head := u.queue.head?.map fun e => e.headStatus frame, paused := u.paused, xoff := u.xoff,
    egressBlocks := egressOccupancy u.egress, egressEntries := u.egress.length, erroredPresent := u.erroredPresent,
    hold := u.holdSeen, delivery := u.deliveryLength, expected := u.expected, packet := u.packet.map Packet.status,
    squelched := u.squelched }

/-- The test status record (R166): the frame starts or seconds remaining stand in the current step. DESIGN CHOICE (log entry
46): for a TENANT_PATH step in ACTIVE, a phase without a count, it shows 0 frame starts remaining. DESIGN CHOICE (log entry
55): while no run is RUNNING it shows no current step, no phase and no working counts. -/
def State.testStatus (s : State) : TestStatus :=
  { runState := s.test.runState, runId := s.test.runId, work := s.test.work, acceptance := s.test.acceptance,
    check := s.test.check, report := s.test.report, counters := s.test.counters }

/-- The operation in flight with the time that remains of it, in half nanoseconds of advance (R182; log entry 15). -/
def StoreOp.status (o : StoreOp) (reading : Nat) : StoreOpName × Nat :=
  (o.kind.name, o.kind.duration - (reading - o.taken))

/-- A plan slot as the store record shows it: the role it holds when it is valid (R182). -/
def PlanSlot.status (p : PlanSlot) : Option (Option Role) := if p.valid then some p.settings.role else none

/-- The store record (R182). DESIGN CHOICE (log entry 47): while the calibration slot is not valid, the record shows the
frequency and the aging rate that the slot still holds. -/
def State.storeStatus (s : State) : StoreStatus :=
  { state := s.store.state, op := s.store.op.map fun o => o.status s.timing.base.advance,
    slots := s.store.plan.map PlanSlot.status, bootMark := s.store.bootMark, cal := s.store.cal,
    cause := s.port.lastCause }

/-- The status record of a section; a tenant index that names no tenant has none (R57). -/
def State.statusOf (s : State) : StatusPart → Option StatusRecord
  | .link => some (.link s.linkStatus)
  | .timing => some (.timing s.timingStatus)
  | .tenant i => (Tenant.ofIndex i).map fun t => .tenant ((s.tenant t).status s.link.frameCounter)
  | .test => some (.test s.testStatus)
  | .store => some (.store s.storeStatus)

/-- GET_STATUS (R171): a section that is none of the five, and a tenant index outside 0 to 3, are refused with BAD_VALUE.
Every reply carries the line counters (R169). -/
def doGetStatus (part : Option StatusPart) (s : State) : State × Status × ReplyBody :=
  match part.bind s.statusOf with
  | some r => (s, .ok, .status r s.port.counters)
  | none => (s, .badValue, .line s.port.counters)

end Sys2Proof.Machine
end

