-- ==== Sys2Proof/Machine/Requests.lean ====
section
/-! DEFINITION. The requests of the timing blocks (R101, R111, R147), GET_ID, SET_ROLE and RESET (R174, R175), and the
passing of a request to the block that owns it (R171). -/

namespace Sys2Proof.Machine

/-- SET_TIMING (R111). -/
def doSetTiming (r : TimingRecord) (s : State) : State × Status × ReplyBody :=
  if r.ok then (takeTimingRecord r s, .ok, .timingRecord r) else (s, .badValue, .timingRecord s.timing.base.record)

/-- TIME_SET (R101). -/
def doTimeSet (sec : BitVec 48) (s : State) : State × Status × ReplyBody :=
  if s.role = some .trailer ∧ s.timing.servo.selected = some .link then (s, .wrongState, .empty)
  else (s.withBase { s.timing.base with pendingSet := some sec }, .ok, .timeSet sec s.timing.base.now)

/-- TIMING_RESTART (R147). -/
def doTimingRestart (s : State) : State × Status × ReplyBody :=
  let t := s.timing.restart
  (stepWatch ((s.withTiming t).raiseTiming s.timing (restartCauses s.timing t)), .ok,
    .restarted t.servo.state t.servo.selected t.servo.cls)

/-- GET_ID (R175). -/
def doGetId (s : State) : State × Status × ReplyBody :=
  (s, .ok, .identity Config.identification Config.siliconRevision s.port.lastCause)

/-- A role set: frames start from the first boundary reached after it, and no absence is registered before two frame
starts (R3, R13). -/
def State.startRole (s : State) (r : Role) : State :=
  ((s.withRole (some r)).withLink { s.link with startsSince := 0, absenceDue := false }).withBase
    { s.timing.base with frameHere := false }

/-- SET_ROLE (R175). -/
def doSetRole (role : Option Role) (s : State) : State × Status × ReplyBody :=
  match s.role with
  | some r => (s, .onceOnly, .role (some r))
  | none =>
    match role with
    | none => (s, .badValue, .empty)
    | some r => (s.startRole r, .ok, .role (some r))

/-- RESET (R174): answered OK, the reset follows when the reply has left the line. -/
def doReset (option : Option ResetOption) (s : State) : State × Status × ReplyBody :=
  match option with
  | none => (s, .badValue, .empty)
  | some o => (s.withPort { s.port with resetPending := some o }, .ok, .empty)

/-- A request passed to the block that owns it: the state after it, the status and the body of the reply (R171). -/
def perform : Request → State → State × Status × ReplyBody
  | .getId => doGetId
  | .setRole r => doSetRole r
  | .reset o => doReset o
  | .getStatus p => doGetStatus p
  | .setLink r => doSetLink r
  | .setTenant i r => doSetTenant i r
  | .setShares t => doSetShares t
  | .tenantActivate i => doTenantActivate i
  | .tenantDrain i => doTenantDrain i
  | .tenantOff i => doTenantOff i
  | .getCounters i c => doGetCounters i c
  | .setTiming r => doSetTiming r
  | .timeSet x => doTimeSet x
  | .timingRestart => doTimingRestart
  | .setPattern i p => doSetPattern i p
  | .setStep i a => doSetStep i a
  | .testStart n f => doTestStart n f
  | .testAbort => doTestAbort
  | .getResults => doGetResults
  | .acceptWaive => doAcceptWaive
  | .storeSave i => doStoreSave i
  | .storeLoad i => doStoreLoad i
  | .storeErase i => doStoreErase i
  | .storeBoot i => doStoreBoot i
  | .storeCal a => doStoreCal a

/-- A complete frame judged (R171): an unknown kind and a bad length have an empty body and no effect. -/
def answer : Incoming → State → State × Status × ReplyBody
  | .unknownKind, s => (s, .unknownKind, .empty)
  | .badLength, s => (s, .badLength, .empty)
  | .request r, s => perform r s

end Sys2Proof.Machine
end

