-- ==== Sys2Proof/Machine/Management.lean ====
section
/-! DEFINITION. The Management Port (10.1 to 10.3): the frame receiver, the receive buffer, the taking of requests, the
outgoing line, the values of 11.1, and the commands that are request frames. -/

namespace Sys2Proof.Machine

/-! ## Values of 11.1 -/

/-- The value of a reply status (11.1). -/
def Status.code : Status → Nat
  | .ok => 0 | .adjusted => 1 | .unknownKind => 2 | .badLength => 3 | .badValue => 4 | .wrongState => 5 | .busy => 6
  | .onceOnly => 7 | .storeFault => 8

/-- The kind byte of a notice: 128 plus its position in the sending priority order (11.1). -/
def NoticeKind.code : NoticeKind → Nat
  | .boot => 128 | .link => 129 | .timing => 130 | .tenant t => 131 + t.index | .test => 135 | .store => 136
  | .profile => 137

/-- The kind, the tag and the first body byte of a frame on the outgoing line (11.1): the status of a reply, the merge
count of a notice. -/
def LineFrame.lead : LineFrame → Byte × Byte × Byte
  | .reply r => (r.kind, r.tag, BitVec.ofNat 8 r.status.code)
  | .notice k _ merge => (BitVec.ofNat 8 k.code, 0, BitVec.ofNat 8 merge)

/-- A management frame as bytes (11.1). -/
def managementBytes (kind tag : Byte) (body : List Byte) : List Byte :=
  let covered := numBytes 2 (2 + body.length) ++ [kind, tag] ++ body
  0x5A :: covered ++ numBytes 2 (crc16 covered).toNat

/-! ## The frame receiver (R169) -/

/-- The request of a kind whose body is empty (10.2). -/
def bodyless : Nat → Option Request
  | 1 => some .getId
  | 14 => some .timingRestart
  | 18 => some .testAbort
  | 19 => some .getResults
  | 20 => some .acceptWaive
  | _ => none

/-- What a complete frame asks (R171): its kind first, then the length of its body; the reading of a body with fields is
free (log entry 6). -/
def incoming (kind : Nat) (body : List Byte) : Incoming :=
  if kindListed kind = false then .unknownKind
  else
    match bodyless kind with
    | some r => if body.isEmpty then .request r else .badLength
    | none =>
      match Config.requestBody kind body with
      | some r => if r.kind = kind then .request r else .badLength
      | none => .badLength

/-- The complete frame in the bytes collected after the start byte: its kind, its tag and what it asks. -/
def completed (b : List Byte) : Buffered :=
  { kind := byteAt b 2, tag := byteAt b 3, what := incoming (byteAt b 2).toNat ((b.drop 4).take (numAt b 0 2 - 2)) }

/-- Whether the check of a frame equals the CRC over its bytes (R169). -/
def checkPasses (b : List Byte) : Bool :=
  crc16 (b.take (numAt b 0 2 + 2)) == BitVec.ofNat 16 (numAt b (numAt b 0 2 + 2) 2)

/-- The bytes collected in FRAME judged: kept, discarded, or complete (R169). -/
def Port.collect (p : Port) (b : List Byte) : Port × Option Buffered :=
  if b.length < 2 then ({ p with rx := some b }, none)
  else if b.length = 2 ∧ (numAt b 0 2 < 2 ∨ 514 < numAt b 0 2) then
    ({ p with rx := none, counters := { p.counters with length := bump p.counters.length } }, none)
  else if b.length < numAt b 0 2 + 4 then ({ p with rx := some b }, none)
  else if checkPasses b then ({ p with rx := none }, some (completed b))
  else ({ p with rx := none, counters := { p.counters with check := bump p.counters.check } }, none)

/-- One byte at the frame receiver (R169), with the complete frame it ends. -/
def Port.rxByte (p : Port) (b : Byte) : Port × Option Buffered :=
  match p.rx with
  | none =>
    if b = 0x5A then ({ p with rx := some [] }, none)
    else ({ p with counters := { p.counters with stray := bump p.counters.stray } }, none)
  | some l => p.collect (l ++ [b])

/-- The gap of 50 µs expired: a frame in FRAME is discarded (R169). -/
def Port.gap (p : Port) : Port :=
  if p.rx.isSome then { p with rx := none, counters := { p.counters with gap := bump p.counters.gap } } else p

/-! ## The receive buffer and the replies (R170 to R172) -/

/-- A complete frame offered to the receive buffer (R170). -/
def Port.offer (p : Port) (b : Buffered) : Port :=
  if p.buffer.length < 2 then { p with buffer := p.buffer ++ [b] }
  else { p with counters := { p.counters with full := bump p.counters.full } }

/-- The place of the reply to a request in waiting, held while the request's effects run (log entry 8). -/
def Port.reserve (p : Port) (kind tag : Byte) : Port :=
  { p with reply := some { kind := kind, tag := tag, status := .ok, body := .empty } }

/-- A request taken and completed: its effects, and its reply in waiting (R170, R171). The reply is fixed at the moment
the request is taken, so a notice that the request raises finds a reply waiting (R172; log entry 8). -/
def completeRequest (b : Buffered) (s : State) : State :=
  let r := answer b.what (s.withPort (s.port.reserve b.kind b.tag))
  r.1.withPort { r.1.port with reply := some { kind := b.kind, tag := b.tag, status := r.2.1, body := r.2.2 } }

/-- The oldest frame of the buffer taken when no reply is waiting and no RESET has been answered OK (R170, R174). -/
def takeRequest (s : State) : State :=
  if s.port.reply.isNone && s.port.resetPending.isNone then
    match s.port.buffer with
    | [] => s
    | b :: rest => completeRequest b (s.withPort { s.port with buffer := rest })
  else s

/-- The reply in waiting begins on a free line (R172). -/
def Port.beginReply (p : Port) : Port :=
  match p.line, p.reply with
  | none, some r => { p with line := some (.reply r), reply := none }
  | _, _ => p

/-- The requests that can be taken are taken: one now, and the next when the reply of the first has begun (R170). -/
def serve (s : State) : State :=
  let s1 := takeRequest s
  takeRequest (s1.withPort s1.port.beginReply)

/-- A complete frame at the receive buffer (R170). -/
def offerFrame (b : Buffered) (s : State) : State := serve (s.withPort (s.port.offer b))

/-- One byte of the management line (R169, R170). -/
def receiveByte (s : State) (b : Byte) : State :=
  let r := s.port.rxByte b
  match r.2 with
  | none => s.withPort r.1
  | some f => offerFrame f (s.withPort r.1)

/-- MANAGEMENT_FRAME (R169): bytes arrive at the management line one after another. -/
def execManagementFrame (bytes : List Byte) (s : State) : Host.Outcome State Fault Refusal :=
  .next (announce (bytes.foldl receiveByte s))

/-- GAP_EXPIRY (R169). -/
def execGapExpiry (s : State) : Host.Outcome State Fault Refusal := .next (announce (s.withPort s.port.gap))

/-- STRAY_BYTE (R169). -/
def execStrayByte (b : Byte) (s : State) : Host.Outcome State Fault Refusal := .next (announce (receiveByte s b))

/-- The end of a frame on the outgoing line other than the reply to a RESET: a waiting reply begins, else the highest
pending notice (R172). On a free line there is no frame to end. -/
def lineEnds (s : State) : State := if s.port.line.isSome then serve (s.withPort { s.port with line := none }) else s

/-- The RESET whose reply is the frame on the outgoing line, or has left it: answered OK, with no reply waiting any more
(R174). -/
def Port.resetDue (p : Port) : Option ResetOption := if p.reply.isNone then p.resetPending else none

/-! ## The commands that are request frames

Each is the completion of one request frame of that kind (log entry 5). -/

/-- A request frame of a kind completed at the receiver. -/
def requestFrame (tag : Byte) (r : Request) (s : State) : State :=
  announce (offerFrame { kind := BitVec.ofNat 8 r.kind, tag := tag, what := .request r } s)

/-- UNKNOWN_KIND (R171). -/
def execUnknownKind (tag kind : Byte) (s : State) : Host.Outcome State Fault Refusal :=
  .next (announce (offerFrame { kind := kind, tag := tag, what := .unknownKind } s))

/-- GET_ID (R175). -/
def execGetId (tag : Byte) (s : State) : Host.Outcome State Fault Refusal := .next (requestFrame tag .getId s)

/-- SET_ROLE (R175). -/
def execSetRole (tag : Byte) (role : Option Role) (s : State) : Host.Outcome State Fault Refusal :=
  .next (requestFrame tag (.setRole role) s)

/-- RESET with the FULL option (R174). -/
def execResetFull (tag : Byte) (s : State) : Host.Outcome State Fault Refusal :=
  .next (requestFrame tag (.reset (some .full)) s)

/-- RESET with the WARM option (R174). -/
def execResetWarm (tag : Byte) (s : State) : Host.Outcome State Fault Refusal :=
  .next (requestFrame tag (.reset (some .warm)) s)

/-- GET_STATUS with section LINK (R22, R36, R79). -/
def execGetStatusLink (tag : Byte) (s : State) : Host.Outcome State Fault Refusal :=
  .next (requestFrame tag (.getStatus (some .link)) s)

/-- GET_STATUS with section TIMING (R116, R134, R149). -/
def execGetStatusTiming (tag : Byte) (s : State) : Host.Outcome State Fault Refusal :=
  .next (requestFrame tag (.getStatus (some .timing)) s)

/-- GET_STATUS with section TENANT (R57, R96). -/
def execGetStatusTenant (tag : Byte) (index : Nat) (s : State) : Host.Outcome State Fault Refusal :=
  .next (requestFrame tag (.getStatus (some (.tenant index))) s)

/-- GET_STATUS with section TEST (R166). -/
def execGetStatusTest (tag : Byte) (s : State) : Host.Outcome State Fault Refusal :=
  .next (requestFrame tag (.getStatus (some .test)) s)

/-- GET_STATUS with section STORE (R182). -/
def execGetStatusStore (tag : Byte) (s : State) : Host.Outcome State Fault Refusal :=
  .next (requestFrame tag (.getStatus (some .store)) s)

/-- SET_LINK (R25, R26). -/
def execSetLink (tag : Byte) (r : LinkRecord) (s : State) : Host.Outcome State Fault Refusal :=
  .next (requestFrame tag (.setLink r) s)

/-- SET_TENANT (R40, R41). -/
def execSetTenant (tag : Byte) (index : Nat) (r : Option TenantRecord) (s : State) : Host.Outcome State Fault Refusal :=
  .next (requestFrame tag (.setTenant index r) s)

/-- TENANT_ACTIVATE (R42). -/
def execTenantActivate (tag : Byte) (index : Nat) (s : State) : Host.Outcome State Fault Refusal :=
  .next (requestFrame tag (.tenantActivate index) s)

/-- TENANT_DRAIN (R44). -/
def execTenantDrain (tag : Byte) (index : Nat) (s : State) : Host.Outcome State Fault Refusal :=
  .next (requestFrame tag (.tenantDrain index) s)

/-- TENANT_OFF (R46, R93). -/
def execTenantOff (tag : Byte) (index : Nat) (s : State) : Host.Outcome State Fault Refusal :=
  .next (requestFrame tag (.tenantOff index) s)

/-- SET_SHARES (R77, R78). -/
def execSetShares (tag : Byte) (table : ShareTable) (s : State) : Host.Outcome State Fault Refusal :=
  .next (requestFrame tag (.setShares table) s)

/-- GET_COUNTERS (R56). -/
def execGetCounters (tag : Byte) (index : Nat) (clear : Bool) (s : State) : Host.Outcome State Fault Refusal :=
  .next (requestFrame tag (.getCounters index clear) s)

/-- SET_TIMING (R111). -/
def execSetTiming (tag : Byte) (r : TimingRecord) (s : State) : Host.Outcome State Fault Refusal :=
  .next (requestFrame tag (.setTiming r) s)

/-- TIME_SET (R101). -/
def execTimeSet (tag : Byte) (sec : BitVec 48) (s : State) : Host.Outcome State Fault Refusal :=
  .next (requestFrame tag (.timeSet sec) s)

/-- TIMING_RESTART (R147). -/
def execTimingRestart (tag : Byte) (s : State) : Host.Outcome State Fault Refusal :=
  .next (requestFrame tag .timingRestart s)

/-- SET_PATTERN (R151). -/
def execSetPattern (tag : Byte) (index : Nat) (p : Option Pattern) (s : State) : Host.Outcome State Fault Refusal :=
  .next (requestFrame tag (.setPattern index p) s)

/-- SET_STEP (R153). -/
def execSetStep (tag : Byte) (index : Nat) (arg : StepArg) (s : State) : Host.Outcome State Fault Refusal :=
  .next (requestFrame tag (.setStep index arg) s)

/-- TEST_START (R154). -/
def execTestStart (tag : Byte) (count : Nat) (acceptance : Bool) (s : State) : Host.Outcome State Fault Refusal :=
  .next (requestFrame tag (.testStart count acceptance) s)

/-- TEST_ABORT (R165). -/
def execTestAbort (tag : Byte) (s : State) : Host.Outcome State Fault Refusal := .next (requestFrame tag .testAbort s)

/-- GET_RESULTS (R166). -/
def execGetResults (tag : Byte) (s : State) : Host.Outcome State Fault Refusal :=
  .next (requestFrame tag .getResults s)

/-- ACCEPT_WAIVE (R167). -/
def execAcceptWaive (tag : Byte) (s : State) : Host.Outcome State Fault Refusal :=
  .next (requestFrame tag .acceptWaive s)

/-- STORE_SAVE (R178). -/
def execStoreSave (tag : Byte) (slot : Nat) (s : State) : Host.Outcome State Fault Refusal :=
  .next (requestFrame tag (.storeSave slot) s)

/-- STORE_LOAD (R181). -/
def execStoreLoad (tag : Byte) (slot : Nat) (s : State) : Host.Outcome State Fault Refusal :=
  .next (requestFrame tag (.storeLoad slot) s)

/-- STORE_ERASE (R178). -/
def execStoreErase (tag : Byte) (slot : Nat) (s : State) : Host.Outcome State Fault Refusal :=
  .next (requestFrame tag (.storeErase slot) s)

/-- STORE_BOOT (R178). -/
def execStoreBoot (tag : Byte) (slot : Option Nat) (s : State) : Host.Outcome State Fault Refusal :=
  .next (requestFrame tag (.storeBoot slot) s)

/-- STORE_CAL (R179). -/
def execStoreCal (tag : Byte) (aging : Int) (s : State) : Host.Outcome State Fault Refusal :=
  .next (requestFrame tag (.storeCal aging) s)

end Sys2Proof.Machine
end

