-- ==== Sys2Proof/Machine/Resets.lean ====
section
/-! DEFINITION. The four resets (R23, R37, R38, R59, R60, R81, R97, R117, R135, R150, R168, R174, R176, R182). -/

namespace Sys2Proof.Machine

/-! ## The Management Port at every reset (R174) -/

/-- The Management Port at a reset: HUNT, everything waiting dropped, the line cut, every slot clear; the line counters
are kept only by a COMMAND-WARM reset (R169, R174). -/
def Port.reset (p : Port) (cause : ResetCause) : Port :=
  { rx := none, buffer := [], reply := none, slots := .clear, line := none, resetPending := none,
    counters := if cause = .commandWarm then p.counters else .zero, lastCause := cause }

/-- BOOT raised after the slots have been cleared: the line is free, so it begins at once (R172, R174, R176). -/
def Port.booted (p : Port) (cause : ResetCause) (n : BootNotice) : Port :=
  { p.reset cause with line := some (.notice .boot (.boot n) 0) }

/-! ## POWER, PIN and COMMAND-FULL (R176) -/

/-- The plan slot that start-up applies: the one the boot-slot mark names, when it is valid (R176). -/
def Store.bootSlot (st : Store) : Option Nat := st.bootMark.filter fun i => (st.plan.at i).valid

/-- The slot the boot-slot mark names when it is not valid (R176). -/
def Store.invalidBoot (st : Store) : Option Nat := st.bootMark.filter fun i => !(st.plan.at i).valid

/-- The start-up settings: the boot slot's, or the defaults (R176). -/
def Store.startSettings (st : Store) : Settings :=
  match st.bootSlot with
  | some i => (st.plan.at i).settings
  | none => Settings.default

/-- The frequency with which F, F_hold and S start (R176). -/
def Store.startFrequency (st : Store) : Int := if st.cal.valid then st.cal.frequency else 0

/-- The BOOT notice of a POWER, PIN or COMMAND-FULL reset: the store before the reset names the operation abandoned
(R176, R182). -/
def Store.bootNotice (st : Store) (cause : ResetCause) : BootNotice :=
  { cause := cause, applied := st.bootSlot, invalid := st.invalidBoot, role := st.startSettings.role,
    calValid := st.cal.valid, abandoned := st.op.map fun o => o.kind.name }

/-- A Tenant Unit at start-up: PENDING with the slot's record when a boot slot is applied, else OFF with the defaults; the
hold input keeps its level (R59, R97, R117; log entries 12 and 42). -/
def TenantUnit.startUp (u : TenantUnit) (r : TenantRecord) (applied : Bool) : TenantUnit :=
  .initial r (if applied then .pending else .off) u.hold

/-- A POWER, PIN or COMMAND-FULL reset: every block restarts with the start-up settings (R176). The commands waiting and
the index of the free bytes are the model's own and stay. -/
def fullReset (cause : ResetCause) (s : State) : State :=
  let v := s.store.startSettings
  { role := v.role, link := .initial, ladder := .initial v.link, planner := .initial v.shares,
    tenants := Quad.ofFn fun t => (s.tenant t).startUp (v.tenants.get t) s.store.bootSlot.isSome,
    timing := .initial v.timing s.store.startFrequency, test := .initial v.patterns,
    port := s.port.booted cause (s.store.bootNotice cause), store := s.store.abandoned, freeIndex := s.freeIndex,
    pending := s.pending }

/-- POWER_RESET (R176). -/
def execPowerReset (s : State) : Host.Outcome State Fault Refusal := .next (announce (fullReset .power s))

/-- PIN_RESET (R176). -/
def execPinReset (s : State) : Host.Outcome State Fault Refusal := .next (announce (fullReset .pin s))

/-! ## COMMAND-WARM -/

/-- The BOOT notice of a COMMAND-WARM reset (R176). -/
def State.warmNotice (s : State) : BootNotice :=
  { cause := .commandWarm, applied := none, invalid := none, role := s.role, calValid := s.store.cal.valid,
    abandoned := none }

/-- The Link Transmitter and Link Receiver at a COMMAND-WARM reset (R23). DEDUCED (log entry 32): what the last frame's
header carried stays, also where the tx profile becomes P0. DESIGN CHOICE (log entry 57): an absent frame that a frame start
has found (R13) and whose ABSENT_FRAME has not come is dropped uncounted; no rule says what becomes of it. -/
def LinkUnit.warm (l : LinkUnit) : LinkUnit := { l.down with txProfile := 0, startsSince := 0, absenceDue := false }

/-- The Profile Ladder at a COMMAND-WARM reset (R37). -/
def Ladder.warm (l : Ladder) : Ladder := { l.linkDown with forced := none }

/-- The Frame Planner at a COMMAND-WARM reset (R81). -/
def Planner.warm (p : Planner) : Planner := { p with pointers := Vector.replicate 8 .t0, last := none }

/-- A Tenant Unit at a COMMAND-WARM reset, a DRAINING tenant OFF (R59, R60, R97). -/
def TenantUnit.warm (u : TenantUnit) : TenantUnit :=
  { u.warmEgress with queue := [], paused := false, agedEarly := false,
                      state := if u.state = .draining then .off else u.state }

/-- The LINK source at a COMMAND-WARM reset (R135). DESIGN CHOICE (log entry 57): an expiry of its supervision that stands
due is part of this change to ABSENT. -/
def LinkSource.warm (l : LinkSource) : LinkSource := { l.toAbsent with since := 0, result := none }

/-- The timing blocks at a COMMAND-WARM reset, with the selection re-evaluated (R135, R150). -/
def Timing.warm (t : Timing) : Timing :=
  let x := t.xfer.abandonExchanges.abandonResponses
  ({ t with xfer := { x with countdown := 0, link := x.link.warm } } : Timing).reselect

/-- The LINK notice of the reset's entry to DOWN (R23). -/
def raiseLinkReset (before : LinkState) (s : State) : State := if before = .down then s else s.raiseLink before .reset

/-- The PROFILE notice of the reset (R38). -/
def raiseProfileReset (rp txProfile : Nat) (s : State) : State :=
  if 0 < rp ∨ 0 < txProfile then s.raiseProfile .reset else s

/-- The TENANT notice of a drain that the reset completes (R60). -/
def raiseTenantReset (before : Quad TenantUnit) (s : State) (t : Tenant) : State :=
  if (before.get t).state = .draining then s.raiseTenant t .draining .reset .plain else s

/-- A run in progress aborted by the reset (R165); its force is already gone, without a notice (R38). DESIGN CHOICE (log entry
57): so is a step whose phase is over and whose row has not come. -/
def abortByReset (s : State) : State := if s.test.runState = .running then abortRun .warmReset s else s

/-- Every block at a COMMAND-WARM reset, before the notices that follow BOOT. -/
def warmBlocks (s : State) : State :=
  { s with link := s.link.warm, ladder := s.ladder.warm, planner := s.planner.warm,
           tenants := s.tenants.map TenantUnit.warm, timing := s.timing.warm,
           port := s.port.booted .commandWarm s.warmNotice }

/-- A COMMAND-WARM reset: settings, role, time, acceptance and the store operation in flight are kept; the notices of the
blocks follow the BOOT notice (R23, R38, R59, R60, R97, R135, R150, R165, R168, R173, R174). -/
def warmReset (s : State) : State :=
  let s1 := raiseProfileReset s.ladder.rp s.link.txProfile (raiseLinkReset s.link.state (warmBlocks s))
  let s2 := Tenant.all.foldl (raiseTenantReset s.tenants) (s1.raiseTiming s.timing
    (timingCauses s.timing s1.timing false))
  let s3 := abortByReset s2
  s3.withTest { s3.test with check := none, report := none }

/-! ## The resets by command (R174) -/

/-- The reset of a RESET option: COMMAND-FULL has the same effects as PIN. -/
def commandReset : ResetOption → State → State
  | .full => fullReset .commandFull
  | .warm => warmReset

/-- The last byte of the reply to a RESET of an option leaves the line, and the reset takes place; where no such reply is
on the line, no command reset takes place (R174; log entry 10). -/
def commandResetOf (o : ResetOption) (s : State) : State := if s.port.resetDue = some o then commandReset o s else s

/-- COMMAND_FULL_RESET (R174). -/
def execCommandFullReset (s : State) : Host.Outcome State Fault Refusal := .next (announce (commandResetOf .full s))

/-- COMMAND_WARM_RESET (R174). -/
def execCommandWarmReset (s : State) : Host.Outcome State Fault Refusal := .next (announce (commandResetOf .warm s))

/-- The frame on the outgoing line ends: the reply to a RESET brings the reset, and any other frame frees the line for the
next choice (R172, R174). -/
def outgoingEnds (s : State) : State :=
  match s.port.resetDue with
  | some o => commandReset o s
  | none => lineEnds s

/-- OUTGOING_FRAME_END (R172). -/
def execOutgoingFrameEnd (s : State) : Host.Outcome State Fault Refusal := .next (announce (outgoingEnds s))

end Sys2Proof.Machine
end

