-- ==== Sys2Proof/Machine/Dispatch.lean ====
section
/-! DEFINITION. The meaning of every command, one direct call for each constructor of `Instr`. -/

namespace Sys2Proof.Machine

def exec (i : Instr) (s : State) : Host.Outcome State Fault Refusal :=
  match i with
  | .powerReset => Sys2Proof.Machine.execPowerReset s
  | .pinReset => Sys2Proof.Machine.execPinReset s
  | .commandFullReset => Sys2Proof.Machine.execCommandFullReset s
  | .commandWarmReset => Sys2Proof.Machine.execCommandWarmReset s
  | .frameStart => Sys2Proof.Machine.execFrameStart s
  | .receivedFrameRecord r => Sys2Proof.Machine.execReceivedFrameRecord r s
  | .receiveMarkerCapture elapsed => Sys2Proof.Machine.execReceiveMarkerCapture elapsed s
  | .absentFrame => Sys2Proof.Machine.execAbsentFrame s
  | .tenantPacketArrival t bad bytes => Sys2Proof.Machine.execTenantPacketArrival t bad bytes s
  | .holdInput t asserted => Sys2Proof.Machine.execHoldInput t asserted s
  | .deliveryEnd t => Sys2Proof.Machine.execDeliveryEnd t s
  | .secondBoundary => Sys2Proof.Machine.execSecondBoundary s
  | .pulse input elapsed => Sys2Proof.Machine.execPulse input elapsed s
  | .absenceExpiry input => Sys2Proof.Machine.execAbsenceExpiry input s
  | .staleRemoval t => Sys2Proof.Machine.execStaleRemoval t s
  | .syncDue => Sys2Proof.Machine.execSyncDue s
  | .exchangeTimeout => Sys2Proof.Machine.execExchangeTimeout s
  | .linkSupervisionExpiry => Sys2Proof.Machine.execLinkSupervisionExpiry s
  | .holdoverLimit => Sys2Proof.Machine.execHoldoverLimit s
  | .holdoverAging => Sys2Proof.Machine.execHoldoverAging s
  | .leadEnd => Sys2Proof.Machine.execLeadEnd s
  | .activeEnd => Sys2Proof.Machine.execActiveEnd s
  | .tailEnd => Sys2Proof.Machine.execTailEnd s
  | .reportWaitExpiry => Sys2Proof.Machine.execReportWaitExpiry s
  | .waitTimeout => Sys2Proof.Machine.execWaitTimeout s
  | .timingCrossTimeout => Sys2Proof.Machine.execTimingCrossTimeout s
  | .managementFrame bytes => Sys2Proof.Machine.execManagementFrame bytes s
  | .gapExpiry => Sys2Proof.Machine.execGapExpiry s
  | .outgoingFrameEnd => Sys2Proof.Machine.execOutgoingFrameEnd s
  | .erasingEnd => Sys2Proof.Machine.execErasingEnd s
  | .storeOperationEnd => Sys2Proof.Machine.execStoreOperationEnd s
  | .unknownKind tag kind => Sys2Proof.Machine.execUnknownKind tag kind s
  | .getId tag => Sys2Proof.Machine.execGetId tag s
  | .setRole tag role => Sys2Proof.Machine.execSetRole tag role s
  | .resetFull tag => Sys2Proof.Machine.execResetFull tag s
  | .resetWarm tag => Sys2Proof.Machine.execResetWarm tag s
  | .getStatusLink tag => Sys2Proof.Machine.execGetStatusLink tag s
  | .getStatusTiming tag => Sys2Proof.Machine.execGetStatusTiming tag s
  | .getStatusTenant tag index => Sys2Proof.Machine.execGetStatusTenant tag index s
  | .getStatusTest tag => Sys2Proof.Machine.execGetStatusTest tag s
  | .getStatusStore tag => Sys2Proof.Machine.execGetStatusStore tag s
  | .setLink tag r => Sys2Proof.Machine.execSetLink tag r s
  | .setTenant tag index r => Sys2Proof.Machine.execSetTenant tag index r s
  | .tenantActivate tag index => Sys2Proof.Machine.execTenantActivate tag index s
  | .tenantDrain tag index => Sys2Proof.Machine.execTenantDrain tag index s
  | .tenantOff tag index => Sys2Proof.Machine.execTenantOff tag index s
  | .setShares tag table => Sys2Proof.Machine.execSetShares tag table s
  | .getCounters tag index clear => Sys2Proof.Machine.execGetCounters tag index clear s
  | .setTiming tag r => Sys2Proof.Machine.execSetTiming tag r s
  | .timeSet tag sec => Sys2Proof.Machine.execTimeSet tag sec s
  | .timingRestart tag => Sys2Proof.Machine.execTimingRestart tag s
  | .setPattern tag index p => Sys2Proof.Machine.execSetPattern tag index p s
  | .setStep tag index arg => Sys2Proof.Machine.execSetStep tag index arg s
  | .testStart tag count acceptance => Sys2Proof.Machine.execTestStart tag count acceptance s
  | .testAbort tag => Sys2Proof.Machine.execTestAbort tag s
  | .getResults tag => Sys2Proof.Machine.execGetResults tag s
  | .acceptWaive tag => Sys2Proof.Machine.execAcceptWaive tag s
  | .storeSave tag slot => Sys2Proof.Machine.execStoreSave tag slot s
  | .storeLoad tag slot => Sys2Proof.Machine.execStoreLoad tag slot s
  | .storeErase tag slot => Sys2Proof.Machine.execStoreErase tag slot s
  | .storeBoot tag slot => Sys2Proof.Machine.execStoreBoot tag slot s
  | .storeCal tag aging => Sys2Proof.Machine.execStoreCal tag aging s
  | .strayByte b => Sys2Proof.Machine.execStrayByte b s

end Sys2Proof.Machine
end

