-- ==== Sys2Proof/Safety.lean ====
section
/-! DEFINITION. The words of the statements: the invariants of the part, the requests a command carries, and the states in
which a request is taken at once. -/

namespace Sys2Proof

/-- The tag and the request of a command that is a request frame of a listed kind. -/
def Instr.request? : Instr → Option (Byte × Request)
  | .getId tag => some (tag, .getId)
  | .setRole tag r => some (tag, .setRole r)
  | .resetFull tag => some (tag, .reset (some .full))
  | .resetWarm tag => some (tag, .reset (some .warm))
  | .getStatusLink tag => some (tag, .getStatus (some .link))
  | .getStatusTiming tag => some (tag, .getStatus (some .timing))
  | .getStatusTenant tag i => some (tag, .getStatus (some (.tenant i)))
  | .getStatusTest tag => some (tag, .getStatus (some .test))
  | .getStatusStore tag => some (tag, .getStatus (some .store))
  | .setLink tag r => some (tag, .setLink r)
  | .setTenant tag i r => some (tag, .setTenant i r)
  | .tenantActivate tag i => some (tag, .tenantActivate i)
  | .tenantDrain tag i => some (tag, .tenantDrain i)
  | .tenantOff tag i => some (tag, .tenantOff i)
  | .setShares tag t => some (tag, .setShares t)
  | .getCounters tag i c => some (tag, .getCounters i c)
  | .setTiming tag r => some (tag, .setTiming r)
  | .timeSet tag x => some (tag, .timeSet x)
  | .timingRestart tag => some (tag, .timingRestart)
  | .setPattern tag i p => some (tag, .setPattern i p)
  | .setStep tag i a => some (tag, .setStep i a)
  | .testStart tag n f => some (tag, .testStart n f)
  | .testAbort tag => some (tag, .testAbort)
  | .getResults tag => some (tag, .getResults)
  | .acceptWaive tag => some (tag, .acceptWaive)
  | .storeSave tag i => some (tag, .storeSave i)
  | .storeLoad tag i => some (tag, .storeLoad i)
  | .storeErase tag i => some (tag, .storeErase i)
  | .storeBoot tag i => some (tag, .storeBoot i)
  | .storeCal tag a => some (tag, .storeCal a)
  | .powerReset => none
  | .pinReset => none
  | .commandFullReset => none
  | .commandWarmReset => none
  | .frameStart => none
  | .receivedFrameRecord _ => none
  | .receiveMarkerCapture _ => none
  | .absentFrame => none
  | .tenantPacketArrival _ _ _ => none
  | .holdInput _ _ => none
  | .deliveryEnd _ => none
  | .secondBoundary => none
  | .pulse _ _ => none
  | .absenceExpiry _ => none
  | .staleRemoval _ => none
  | .syncDue => none
  | .exchangeTimeout => none
  | .linkSupervisionExpiry => none
  | .holdoverLimit => none
  | .holdoverAging => none
  | .leadEnd => none
  | .activeEnd => none
  | .tailEnd => none
  | .reportWaitExpiry => none
  | .waitTimeout => none
  | .timingCrossTimeout => none
  | .managementFrame _ => none
  | .gapExpiry => none
  | .outgoingFrameEnd => none
  | .erasingEnd => none
  | .storeOperationEnd => none
  | .unknownKind _ _ => none
  | .strayByte _ => none

/-- A tenant record as the part can hold one: the ranges of R39. -/
def TenantRecord.inRange (r : TenantRecord) : Bool :=
  r.ok && r.ingressHalt ≤ 1024 && r.ingressResume < r.ingressHalt && r.egressHalt ≤ 1024 && r.egressResume < r.egressHalt

/-- The fields of a step lie within the ranges of R153, a T of at most 64 among them. -/
def StepBody.inRange (b : StepBody) : Prop := b.ok = true ∧ b.limited = b

/-- A header whose fields lie in the ranges of R8 and that passes the consistency test of R12. -/
def Machine.Header.wf (h : Machine.Header) : Bool :=
  h.txProfile ≤ 7 && h.requested ≤ 7 && Machine.controlsConsistent h.controls && h.testBlocks ≤ 64 &&
    1 + h.controls.length + h.testBlocks + h.tenantBlocks.sum ≤ Config.blocksOf h.txProfile

end Sys2Proof

namespace Sys2Proof.Machine

/-! ## Requests -/

/-- No request waits and no reply waits: the next complete request frame is taken at once (R170). -/
def State.requestFree (s : State) : Prop :=
  s.port.reply = none ∧ s.port.resetPending = none ∧ s.port.buffer = []

/-- A state with a reply given: it begins on a free line and waits for a busy one (R170, R172); a reply that stood in
waiting is no more. -/
def State.replied (s : State) (kind : Nat) (tag : Byte) (st : Status) (body : ReplyBody) : State :=
  let r : Reply := { kind := BitVec.ofNat 8 kind, tag := tag, status := st, body := body }
  match s.port.line with
  | none => s.withPort { s.port with line := some (.reply r), reply := none }
  | some _ => s.withPort { s.port with reply := some r }

/-- The results record of a step that ends (R155, R166). -/
def Working.record (w : Working) (v : Verdict) (r : EndReason) : ResultRecord :=
  { index := w.index, kind := w.step.body.kind, mandatory := w.step.mandatory, verdict := v, reason := r,
    counts := w.counts }

/-- From one state to another the current step ended with an outcome and a reason: its record is logged next, and where
a mandatory step did not pass the run is over, an acceptance run with acceptance FAILED (R155). -/
def stepEnded (w : Working) (v : Verdict) (r : EndReason) (s t : State) : Prop :=
  (∃ later, t.test.results = s.test.results ++ w.record v r :: later) ∧
  (w.step.mandatory = true → v ≠ .pass →
    t.test.runState = .done ∧ t.test.work = none ∧ (s.test.flag = true → t.test.acceptance = .failed))

/-- A TENANT_PATH step in ACTIVE is offering a tenant's queue its test packets (R158). -/
def State.injectsAt (s : State) (x : Tenant) : Prop :=
  s.test.runState = .running ∧ ∃ w pattern packets length errorLimit missLimit, s.test.work = some w ∧
    w.phase = .active ∧ w.step.body = .tenantPath x pattern packets length errorLimit missLimit

/-- R50, R158: on one occasion the queue of a tenant took the next n test packets of a TENANT_PATH step, one behind another:
as many as the injection pause, the packets left to make and the room of the queue allow; each one taken is a change of
occupancy for the port's pause output (R51). -/
def injected (frame : BitVec 32) (run : BitVec 16) (packets length : Nat) (u v : TenantUnit) (a b : Working) (n : Nat) :
    Prop :=
  let size := blocksFor length
  let load := occupancy u.queue
  let halt := u.record.ingressHalt
  let pause := if halt ≤ load then true else if load ≤ u.record.ingressResume then false else a.injectPause
  let clear := if load + size < halt ∧ load + size ≤ u.record.ingressResume then false else u.paused
  let taken (k : Nat) := (u.state = .pending ∨ u.state = .active) ∧ load + k * size + size ≤ 1024 ∧ u.queue.length + k < 256
  b = { a with made := a.made + n, injectPause := pause || decide (halt ≤ load + n * size) } ∧
  v.queue = u.queue ++ (List.range n).map (fun k =>
    { seq := u.nextSeq + BitVec.ofNat 16 k, length := length, total := size, sent := 0, arrival := frame,
      origin := .test, run := some run, step := some a.index, data := testPacketBytes run a.index a.pattern length }) ∧
  v.nextSeq = u.nextSeq + BitVec.ofNat 16 n ∧ v.record = u.record ∧
  (n = 0 → v.paused = u.paused ∧ v.ingress.pauses = u.ingress.pauses) ∧
  (0 < n → v.paused = (decide (halt ≤ load + n * size) || clear) ∧
    v.ingress.pauses = if halt ≤ load + n * size ∧ clear = false then bump u.ingress.pauses else u.ingress.pauses) ∧
  v.ingress.testTaken = (if n = 0 then u.ingress.testTaken else addCount u.ingress.testTaken n) ∧
  (∀ k, k < n → pause = false ∧ load + k * size < halt ∧ a.made + k < packets ∧ taken k) ∧
  (b.injectPause = true ∨ packets ≤ a.made + n ∨ ¬ taken n)

/-- R156, R158, R160, R161: the outcome and the reason with which a step ends at once where its start conditions say so. -/
def startRefused (e : Step) (s : State) : Option (Verdict × EndReason) :=
  match e.body with
  | .linkPattern .. => if s.link.state = .up then none else some (.fail, .linkNotUp)
  | .tenantPath x .. =>
    if s.link.state ≠ .up then some (.fail, .linkNotUp)
    else if (s.tenant x).state = .pending ∨ (s.tenant x).state = .active then none else some (.fail, .tenantState)
  | .timingCross .. =>
    if s.role ≠ some .trailer then some (.fail, .role)
    else if s.timing.sourceState .gnss = .qualified ∧ s.timing.sourceState .link = .qualified then none
    else some (.fail, .sourceNotQualified)
  | .wait cond _ => if s.holds cond then some (.pass, .none) else none

/-- From one state to another a step that is not refused started: its pattern entry copied and its counts at 0, in LEAD or
ACTIVE with its profile forced, in ACTIVE with its first packets in the queue, or in WAITING with its deadline (R155, R156,
R158, R160, R161). -/
def stepBegun (i : Nat) (e : Step) (s t : State) : Prop :=
  t.test.runState = .running ∧
  match e.body with
  | .linkPattern profile k _ _ lead active .. =>
    t.test.work = some { Working.fresh i e (s.test.patterns.at k) with
      phase := if lead = 0 then .active else .lead, remaining := if lead = 0 then active else lead } ∧
    t.tenants = s.tenants ∧
    t.ladder = { s.ladder with forced := if profile.isSome = true then profile else s.ladder.forced }
  | .tenantPath x k packets length .. =>
    t.ladder = s.ladder ∧ (∀ y, y ≠ x → t.tenant y = s.tenant y) ∧
    ∃ w n, t.test.work = some w ∧ injected s.link.frameCounter t.test.runId packets length (s.tenant x) (t.tenant x)
      { Working.fresh i e (s.test.patterns.at k) with phase := .active } w n ∧
      t.tenant x = { s.tenant x with
        queue := (t.tenant x).queue, nextSeq := (t.tenant x).nextSeq, paused := (t.tenant x).paused,
        ingress := { (s.tenant x).ingress with
          testTaken := (t.tenant x).ingress.testTaken, pauses := (t.tenant x).ingress.pauses } }
  | .timingCross samples _ =>
    t.tenants = s.tenants ∧ t.ladder = s.ladder ∧
    ∃ p, t.test.work = some { Working.fresh i e p with deadline := 2 * samples }
  | .wait _ timeout =>
    t.tenants = s.tenants ∧ t.ladder = s.ladder ∧ ∃ p, t.test.work = some { Working.fresh i e p with deadline := timeout }

/-- From one state of the timing blocks to another the Servo acted on a measurement m of a source, for LINK with the whole
seconds W: an offset step or a full set in ACQUIRING without the ever-locked mark, else the stages of R138 to R140. -/
def measured (src : Source) (m w : Int) (a b : Timing) : Prop :=
  let v := a.servo
  let c := v.counters
  let rec' := a.base.record
  let kp := if src = .link then rec'.linkKp else rec'.pulseKp
  let ki := if src = .link then rec'.linkKi else rec'.pulseKi
  let e := clampTo 131068 m
  let step := v.state = .acquiring ∧ v.everLocked = false ∧ (rec'.stepThreshold < m.natAbs ∨ (src = .link ∧ w ≠ 0))
  let moved : Int := a.base.now.half + 2 * m
  let f := clampTo 2000000 (v.f + rndDiv (e * ki) 256)
  let inside := e.natAbs ≤ rec'.lockWindow
  b.servo.lastE = some (e, src) ∧ b.servo.counters.acted = bump c.acted ∧ b.servo.selected = some src ∧
  b.base.advance = a.base.advance ∧
  (step →
    b.base.now = { sec := a.base.now.sec + BitVec.ofInt 48 (moved / 2000000000 + (if src = .link then -w else 0)),
                   half := (moved % 2000000000).toNat } ∧
    b.servo.f = v.f ∧ b.servo.fHold = v.fHold ∧ b.base.steer = a.base.steer ∧ b.xfer.exchanges = [] ∧
    b.servo.state = .acquiring ∧ b.servo.lock = 0 ∧ b.servo.unlock = 0 ∧ b.servo.everLocked = false ∧
    (src ≠ .link → b.base.pendingSet = a.base.pendingSet ∧ b.servo.counters.steps = bump c.steps) ∧
    (src = .link → b.base.pendingSet = none ∧ b.servo.counters.fullSets = bump c.fullSets)) ∧
  (¬ step →
    b.base.now = a.base.now ∧ b.base.pendingSet = a.base.pendingSet ∧ b.xfer.exchanges = a.xfer.exchanges ∧
    b.servo.counters.steps = c.steps ∧ b.servo.counters.fullSets = c.fullSets ∧
    b.servo.f = f ∧ b.base.steer = clampTo 2000000 (f + rndDiv (e * kp) 256) ∧
    b.servo.fHold = (if v.state = .locked then v.fHold + rndDiv (f - v.fHold) 16 else v.fHold) ∧
    (v.state = .acquiring → ¬ inside → b.servo.state = .acquiring ∧ b.servo.lock = 0) ∧
    (v.state = .acquiring → inside → v.lock + 1 < 16 → b.servo.state = .acquiring ∧ b.servo.lock = v.lock + 1) ∧
    (v.state = .acquiring → inside → 16 ≤ v.lock + 1 → b.servo.state = .locked ∧ b.servo.lock = 0 ∧
      b.servo.unlock = 0 ∧ b.servo.everLocked = true ∧ b.servo.lockedTime = 0 ∧
      b.servo.counters.lockEntries = bump c.lockEntries) ∧
    (v.state = .locked → inside → b.servo.state = .locked ∧ b.servo.unlock = 0 ∧ b.servo.lockedTime = v.lockedTime) ∧
    (v.state = .locked → ¬ inside → v.unlock + 1 < 4 → b.servo.state = .locked ∧ b.servo.unlock = v.unlock + 1 ∧
      b.servo.lockedTime = v.lockedTime) ∧
    (v.state = .locked → ¬ inside → 4 ≤ v.unlock + 1 → b.servo.state = .acquiring ∧ b.servo.unlock = 0 ∧
      b.servo.lock = 0 ∧ b.servo.lockedTime = 0 ∧ b.servo.counters.unlockEvents = bump c.unlockEvents))

/-- Two states agree on every block but the timing blocks, and, where no step in WAITING is to end in the second (R160,
R161), on the Test Controller and what a step that ends may change. -/
def sameTraffic (s t : State) : Prop :=
  t.role = s.role ∧ t.link = s.link ∧ t.planner = s.planner ∧ t.store = s.store ∧ t.pending = s.pending ∧
  ((s.test.runState ≠ .running ∨ ∀ w, s.test.work = some w →
      (∀ cond limit, w.step.body = .wait cond limit → t.holds cond = false) ∧
      (∀ samples limit, w.step.body = .timingCross samples limit → t.crossReady = true)) →
    t.test = s.test ∧ t.tenants = s.tenants ∧ t.ladder = s.ladder)

/-! ## The invariants -/

/-- R43, R167: a tenant in service means acceptance PASSED or WAIVED, and during a run with the acceptance flag no tenant
is in service. -/
def State.acceptanceInv (s : State) : Prop :=
  ((∃ t, (s.tenant t).state.inService = true) → s.test.acceptance.good = true) ∧
  (s.test.runState = .running → s.test.flag = true → ∀ t, (s.tenant t).state.inService = false)

/-- A value within ±2,000,000 ppt. -/
def inSteer (x : Int) : Prop := -2000000 ≤ x ∧ x ≤ 2000000

/-- What a store operation in flight would write as a frequency lies within ±2,000,000 ppt. -/
def StoreOpKind.steerOk : StoreOpKind → Prop
  | .cal f _ => inSteer f
  | .save _ _ => True
  | .erase _ => True
  | .boot _ => True

/-- R100, R138, R177: F, F_hold and S lie within ±2,000,000 ppt, and so do the stored frequency and the one being
written. -/
def State.steerInv (s : State) : Prop :=
  inSteer s.timing.servo.f ∧ inSteer s.timing.servo.fHold ∧ inSteer s.timing.base.steer ∧ inSteer s.store.cal.frequency ∧
  ∀ o, s.store.op = some o → o.kind.steerOk

/-- R112, R113, R141, R146: the selected source is the one of R112; it is present exactly in ACQUIRING and LOCKED; the
class is the one of R146, but for a holdover limit just reached whose event has not been taken. -/
def State.timingInv (s : State) : Prop :=
  s.timing.servo.selected = s.timing.selection ∧
  (s.timing.servo.selected.isSome = true ↔ s.timing.servo.state = .acquiring ∨ s.timing.servo.state = .locked) ∧
  (s.timing.limitReached = true ∨
    s.timing.servo.cls = judgedClass s.timing.servo s.timing.xfer.link.hubClass s.timing.base.record.holdoverLimit)

/-- R122, R129: both lists hold at most 4 entries with sequences all different; the exchange table and the LINK source
are a TRAILER's, the response list a HUB's. -/
def State.transferInv (s : State) : Prop :=
  s.timing.xfer.exchanges.length ≤ 4 ∧ (s.timing.xfer.exchanges.map Exchange.seq).Nodup ∧
  s.timing.xfer.responses.length ≤ 4 ∧ (s.timing.xfer.responses.map Response.seq).Nodup ∧
  (s.role ≠ some .trailer → s.timing.xfer.exchanges = [] ∧ s.timing.xfer.link.state = .absent) ∧
  (s.role ≠ some .hub → s.timing.xfer.responses = [])

/-- An entry of an ingress queue as R49 and R54 leave one: its total is that of its data, and it is not all sent. -/
def Entry.sound (e : Entry) : Prop := e.length = e.data.length ∧ e.total = blocksFor e.length ∧ e.sent < e.total

/-- R50, R54, R89: a queue and an egress buffer hold at most 1,024 blocks in at most 256 entries; every entry is sound and
only the head can be started; the queue of an OFF tenant is empty, and that of a PENDING tenant holds TEST entries. -/
def TenantUnit.queueInv (u : TenantUnit) : Prop :=
  occupancy u.queue ≤ 1024 ∧ u.queue.length ≤ 256 ∧ (∀ e ∈ u.queue, e.sound) ∧ (∀ e ∈ u.queue.tail, e.sent = 0) ∧
  (u.state = .off → u.queue = []) ∧ (u.state = .pending → ∀ e ∈ u.queue, e.origin = .test) ∧
  egressOccupancy u.egress ≤ 1024 ∧ u.egress.length ≤ 256

/-- R153: every step of the step table, and the current one, lies within its ranges. -/
def TestUnit.stepsInv (t : TestUnit) : Prop :=
  (∀ i e, t.steps.toList.getD i none = some e → e.body.inRange) ∧ ∀ w, t.work = some w → w.step.body.inRange

/-- See `TenantUnit.queueInv`; a test packet has the length that its step names (R153, R158). -/
def State.queueInv (s : State) : Prop := (∀ t, (s.tenant t).queueInv) ∧ s.test.stepsInv

/-- R56: every ingress counter stops at 4,294,967,295. -/
def IngressCounters.inRange (c : IngressCounters) : Prop :=
  c.packets ≤ countMax ∧ c.blocks ≤ countMax ∧ c.bad ≤ countMax ∧ c.lengthErrors ≤ countMax ∧ c.refused ≤ countMax ∧
  c.overrun ≤ countMax ∧ c.testTaken ≤ countMax ∧ c.staleRemovals ≤ countMax ∧ c.testAged ≤ countMax ∧
  c.flushed ≤ countMax ∧ c.packetsSent ≤ countMax ∧ c.blocksSent ≤ countMax ∧ c.pauses ≤ countMax

/-- See `IngressCounters.inRange`. -/
def State.ingressInv (s : State) : Prop := ∀ t, (s.tenant t).ingress.inRange

/-- Settings as the part can hold them: every record within its ranges (R24, R39, R76, R77, R110, R151). -/
def Settings.inRange (v : Settings) : Prop :=
  v.link.ok = true ∧ (∀ t, (v.tenants.get t).inRange = true) ∧ ShareTable.ok v.shares = true ∧ v.timing.ok = true ∧
  ∀ t, (v.patterns.get t).inRange = true

/-- What a store operation in flight would write lies within the ranges. -/
def StoreOpKind.settingsOk : StoreOpKind → Prop
  | .save _ v => v.inRange
  | .erase _ => True
  | .boot _ => True
  | .cal _ _ => True

/-- R24, R39, R76, R77, R110, R151: every record in force lies within its ranges, and so does every stored one. -/
def State.recordsInv (s : State) : Prop :=
  s.settings.inRange ∧ (∀ t, (s.store.plan.get t).settings.inRange) ∧ ∀ o, s.store.op = some o → o.kind.settingsOk

/-- R27 to R29: R_p lies between P0 and P7, the dwell count below the up-dwell, and a held sample below the threshold of
R_p. -/
def State.ladderInv (s : State) : Prop :=
  s.ladder.rp ≤ 7 ∧ s.ladder.dwell < s.ladder.record.upDwell ∧
  ∀ h, s.ladder.confirm = some h → h < s.ladder.record.threshold s.ladder.rp

/-- R12, R15 to R17: the counts and the stored fields of each link state; without a role the link is DOWN. -/
def State.linkInv (s : State) : Prop :=
  (s.role = none → s.link.state = .down) ∧
  (s.link.state = .down → s.link.good = 0 ∧ s.link.lost = 0 ∧ s.link.rxXoff = Quad.const false ∧ s.link.farReq = 0 ∧
    s.link.farForce = false ∧ s.link.farEnd = none) ∧
  (s.link.state = .acquire → 1 ≤ s.link.good ∧ s.link.good ≤ 15 ∧ s.link.lost = 0 ∧ s.link.farEnd = none) ∧
  (s.link.state = .up → s.link.lost ≤ 63)

/-- R170, R172 to R174: the receive buffer holds at most two frames, and none when one could be taken; a line is free only
when no reply waits, no RESET is under way and no notice slot is pending. -/
def State.portInv (s : State) : Prop :=
  s.port.buffer.length ≤ 2 ∧
  (s.port.reply = none → s.port.resetPending = none → s.port.buffer = []) ∧
  (s.port.line = none → s.port.reply = none ∧ s.port.resetPending = none ∧ s.port.slots.highest = none)

/-- R3, R98: the nanoseconds field stays within the second, and the boundaries noted as reached are boundaries. -/
def State.timeInv (s : State) : Prop :=
  s.timing.base.now.half < 2000000000 ∧
  (s.timing.base.frameHere = true → s.timing.base.now.half % 250000 = 0) ∧
  (s.timing.base.secondHere = true → s.timing.base.now.half = 0)

/-- R155, R166: a run in progress has a current step among its n steps, none of which is empty, and a record for each step
before it; no other run state has a current step; a forced profile is present only in a run. -/
def State.runInv (s : State) : Prop :=
  s.test.results.length ≤ 16 ∧
  (s.test.runState = .running →
    s.test.count ≤ 16 ∧ (∀ i, i < s.test.count → (s.test.steps.toList.getD i none).isSome = true) ∧
    ∃ w, s.test.work = some w ∧ w.index < s.test.count ∧ s.test.results.map ResultRecord.index = List.range w.index ∧
      (s.ladder.forced.isSome = true → w.step.body.forces.isSome = true)) ∧
  (s.test.runState ≠ .running → s.test.work = none ∧ s.ladder.forced = none)

end Sys2Proof.Machine
end

