-- ==== Sys2Proof/Certificates/Slice0/Obligations.lean ====
section
/-! DEFINITION. The statements of this row: what each command of the TS46 does, and what every step keeps. -/

open Sys2Proof Sys2Proof.Machine

/-- A step executes the oldest waiting command, and idles when none waits. After 95_what_each_step_holds.md, log entry
2. That an empty queue idles is the model's choice. -/
def Obligations.StepTakesOldestCommand : Prop :=
  ∀ (c : Instr) (s : State),
    step (s.withPending (c :: s.pending)) = exec c s ∧ (s.pending = [] → step s = .next s)

/-- POWER, PIN and COMMAND-FULL without a valid boot slot start every block from the defaults. After 01 R23, 02 R37,
03 R59, 04 R81, 05 R97, 06 R117, 07 R135, 08 R150, 09 R168, 10.4, 10.5. The reset tables give no value for these,
which are the model's choices: the last frame handed over none and the last header's fields at P0, clear and empty
(log entry 32), the watch for missing records from 0 (log entry 4), no capture waiting for its record (log entry 9),
the step count 0 and the acceptance flag clear of the run record (log entry 39), no timing output shown (log entry
38), a hold input at the level of its pin (log entry 12) and released as last sampled (log entry 42). When the
COMMAND-FULL row acts is log entry 10. -/
def Obligations.FullResetWithoutBootSlot : Prop :=
  ∀ (s : State) (c : Instr) (cause : ResetCause),
    (c, cause) ∈ [(Instr.powerReset, ResetCause.power), (.pinReset, .pin), (.commandFullReset, .commandFull)] →
    (c = .commandFullReset → s.port.resetPending = some .full ∧ s.port.reply = none) →
    (∀ i, s.store.bootMark = some i → (s.store.plan.at i).valid = false) →
    ∃ t : State, exec c s = .next t ∧
      t.role = none ∧ t.link = LinkUnit.initial ∧ t.ladder = Ladder.initial Config.defaultLink ∧
      t.planner = Planner.initial Config.defaultShares ∧
      (t.link.state = .down ∧ t.link.good = 0 ∧ t.link.lost = 0 ∧ t.link.txProfile = 0 ∧ t.link.txSeq = 0 ∧
        t.link.frameCounter = 0 ∧ t.link.rxXoff = Quad.const false ∧ t.link.farReq = 0 ∧ t.link.farForce = false ∧
        t.link.farEnd = none ∧ t.link.startsSince = 0 ∧ t.link.absenceDue = false ∧ t.link.reqSent = 0 ∧
        t.link.forceSent = false ∧ t.link.xoffSent = Quad.const false ∧
        t.link.lastSeq = none ∧ t.link.frame = none ∧ t.link.counters = LinkUnit.initial.counters) ∧
      (t.ladder.record = Config.defaultLink ∧ t.ladder.rp = 0 ∧ t.ladder.dwell = 0 ∧ t.ladder.confirm = none ∧
        t.ladder.forced = none ∧ t.ladder.lastSample = none ∧
        t.ladder.counters = { downSteps := 0, upSteps := 0, capped := 0, belowRequested := 0 }) ∧
      (t.planner.shares = Config.defaultShares ∧ t.planner.pointers = Vector.replicate 8 .t0 ∧ t.planner.last = none ∧
        t.planner.counters = { planned := 0, plannedUp := 0, reserveLimited := 0, spareShort := 0, idleBlocks := 0,
                               committed := Quad.const 0, spare := Quad.const 0, xoffHeld := Quad.const 0 }) ∧
      (∀ x, t.tenant x = TenantUnit.initial Config.defaultTenant .off (s.tenant x).hold) ∧
      t.timing = Timing.initial Config.defaultTiming (if s.store.cal.valid then s.store.cal.frequency else 0) ∧
      t.test = TestUnit.initial (Quad.const Config.clearedPattern) ∧
      t.store = { s.store with op := none } ∧
      t.port = { rx := none, buffer := [], reply := none, slots := NoticeSlots.clear, resetPending := none,
                 counters := LineCounters.zero, lastCause := cause,
                 line := some (.notice .boot (.boot
                   { cause := cause, applied := none, invalid := s.store.bootMark, role := none,
                     calValid := s.store.cal.valid, abandoned := s.store.op.map fun o => o.kind.name }) 0) }

/-- POWER, PIN and COMMAND-FULL apply a valid boot slot whole. After 10.4 R176, 03 R59, 01 R23, 05 R97, 06 R117, 08
R150, 09 R168, 10.5 R182. The level at a hold input is not stated. When the COMMAND-FULL row acts is log entry 10. -/
def Obligations.FullResetAppliesBootSlot : Prop :=
  ∀ (s : State) (c : Instr) (cause : ResetCause) (i : Nat),
    (c, cause) ∈ [(Instr.powerReset, ResetCause.power), (.pinReset, .pin), (.commandFullReset, .commandFull)] →
    (c = .commandFullReset → s.port.resetPending = some .full ∧ s.port.reply = none) →
    s.store.bootMark = some i → (s.store.plan.at i).valid = true →
    ∃ t : State, exec c s = .next t ∧
      t.role = (s.store.plan.at i).settings.role ∧ t.link.state = .down ∧ t.link.frameCounter = 0 ∧
      t.ladder.record = (s.store.plan.at i).settings.link ∧ t.planner.shares = (s.store.plan.at i).settings.shares ∧
      t.timing.base.record = (s.store.plan.at i).settings.timing ∧
      t.test.patterns = (s.store.plan.at i).settings.patterns ∧ t.test.acceptance = .none ∧ t.test.runState = .idle ∧
      (∀ x, (t.tenant x).state = .pending ∧ (t.tenant x).record = (s.store.plan.at i).settings.tenants.get x ∧
        (t.tenant x).queue = [] ∧ (t.tenant x).egress = [] ∧ (t.tenant x).squelched = true) ∧
      t.timing.servo.state = .freerun ∧ t.timing.servo.cls = .c5 ∧ t.store = { s.store with op := none } ∧
      t.port.line = some (.notice .boot (.boot
        { cause := cause, applied := some i, invalid := none, role := (s.store.plan.at i).settings.role,
          calValid := s.store.cal.valid, abandoned := s.store.op.map fun o => o.kind.name }) 0)

/-- COMMAND-WARM takes the link DOWN, empties the queues and keeps settings, role and time. After 01 R23, 02 R37, 03
R59, R60, 04 R81, 05 R97, 06 R117, 07 R135, 08 R150, 09 R168, 10.4 R174, R176. That the captures waiting for their
records are kept is the model's choice (log entry 9), and so is what becomes of an event that stands due (log entry
57). When the COMMAND-WARM row acts is log entry 10. -/
def Obligations.WarmResetKeepsSettingsAndEmptiesQueues : Prop :=
  ∀ s : State, s.recordsInv → s.port.resetPending = some .warm → s.port.reply = none → ∃ t : State, exec .commandWarmReset s = .next t ∧
      t.role = s.role ∧ t.store = s.store ∧ t.pending = s.pending ∧
      (t.link.state = .down ∧ t.link.good = 0 ∧ t.link.lost = 0 ∧ t.link.rxXoff = Quad.const false ∧ t.link.farReq = 0 ∧
        t.link.farForce = false ∧ t.link.farEnd = none ∧ t.link.txProfile = 0 ∧ t.link.lastSeq = s.link.lastSeq ∧
        t.link.txSeq = s.link.txSeq ∧ t.link.frameCounter = s.link.frameCounter ∧ t.link.counters = s.link.counters) ∧
      t.ladder = { s.ladder with rp := 0, dwell := 0, confirm := none, forced := none } ∧
      t.planner = { s.planner with pointers := Vector.replicate 8 .t0, last := none } ∧
      (∀ x, (t.tenant x).queue = [] ∧ (t.tenant x).egress = [] ∧ (t.tenant x).packet = none ∧
        (t.tenant x).expected = none ∧ (t.tenant x).paused = false ∧ (t.tenant x).xoff = false ∧
        (t.tenant x).record = (s.tenant x).record ∧ (t.tenant x).nextSeq = (s.tenant x).nextSeq ∧
        (t.tenant x).blockSeq = (s.tenant x).blockSeq ∧ (t.tenant x).ingress = (s.tenant x).ingress ∧
        (t.tenant x).squelched = (s.tenant x).squelched ∧
        (t.tenant x).state = if (s.tenant x).state = .draining then .off else (s.tenant x).state) ∧
      t.timing.base = { s.timing.base with steer := t.timing.base.steer } ∧
      (t.timing.xfer.responses = [] ∧ t.timing.xfer.exchanges = [] ∧ t.timing.xfer.countdown = 0 ∧
        t.timing.xfer.syncSeq = s.timing.xfer.syncSeq ∧ t.timing.xfer.link.state = .absent ∧
        t.timing.xfer.link.hubClass = s.timing.xfer.link.hubClass ∧ t.timing.xfer.link.result = none) ∧
      (t.timing.servo.f = s.timing.servo.f ∧ t.timing.servo.fHold = s.timing.servo.fHold ∧
        t.timing.servo.everLocked = s.timing.servo.everLocked ∧ t.timing.servo.lastE = s.timing.servo.lastE ∧
        t.timing.servo.selected = t.timing.selection) ∧
      ((s.timing.xfer.link.state = .absent ∨ s.timing.servo.selected ≠ some .link) → s.timingInv →
        s.timing.limitReached = false → t.timing.servo = s.timing.servo ∧ t.timing.base = s.timing.base) ∧
      (s.timing.servo.selected = some .link →
        ((∀ y, y ≠ .link → s.timing.candidate y = none) →
          (s.timing.servo.everLocked = true → t.timing.servo.state = .holdover ∧ t.timing.servo.elapsed = 0 ∧
            t.timing.base.steer = s.timing.servo.fHold ∧
            t.timing.servo.counters.holdoverEntries = bump s.timing.servo.counters.holdoverEntries) ∧
          (s.timing.servo.everLocked = false → t.timing.servo.state = .freerun ∧
            t.timing.base.steer = s.timing.base.steer ∧ t.timing.servo.counters = s.timing.servo.counters)) ∧
        (∀ y, t.timing.servo.selected = some y → y ≠ .link ∧ t.timing.servo.state = s.timing.servo.state ∧
          t.timing.servo.lock = s.timing.servo.lock ∧ t.timing.servo.unlock = s.timing.servo.unlock ∧
          t.timing.servo.lockedTime = s.timing.servo.lockedTime ∧ t.timing.base.steer = s.timing.base.steer ∧
          t.timing.servo.counters = s.timing.servo.counters)) ∧
      (t.test.acceptance = s.test.acceptance ∧ t.test.runId = s.test.runId ∧ t.test.steps = s.test.steps ∧
        t.test.patterns = s.test.patterns ∧ t.test.check = none ∧ t.test.report = none ∧
        t.test.runState = if s.test.runState = .running then .done else s.test.runState) ∧
      (t.port.rx = none ∧ t.port.buffer = [] ∧ t.port.reply = none ∧ t.port.resetPending = none ∧
        t.port.counters = s.port.counters ∧ t.port.lastCause = .commandWarm ∧
        t.port.line = some (.notice .boot (.boot
          { cause := .commandWarm, applied := none, invalid := none, role := s.role, calValid := s.store.cal.valid,
            abandoned := none }) 0))

/-- A frame start hands over one frame at a boundary, counts it, and gives each tenant's blocks by the plan. After 01
R3, 01 R13, 03 R45, 03 R51, 03 R53, 03 R54, 04 R68, 04 R73, 04 R79, 04 R80. That a boundary reached stands until its
frame starts is the model's own bookkeeping (log entry 3), and what stands due is log entry 1. The watch for missing
records and a frame start without a role are the model's (log entries 4 and 28). -/
def Obligations.FrameStartCountsOneFrame : Prop :=
  ∀ s : State,
    (s.role ≠ none → ∃ (t : State) (f : TxFrame), exec .frameStart s = .next t ∧ t.link.txSeq = s.link.txSeq + 1 ∧
      t.link.frameCounter = s.link.frameCounter + 1 ∧ t.link.frame = some f ∧ t.role = s.role ∧
      t.link.startsSince = min (s.link.startsSince + 1) 2 ∧ t.link.absenceDue = decide (2 ≤ s.link.startsSince) ∧
      (s.timeInv → f.start.ns % 125000 = 0)) ∧
    (s.role = none → exec .frameStart s = .next (announce s)) ∧
    (s.role ≠ none → s.timing.base.frameHere = true → s.timing.base.secondHere = false → s.quiet = true →
      let up := s.link.state = .up
      let kept (x : Tenant) : List Entry := (s.tenant x).queue.dropWhile fun e =>
        decide (e.sent = 0 ∧ (s.tenant x).record.staleLimit ≠ 0 ∧
          (s.tenant x).record.staleLimit < (s.link.frameCounter - e.arrival).toNat)
      let aged (x : Tenant) : List Entry := (s.tenant x).queue.take ((s.tenant x).queue.length - (kept x).length)
      let offer (x : Tenant) : Nat := match (s.tenant x).state with
        | .off => 0
        | .pending => (((kept x).filter fun e => e.origin == .test).map fun e => e.total - e.sent).sum
        | .active => ((kept x).map fun e => e.total - e.sent).sum
        | .draining => ((kept x).map fun e => e.total - e.sent).sum
      let timing : Option ControlKind := match s.role with
        | some .hub =>
          if up ∧ s.timing.xfer.responses ≠ [] then some .delayResp
          else if s.link.state ≠ .down ∧ s.timing.xfer.countdown ≤ 1 then some .sync else none
        | some .trailer =>
          if s.link.state ≠ .down ∧ (s.timing.xfer.exchanges.any fun e =>
            e.t3.isNone && decide ((s.link.frameCounter - e.frame).toNat < 64)) = true then some .delayReq else none
        | none => none
      let i : PlanInputs :=
        { blocks := Config.blocksOf (if up then min s.link.farReq s.ladder.record.cap else 0), link := s.link.state,
          timing := timing, report := s.test.report.isSome, request := s.test.request,
          offers := ⟨offer .t0, offer .t1, offer .t2, offer .t3⟩, xoff := s.link.rxXoff, shares := s.planner.shares,
          pointers := s.planner.pointers }
      let p := (planFrame i).1
      let c := s.planner.counters
      ∃ t : State, exec .frameStart s = .next t ∧ t.planner.shares = s.planner.shares ∧
        t.planner.pointers = (planFrame i).2 ∧ t.planner.last = some (s.link.frameCounter, p) ∧
        (let d := t.planner.counters
         d.planned = bump c.planned ∧ d.plannedUp = (if up then bump c.plannedUp else c.plannedUp) ∧
         d.idleBlocks = addCount c.idleBlocks p.idle ∧
         (∀ m n, p.request = some (m, n) → p.testBlocks < n →
           d.reserveLimited = (if m = .reserved then bump c.reserveLimited else c.reserveLimited) ∧
           d.spareShort = (if m = .spare then bump c.spareShort else c.spareShort)) ∧
         ((p.request = none ∨ ∃ m n, p.request = some (m, n) ∧ n ≤ p.testBlocks) →
           d.reserveLimited = c.reserveLimited ∧ d.spareShort = c.spareShort) ∧
         ∀ x, d.committed.get x = addCount (c.committed.get x) (p.tenants.get x).committed ∧
           d.spare.get x = addCount (c.spare.get x) (p.grant x - (p.tenants.get x).committed) ∧
           d.xoffHeld.get x = (if up ∧ s.link.rxXoff.get x = true ∧ 0 < offer x then bump (c.xoffHeld.get x)
             else c.xoffHeld.get x)) ∧
        (∀ x,
          let u := s.tenant x
          let v := t.tenant x
          let g := giveBlocks (p.grant x) (kept x) u.blockSeq
          let load := occupancy g.queue
          let judged := if u.record.ingressHalt ≤ load then true else if load ≤ u.record.ingressResume then false
            else u.paused
          v.blockSeq = g.seq ∧ v.record = u.record ∧ v.egress = u.egress ∧
          v.state = (if u.state = .draining ∧ g.queue = [] then .off else u.state) ∧
          v.ingress.packetsSent = addCount u.ingress.packetsSent g.left.length ∧
          v.ingress.blocksSent = addCount u.ingress.blocksSent g.segments.length ∧
          v.ingress.staleRemovals =
            addCount u.ingress.staleRemovals ((aged x).filter fun e => e.origin == .tenant).length ∧
          v.ingress.testAged = addCount u.ingress.testAged ((aged x).filter fun e => e.origin == .test).length ∧
          (s.queueInv → g.segments.length = p.grant x ∧ g.seq = u.blockSeq + BitVec.ofNat 8 (p.grant x)) ∧
          (¬ s.injectsAt x →
            v.queue = g.queue ∧ v.nextSeq = u.nextSeq ∧
            (u.state = .pending ∨ u.state = .active → v.paused = judged ∧ v.ingress.pauses =
              if judged = true ∧ u.paused = false then bump u.ingress.pauses else u.ingress.pauses) ∧
            (u.state = .draining → v.paused = (!g.queue.isEmpty && u.paused) ∧ v.ingress.pauses = u.ingress.pauses) ∧
            (u.state = .off → v.paused = u.paused ∧ v.ingress.pauses = u.ingress.pauses))))

/-- Every transmitted frame is exactly the blocks of its profile, in R7's order by the plan, with a header of R8 and
R10. After 01 R1, 01 R6, 01 R7, 01 R8, 01 R10, 01 R11, 02 R32, R34, 04 R62, R64, 04 R70, R71, 04 R73, R75, 09 R156, 09
R164. -/
def Obligations.EveryFrameFillsItsProfile : Prop :=
  ∀ s : State, s.queueInv → s.recordsInv → s.role ≠ none →
    ∃ (t : State) (f : TxFrame) (h : Header), exec .frameStart s = .next t ∧ t.link.frame = some f ∧ f.blocks.head? = some (Header.bytes h) ∧
      h.txProfile = t.link.txProfile ∧ h.txProfile ≤ 7 ∧
      1 + h.controls.length + h.testBlocks + h.tenantBlocks.sum ≤ Config.blocksOf h.txProfile ∧
      f.blocks.length = Config.blocksOf h.txProfile ∧ (∀ b ∈ f.blocks, b.length = 128) ∧
      (s.timing.base.frameHere = true → s.timing.base.secondHere = false → s.quiet = true →
        f.start = s.timing.base.now.stamp ∧ h.seq = s.link.txSeq ∧
        (let up := s.link.state = .up
         let frame := s.link.frameCounter
         let x := s.timing.xfer
         let waiting : Option Exchange := x.exchanges.find? fun e =>
           e.t3.isNone && decide ((frame - e.frame).toNat < 64)
         let timing : Option ControlKind := match s.role with
           | some .hub =>
             if up ∧ x.responses ≠ [] then some .delayResp
             else if s.link.state ≠ .down ∧ x.countdown ≤ 1 then some .sync else none
           | some .trailer => if s.link.state ≠ .down ∧ waiting.isSome = true then some .delayReq else none
           | none => none
         let control : ControlKind → Option (List Byte)
           | .sync => some (syncBytes x.syncSeq (s.timing.base.now.stamp.shift s.timing.base.record.ltx)
               s.timing.servo.cls)
           | .delayReq => waiting.map fun e => delayReqBytes e.seq
           | .delayResp => x.responses.head?.map fun r => delayRespBytes r.seq r.t4
           | .testReport => s.test.report.map Report.bytes
         let kept (y : Tenant) : List Entry := (s.tenant y).queue.dropWhile fun e =>
           decide (e.sent = 0 ∧ (s.tenant y).record.staleLimit ≠ 0 ∧
             (s.tenant y).record.staleLimit < (frame - e.arrival).toNat)
         ∃ p : Plan, t.planner.last = some (frame, p) ∧
           h.controls = timing.toList ++ (if up ∧ s.test.report.isSome = true then [.testReport] else []) ∧
           h.controls = p.controls ∧ h.testBlocks = p.testBlocks ∧ h.tenantBlocks = p.tenants.map TenantPlan.grant ∧
           (h.testBlocks ≠ 0 → ∃ (w : Working) (m : ReserveMode) (n : Nat), s.test.runState = .running ∧
             s.test.work = some w ∧ w.phase = .active ∧ up ∧ p.request = some (m, n) ∧ h.testBlocks ≤ n ∧
             ∃ profile k lead active tail errors misses,
               w.step.body = .linkPattern profile k n m lead active tail errors misses) ∧
           (let test : List (List Byte) := match s.test.work with
              | some w => (List.range h.testBlocks).map fun k =>
                  testBlockBytes s.test.runId w.index w.pattern (w.blocksSent + k)
              | none => []
            let tenant (y : Tenant) : List (List Byte) :=
              (giveBlocks (h.tenantBlocks.get y) (kept y) (s.tenant y).blockSeq).segments.map Segment.bytes
            f.blocks.map some = some h.bytes :: h.controls.map control ++
              (test ++ (tenant .t0 ++ tenant .t1 ++ tenant .t2 ++ tenant .t3) ++
                List.replicate p.idle idleBytes).map some ∧
            test.length = h.testBlocks ∧ ∀ y, (tenant y).length = h.tenantBlocks.get y) ∧
           (.testReport ∈ h.controls → t.test.report = none ∧
             t.test.counters.reportsSent = bump s.test.counters.reportsSent) ∧
           (.testReport ∉ h.controls → t.test.report = s.test.report ∧
             t.test.counters.reportsSent = s.test.counters.reportsSent)) ∧
        (s.link.state = .up →
          h.txProfile = min s.link.farReq s.ladder.record.cap ∧
          (∀ p, s.ladder.forced = some p → h.requested = p ∧ h.force = true) ∧
          (s.ladder.forced = none → h.force = false ∧
            h.requested = if s.link.farForce = true then s.link.farReq else s.ladder.rp) ∧
          h.xoff = ⟨(s.tenant .t0).xoff, (s.tenant .t1).xoff, (s.tenant .t2).xoff, (s.tenant .t3).xoff⟩ ∧
          (∀ w, s.test.runState = .running → s.test.work = some w →
            h.endMark = if w.phase = .tail then some s.test.runId else none) ∧
          (s.test.runState ≠ .running → h.endMark = none)) ∧
        (s.link.state ≠ .up → h.txProfile = 0 ∧ h.requested = 0 ∧ h.force = false ∧ h.xoff = Quad.const false ∧
          h.endMark = none))

/-- A frame started in DOWN is a P0 header and nine IDLE blocks. After 01 R11, 04 R71. That a boundary reached stands
until its frame starts is the model's own bookkeeping (log entry 3). -/
def Obligations.FrameInDownIsHeaderAndIdle : Prop :=
  ∀ s : State, s.role ≠ none → s.link.state = .down → s.timing.base.frameHere = true →
    s.timing.base.secondHere = false → s.quiet = true →
    ∃ t : State, exec .frameStart s = .next t ∧ t.link.state = .down ∧ t.link.txProfile = 0 ∧ t.link.reqSent = 0 ∧
      t.link.forceSent = false ∧ t.link.xoffSent = Quad.const false ∧
      t.ladder.counters.capped = s.ladder.counters.capped ∧ t.timing.base.now = s.timing.base.now ∧
      t.link.frame = some
        { start := s.timing.base.now.stamp,
          blocks := Header.bytes
              { seq := s.link.txSeq, txProfile := 0, requested := 0, force := false, xoff := Quad.const false,
                controls := [], testBlocks := 0, endMark := none, tenantBlocks := Quad.const 0 } ::
            List.replicate 9 idleBytes }

/-- Each tenant's committed grant is the lesser of its demand and its committed share of the capacity. States 04 R66.
-/
def Obligations.PlannerGivesCommittedShare : Prop :=
  ∀ (i : PlanInputs) (x : Tenant),
    let p := (planFrame i).1
    let rest := i.blocks - 1 - p.controls.length
    let term (y : Tenant) := p.capacity * (i.shares.get y).share / 256
    let d := if i.link = .up ∧ i.xoff.get x = false then min (i.offers.get x) p.capacity else 0
    (i.link = .up → p.controls = i.timing.toList ++ if i.report = true then [.testReport] else []) ∧
    (∀ n, i.link = .up → i.request = some (.reserved, n) → p.capacity = rest - min n rest) ∧
    ((i.link ≠ .up ∨ ∀ n, i.request ≠ some (.reserved, n)) → p.capacity = rest) ∧
    (p.tenants.get x).demand = d ∧
    (p.tenants.get x).committed = min d (term x) ∧ min d (term x) ≤ p.grant x ∧
    ((i.shares.map Share.share).sum ≤ 256 → term .t0 + term .t1 + term .t2 + term .t3 ≤ p.capacity ∧
      (p.tenants.map TenantPlan.committed).sum ≤ p.capacity) ∧
    ((i.shares.get x).share = 256 → term x = p.capacity) ∧ ((i.shares.get x).share = 0 → term x = 0)

/-- Header, control, test, tenant and idle blocks of a plan sum to the frame's block count, and no grant exceeds its
demand. After 04 R70, 04 R67, 01 R7. -/
def Obligations.PlanUsesEveryBlockOnce : Prop :=
  ∀ i : PlanInputs, (i.shares.map Share.share).sum ≤ 256 → 10 ≤ i.blocks →
    let p := (planFrame i).1
    1 + p.controls.length + p.testBlocks + (p.tenants.map TenantPlan.grant).sum + p.idle = i.blocks ∧
      (p.tenants.map TenantPlan.grant).sum + p.spareLeft = p.capacity ∧ ∀ x, p.grant x ≤ (p.tenants.get x).demand

/-- No tenant receives spare capacity while a tenant of a higher priority level has unmet demand. After 04 R67. -/
def Obligations.SpareGoesStrictlyByLevel : Prop :=
  ∀ (i : PlanInputs) (x y : Tenant), (∀ z, (i.shares.get z).level ≤ 7) →
    let p := (planFrame i).1
    (i.shares.get x).level < (i.shares.get y).level → (p.tenants.get y).committed < p.grant y →
    p.grant x = (p.tenants.get x).demand

/-- A header as sent passes the header check and is read back field by field. After 01 R8, 01 R9, 01 R12, 11.2. -/
def Obligations.HeaderRoundTrip : Prop :=
  ∀ h : Header, h.wf = true →
    h.bytes.length = 128 ∧ headerCheckPasses h.bytes = true ∧ headerAt h.bytes = some h

/-- TENANT, SYNC, DELAY_REQ, DELAY_RESP and TEST_REPORT blocks are read back as they were sent. After 11.3, 11.4,
11.6, 11 R183. -/
def Obligations.BlocksRoundTrip : Prop :=
  (∀ g : Segment, g.data.length = 120 → g.length < 65536 → g.bytes.length = 128 ∧ segmentAt g.bytes = g) ∧
    (∀ (q : BitVec 16) (t : Stamp) (c : QClass), t.ns < 1000000000 →
      timingSeqAt (syncBytes q t c) = q ∧ stampAt (syncBytes q t c) 2 = t ∧ hubClassAt (syncBytes q t c) = c ∧
      timingSeqAt (delayReqBytes q) = q ∧ timingSeqAt (delayRespBytes q t) = q ∧ stampAt (delayRespBytes q t) 2 = t) ∧
    (∀ r : Report, r.step < 256 → r.blocks < 4294967296 → r.erroredBlocks < 4294967296 → r.erroredBytes < 4294967296 →
      r.missing < 4294967296 → r.packets < 4294967296 → r.erroredPackets < 4294967296 →
      r.bytes.length = 128 ∧ reportAt r.bytes = r)

/-- The TENANT blocks a queue cuts from a packet are reassembled at the far end into the same packet. After 04 R73, 04
R74, 05 R83, 05 R84, 05 R85, 11.3. Packets of origin TEST are not stated here. -/
def Obligations.CutPacketIsReassembled : Prop :=
  ∀ (u : TenantUnit) (e : Entry) (q : BitVec 8), 64 ≤ e.data.length → e.data.length ≤ 1536 →
    e.length = e.data.length → e.total = blocksFor e.length → e.sent = 0 → e.origin = .tenant →
    u.packet = none → (u.expected = none ∨ u.expected = some q) →
    let g := giveBlocks e.total [e] q
    let r := g.segments.foldl (fun (x : TenantUnit × Completion) b => x.1.takeBlock (segmentAt b.bytes) false)
      (u, Completion.nothing)
    g.queue = [] ∧ g.segments.length = e.total ∧
      ∃ p, r.2 = .packet p ∧ p.length = e.data.length ∧ p.total = e.total ∧ p.data.take p.length = e.data ∧
        p.errored = false ∧ p.origin = .tenant ∧ r.1.expected = some (q + BitVec.ofNat 8 e.total) ∧ r.1.packet = none

/-- The TEST blocks of a step, received in order and unflagged, are counted without an error or a miss. After 09 R152,
09 R156, 09 R163, 11.5. -/
def Obligations.OwnTestBlocksCheckClean : Prop :=
  ∀ (t : TestUnit) (p : Pattern) (run : BitVec 16) (k n : Nat), p.inRange = true → k < 256 → n ≤ 4294967295 → 1 ≤ n →
    CheckRecord.matchesTraffic t.check run k = false →
    ∃ c, (((List.range n).map fun q => testBlockBytes run k p q).foldl (fun t b => t.checkBlock b false) t).check =
        some c ∧
      c.run = run ∧ c.step = k ∧ c.blocks = n ∧ c.erroredBlocks = 0 ∧ c.erroredBytes = 0 ∧ c.missing = 0 ∧
      c.lastSeq = some (n - 1)

/-- A record whose header is flagged, fails its check or is inconsistent is a lost frame: a sample of 0 and the link
state by R15 to R17. After 01 R2, 01 R12, 01 R15, 01 R16, 01 R17, 02 R27, 02 R30, R33, 07 R120, 07 R126, 07 R130, 09
R157, R159. That the watch for missing records restarts and that no free value is drawn are the model's own fields
(log entries 4 and 7), and so is the list of captures waiting for their records (log entry 9). That the sample of a
lost frame is judged before the link state changes is the model's reading (log entry 13). -/
def Obligations.LostFrameEffect : Prop :=
  ∀ (s : State) (r : FrameRecord),
    let timing : Timing :=
      { s.timing with base := { s.timing.base with markers := s.timing.base.markers.tail } }
    let num (p : Position) (k : Nat) : Nat := (byteAt p.bytes k).toNat
    let flagged := r.positions = [] ∨ ∃ p ps, r.positions = p :: ps ∧ p.bad = true
    let failed := ∃ p ps, r.positions = p :: ps ∧ p.bad = false ∧ headerCheckPasses p.bytes = false
    let inconsistent := ∃ p ps, r.positions = p :: ps ∧ p.bad = false ∧ headerCheckPasses p.bytes = true ∧
      (7 < num p 2 ∨ 2 < num p 5 ∨ (num p 5 = 1 ∧ (num p 6 = 0 ∨ 4 < num p 6)) ∨
        (num p 5 = 2 ∧ (num p 6 = 0 ∨ 3 < num p 6 ∨ num p 7 ≠ 4)) ∨ 64 < num p 8 ∨
        Config.blocksOf (num p 2) < 1 + num p 5 + num p 8 + num p 12 + num p 13 + num p 14 + num p 15)
    (s.role = none → exec (.receivedFrameRecord r) s = .next (announce (s.withTiming timing))) ∧
    (s.role ≠ none → s.quiet = true → (flagged ∨ failed ∨ inconsistent) →
      ∃ t : State, exec (.receivedFrameRecord r) s = .next t ∧
        t.link.counters.received = bump s.link.counters.received ∧
        (flagged → t.link.counters.lostFlagged = bump s.link.counters.lostFlagged ∧
          t.link.counters.lostCrc = s.link.counters.lostCrc ∧
          t.link.counters.lostInconsistent = s.link.counters.lostInconsistent) ∧
        (failed → t.link.counters.lostCrc = bump s.link.counters.lostCrc ∧
          t.link.counters.lostFlagged = s.link.counters.lostFlagged ∧
          t.link.counters.lostInconsistent = s.link.counters.lostInconsistent) ∧
        (inconsistent → t.link.counters.lostInconsistent = bump s.link.counters.lostInconsistent ∧
          t.link.counters.lostFlagged = s.link.counters.lostFlagged ∧
          t.link.counters.lostCrc = s.link.counters.lostCrc) ∧
        t.link.counters.goodHeaders = s.link.counters.goodHeaders ∧
        t.ladder.lastSample = some 0 ∧
        t.ladder.record = (giveSample 0 s).ladder.record ∧ t.ladder.counters = (giveSample 0 s).ladder.counters ∧
        (t.link.state = .down → s.link.state ≠ .down →
          t.ladder = { (giveSample 0 s).ladder with rp := 0, dwell := 0, confirm := none, forced := t.ladder.forced } ∧
          (s.test.runState ≠ .running → t.ladder.forced = s.ladder.forced)) ∧
        ((s.link.state = .down ∨ t.link.state = .up) → t.ladder = (giveSample 0 s).ladder) ∧
        t.link.startsSince = 0 ∧ t.link.lastSeq = s.link.lastSeq ∧
        t.timing.base.markers = s.timing.base.markers.tail ∧
        t.role = s.role ∧ t.planner = s.planner ∧ t.store = s.store ∧ t.pending = s.pending ∧
        t.link.txSeq = s.link.txSeq ∧ t.link.frameCounter = s.link.frameCounter ∧ t.freeIndex = s.freeIndex ∧
        ((s.test.runState ≠ .running ∨ t.link.state = s.link.state) → t.test = s.test ∧ t.tenants = s.tenants) ∧
        (s.link.state = .down → t.link.state = .down ∧ t.link.good = s.link.good ∧ t.link.lost = s.link.lost ∧
          t.timing = timing) ∧
        ((s.link.state = .acquire ∨ (s.link.state = .up ∧ 64 ≤ s.link.lost + 1)) →
          t.link.state = .down ∧ t.link.good = 0 ∧ t.link.lost = 0 ∧ t.link.rxXoff = Quad.const false ∧
          t.link.farReq = 0 ∧ t.link.farForce = false ∧ t.link.farEnd = none ∧
          t.link.counters.losses = bump s.link.counters.losses ∧ t.ladder.rp = 0 ∧ t.ladder.dwell = 0 ∧
          t.ladder.confirm = none ∧ t.timing.xfer.exchanges = [] ∧ t.timing.xfer.responses = [] ∧
          t.timing.xfer.link.state = .absent ∧
          (s.timing.xfer.link.state ≠ .absent → t.timing.xfer.link =
            { s.timing.xfer.link with state := .absent, accepted := 0, previous := none, lastM := none,
                                      expiryDue := false }) ∧
          (∀ w, s.test.runState = .running → s.test.work = some w →
            (w.step.body.kind = .linkPattern ∨ w.step.body.kind = .tenantPath) → stepEnded w .fail .linkLost s t)) ∧
        (s.link.state = .up → s.link.lost + 1 < 64 → t.link.state = .up ∧ t.link.lost = s.link.lost + 1 ∧
          t.link.rxXoff = s.link.rxXoff ∧ t.link.farReq = s.link.farReq ∧ t.link.farEnd = s.link.farEnd ∧
          t.timing = timing))

/-- A record with a good header moves the link state, stores the header's fields and hands each block to its owner.
After 01 R2, 01 R12, 01 R15 to R17, 01 R19 to R21, 02 R27, R33, 05 R87 to R89, 06 R103, 07 R120, R123, R125, 07 R130,
09 R163, 09 R164, 11 R183. That the watch for missing records restarts is the model's own field (log entry 4), and so
is the list of captures waiting for their records (log entry 9). The bytes of a missing position and the index they
are drawn at are the model's (log entry 7), and so are the end mark before the frame's own blocks (log entry 51) and
the order of blocks of different tenants (log entry 53). That a later matching report in TAIL replaces the one held is
the model's choice (log entry 54). -/
def Obligations.GoodHeaderEffect : Prop :=
  ∀ (s : State) (r : FrameRecord) (h : Header) (ps : List Position), s.role ≠ none → s.quiet = true → h.wf = true →
    r.positions = { bytes := h.bytes, bad := false } :: ps →
    let size := Config.blocksOf h.txProfile
    let frame : List Position := r.positions.take size ++ (List.range (size - r.positions.length)).map fun k =>
      { bytes := Config.missingBlock (s.freeIndex + k), bad := true }
    let controls := h.controls.zip (frame.drop 1)
    ∃ t : State, exec (.receivedFrameRecord r) s = .next t ∧
      t.link.counters.received = bump s.link.counters.received ∧
      t.link.counters.goodHeaders = bump s.link.counters.goodHeaders ∧
      t.link.counters.lostFlagged = s.link.counters.lostFlagged ∧ t.link.counters.losses = s.link.counters.losses ∧
      t.ladder.lastSample = some r.snr ∧ t.link.startsSince = 0 ∧
      t.link.rxXoff = h.xoff ∧ t.link.farReq = h.requested ∧ t.link.farForce = h.force ∧ t.link.lastSeq = some h.seq ∧
      t.role = s.role ∧ t.planner = s.planner ∧ t.store = s.store ∧ t.pending = s.pending ∧
      t.link.txSeq = s.link.txSeq ∧ t.link.frameCounter = s.link.frameCounter ∧ t.link.frame = s.link.frame ∧
      (s.link.state = .down → t.link.state = .acquire ∧ t.link.good = 1 ∧ t.link.lost = s.link.lost) ∧
      (s.link.state = .acquire → s.link.good + 1 < 16 →
        t.link.state = .acquire ∧ t.link.good = s.link.good + 1 ∧ t.link.lost = s.link.lost) ∧
      (s.link.state = .acquire → 16 ≤ s.link.good + 1 → t.link.state = .up ∧ t.link.lost = 0 ∧
        (s.role = some .trailer → s.timing.xfer.link.state = .absent → h.controls = [] →
          (∀ c, s.timing.xfer.link.hubClass = some c → c.num ≤ 3) → t.timing.xfer.link.state = .qualifying)) ∧
      (s.link.state = .up → t.link.state = .up ∧ t.link.lost = 0) ∧
      (t.link.state = .up → t.link.farEnd = h.endMark ∧
        t.link.counters.tenantDiscarded = s.link.counters.tenantDiscarded) ∧
      (t.link.state ≠ .up → t.link.farEnd = s.link.farEnd ∧
        t.link.counters.tenantDiscarded = addCount s.link.counters.tenantDiscarded h.tenantBlocks.sum ∧
        ∀ x, (t.tenant x).egress = (s.tenant x).egress ∧ (t.tenant x).packet = (s.tenant x).packet ∧
          (t.tenant x).expected = (s.tenant x).expected ∧
          (t.tenant x).egressCounters = (s.tenant x).egressCounters) ∧
      t.timing.base.markers = s.timing.base.markers.tail ∧
      t.freeIndex = s.freeIndex + 1 + (size - r.positions.length) ∧
      t.ladder = { (giveSample r.snr s).ladder with forced := t.ladder.forced } ∧
      (s.test.runState ≠ .running → t.ladder.forced = s.ladder.forced) ∧
      (t.link.state = .up → (s.test.runState ≠ .running ∨ (s.link.state = .up ∧ (h.controls = [] ∨
          (.testReport ∉ h.controls ∧ ∀ w, s.test.work = some w →
            w.step.body.kind = .linkPattern ∨ w.step.body.kind = .tenantPath)))) →
        let at' (k n : Nat) : List Position := (frame.drop k).take n
        let first := 1 + h.controls.length
        let before : Tenant → Nat
          | .t0 => 0
          | .t1 => h.tenantBlocks.t0
          | .t2 => h.tenantBlocks.t0 + h.tenantBlocks.t1
          | .t3 => h.tenantBlocks.t0 + h.tenantBlocks.t1 + h.tenantBlocks.t2
        let takes (u : TenantUnit) (p : Position) : TenantUnit :=
          match u.takeBlock (segmentAt p.bytes) p.bad with
          | (v, .nothing) => v
          | (v, .packet q) => if q.origin = .test then v.completeTest else (v.completeTenant q).1
        t.ladder.forced = s.ladder.forced ∧
        (∀ x, t.tenant x =
          (at' (first + h.testBlocks + before x) (h.tenantBlocks.get x)).foldl takes (s.tenant x)) ∧
        (.testReport ∉ h.controls → t.test =
          let marked := match h.endMark with
            | some run => s.test.endMarkTaken run
            | none => s.test
          let blocks := (at' first h.testBlocks).foldl (fun u p => u.checkBlock p.bytes p.bad) marked
          let packet (q : Packet) (c : Option CheckRecord) : CheckRecord :=
            let run := BitVec.ofNat 16 (numAt q.data 0 2)
            let index := (byteAt q.data 2).toNat
            let fresh : CheckRecord := { run := run, step := index, blocks := 0, erroredBlocks := 0, erroredBytes := 0,
                                         missing := 0, lastSeq := none, packets := 0, erroredPackets := 0,
                                         reported := false }
            let d := match c with
              | some d => if d.run = run ∧ d.step = index ∧ d.reported = false then d else fresh
              | none => fresh
            { d with packets := d.packets + 1, erroredBytes := d.erroredBytes + q.differing,
                     erroredPackets := if q.errored = true ∨ 0 < q.differing then d.erroredPackets + 1
                       else d.erroredPackets }
          let given (x : Tenant) (c : Option CheckRecord) : Option CheckRecord :=
            ((at' (first + h.testBlocks + before x) (h.tenantBlocks.get x)).foldl (fun uc p =>
              match uc.1.takeBlock (segmentAt p.bytes) p.bad with
              | (_, .packet q) => (takes uc.1 p, if q.origin = .test then some (packet q uc.2) else uc.2)
              | (_, .nothing) => (takes uc.1 p, uc.2)) (s.tenant x, c)).2
          { blocks with check := given .t3 (given .t2 (given .t1 (given .t0 blocks.check))) })) ∧
      (let takes (k : ControlKind) : Bool :=
         (k == .sync && s.role == some .trailer) || (k == .delayReq && s.role == some .hub) ||
         (k == .delayResp && s.role == some .trailer) || (k == .testReport && t.link.state == .up)
       let noTime (k : ControlKind) (b : List Byte) : Bool :=
         (k == .sync || k == .delayResp) && decide (999999999 < (stampAt b 2).ns)
       t.link.counters.controlDiscarded = controls.foldl (fun c kp =>
         if kp.2.bad || !takes kp.1 || noTime kp.1 kp.2.bytes then bump c else c) s.link.counters.controlDiscarded) ∧
      (s.test.runState ≠ .running → t.link.state = .up → ∀ p, (ControlKind.testReport, p) ∈ controls → p.bad = false →
        t.test.counters.unmatchedReports = bump s.test.counters.unmatchedReports) ∧
      (∀ (w : Working) (p : Position), s.test.runState = .running → s.test.work = some w → s.link.state = .up →
        controls = [(.testReport, p)] → p.bad = false →
        let g := reportAt p.bytes
        let w1 := { w with report := some g }
        let matching := (w.phase = .tail ∨ w.phase = .awaitReport) ∧ g.run = s.test.runId ∧ g.step = w.index ∧
          (w.step.body.kind = .linkPattern ∨ w.step.body.kind = .tenantPath)
        (¬ matching → t.test.counters.unmatchedReports = bump s.test.counters.unmatchedReports ∧ t.test.work = some w) ∧
        (matching → w.phase = .tail → t.test.work = some w1) ∧
        (matching → w.phase = .awaitReport →
          (∀ profile pattern blocks mode lead active tail errors miss,
            w.step.body = .linkPattern profile pattern blocks mode lead active tail errors miss →
            (w.blocksSent ≤ g.blocks + miss → g.erroredBlocks ≤ errors → stepEnded w1 .pass .none s t) ∧
            ((g.blocks + miss < w.blocksSent ∨ errors < g.erroredBlocks) →
              stepEnded w1 .fail .limitExceeded s t)) ∧
          (∀ x pattern packets length errors miss, w.step.body = .tenantPath x pattern packets length errors miss →
            (w.sent ≤ g.packets + miss → g.erroredPackets ≤ errors → stepEnded w1 .pass .none s t) ∧
            ((g.packets + miss < w.sent ∨ errors < g.erroredPackets) → stepEnded w1 .fail .limitExceeded s t)))) ∧
      (∀ (k : ControlKind) (p : Position), controls.head? = some (k, p) →
        let b := p.bytes
        let q := timingSeqAt b
        let x := s.timing.xfer
        let y := t.timing.xfer
        let wanted := (k = .sync ∧ s.role = some .trailer) ∨ (k = .delayReq ∧ s.role = some .hub) ∨
          (k = .delayResp ∧ s.role = some .trailer)
        let noTime := (k = .sync ∨ k = .delayResp) ∧ 999999999 < (stampAt b 2).ns
        ((p.bad = true ∨ ¬ wanted ∨ noTime) →
          y.exchanges = x.exchanges ∧ y.responses = x.responses ∧ y.counters = x.counters) ∧
        (p.bad = false → wanted → ¬ noTime →
          (k = .delayReq → ∀ m, s.timing.base.markers.head? = some m →
            y.counters.reqTaken = bump x.counters.reqTaken ∧
            ((∃ e ∈ x.responses, e.seq = q) → y.responses = x.responses ∧
              y.counters.duplicates = bump x.counters.duplicates) ∧
            ((∀ e ∈ x.responses, e.seq ≠ q) → 4 ≤ x.responses.length → y.responses = x.responses ∧
              y.counters.listFull = bump x.counters.listFull) ∧
            ((∀ e ∈ x.responses, e.seq ≠ q) → x.responses.length < 4 → y.responses =
              x.responses ++ [{ seq := q, t4 := m.shift (-(s.timing.base.record.lrx : Int)) }])) ∧
          (k = .sync → ∀ m, s.timing.base.markers.head? = some m →
            let kept := x.exchanges.filter fun e => e.seq != q
            y.counters.syncTaken = bump x.counters.syncTaken ∧ y.link.hubClass = some (hubClassAt b) ∧
            y.exchanges = (if 4 ≤ kept.length then kept.tail else kept) ++
              [{ seq := q, t1 := stampAt b 2, t2 := m.shift (-(s.timing.base.record.lrx : Int)), t3 := none, t4 := none,
                 frame := s.link.frameCounter }] ∧
            (3 < (hubClassAt b).num → y.link.state = .absent)) ∧
          (k = .delayResp →
            ((∃ e ∈ x.exchanges, e.seq = q ∧ e.t3.isSome = true) →
              y.counters.completed = bump x.counters.completed ∧
              ∀ e ∈ y.exchanges, e ∈ x.exchanges ∧ e.seq ≠ q) ∧
            ((∀ e ∈ x.exchanges, e.seq = q → e.t3 = none) →
              y.exchanges = x.exchanges ∧ y.counters.unmatched = bump x.counters.unmatched))))

/-- A registered absent frame is counted, gives no sample, and has the effect of a lost frame on the link. After 01
R13, 01 R16, 01 R17, 02 R30, 07 R120, 07 R126, 07 R130, 07 R132, 09 R157, R159. That an absence stands due until it is
registered is the model's own field (log entries 1 and 4). -/
def Obligations.AbsentFrameEffect : Prop :=
  ∀ s : State,
    (s.link.absenceDue = false → exec .absentFrame s = .next (announce s)) ∧
    (s.link.absenceDue = true → ∃ t : State, exec .absentFrame s = .next t ∧ t.link.absenceDue = false ∧
      t.link.counters.absent = bump s.link.counters.absent ∧ t.link.counters.received = s.link.counters.received ∧
      t.ladder.lastSample = s.ladder.lastSample ∧ t.ladder.record = s.ladder.record ∧
      t.role = s.role ∧ t.planner = s.planner ∧ t.store = s.store ∧ t.pending = s.pending ∧
      t.link.frameCounter = s.link.frameCounter ∧ t.link.txSeq = s.link.txSeq ∧ t.timing.base.now = s.timing.base.now ∧
      ((s.test.runState ≠ .running ∨ t.link.state = s.link.state) → t.test = s.test ∧ t.tenants = s.tenants) ∧
      (s.link.state = .down → t.link = { s.link with absenceDue := false, counters := t.link.counters } ∧
        t.ladder = s.ladder ∧ t.timing = s.timing) ∧
      ((s.link.state = .acquire ∨ (s.link.state = .up ∧ 64 ≤ s.link.lost + 1)) →
        t.link.state = .down ∧ t.link.good = 0 ∧ t.link.lost = 0 ∧ t.link.rxXoff = Quad.const false ∧
        t.link.farReq = 0 ∧ t.link.farForce = false ∧ t.link.farEnd = none ∧
        t.link.counters.losses = bump s.link.counters.losses ∧ t.ladder.rp = 0 ∧ t.ladder.dwell = 0 ∧
        t.ladder.confirm = none ∧ t.timing.xfer.exchanges = [] ∧ t.timing.xfer.responses = [] ∧
        t.timing.xfer.link.state = .absent ∧
          (s.timing.xfer.link.state ≠ .absent → t.timing.xfer.link =
            { s.timing.xfer.link with state := .absent, accepted := 0, previous := none, lastM := none,
                                      expiryDue := false }) ∧
          (∀ w, s.test.runState = .running → s.test.work = some w →
            (w.step.body.kind = .linkPattern ∨ w.step.body.kind = .tenantPath) → stepEnded w .fail .linkLost s t)) ∧
      (s.link.state = .up → s.link.lost + 1 < 64 → t.link.state = .up ∧ t.link.lost = s.link.lost + 1 ∧
        t.ladder = s.ladder ∧ t.timing = s.timing))

/-- Two samples in a row below the threshold of R_p step it down to the highest profile they both meet. After 02 R28,
02 R29, log entry 23. That the dwell count is 0 after the whole sample that makes a down-step is the model's reading
(log entry 23). -/
def Obligations.DownStepNeedsTwoSamples : Prop :=
  ∀ (s : State) (x : Nat), s.recordsInv → s.ladderInv →
    let l := s.ladder
    let t := giveSample x s
    (x < l.record.threshold l.rp → l.confirm = none →
      t.ladder.confirm = some x ∧ t.ladder.rp = l.rp ∧ t.ladder.counters.downSteps = l.counters.downSteps) ∧
    (∀ h, x < l.record.threshold l.rp → l.confirm = some h →
      t.ladder.rp < l.rp ∧ l.record.threshold t.ladder.rp ≤ min h x ∧
      (∀ p, p ≤ 7 → l.record.threshold p ≤ min h x → p ≤ t.ladder.rp) ∧
      t.ladder.confirm = none ∧ t.ladder.dwell = 0 ∧ t.ladder.counters.downSteps = bump l.counters.downSteps ∧
      (s.port.line.isSome = true → ∃ (c : _) (merge : Nat),
        t.port.slots.profile = some { content := .profile c, merge := merge } ∧ c.cause = .recommendDown ∧
          c.rp = t.ladder.rp) ∧
      (s.port.line = none → s.port.reply = none → s.port.slots = NoticeSlots.clear → ∃ c,
        t.port.line = some (.notice .profile (.profile c) 0) ∧ c.cause = .recommendDown ∧ c.rp = t.ladder.rp)) ∧
    (l.record.threshold l.rp ≤ x →
      t.ladder.confirm = none ∧ t.ladder.counters.downSteps = l.counters.downSteps ∧ l.rp ≤ t.ladder.rp) ∧
    (l.rp = 0 → t.ladder.confirm = none ∧ t.ladder.counters.downSteps = l.counters.downSteps)

/-- No up-step follows from fewer samples than the up-dwell, and up-dwell passing samples in a row make exactly one.
After 02 R29. -/
def Obligations.UpStepNeedsFullDwell : Prop :=
  ∀ (s : State) (xs : List Nat), s.recordsInv → s.ladderInv → s.ladder.dwell = 0 →
    let t := xs.foldl (fun u x => giveSample x u) s
    (xs.length < s.ladder.record.upDwell →
      t.ladder.rp ≤ s.ladder.rp ∧ t.ladder.counters.upSteps = s.ladder.counters.upSteps) ∧
    (xs.length = s.ladder.record.upDwell → s.ladder.rp < 7 →
      (∀ x ∈ xs, s.ladder.record.threshold (s.ladder.rp + 1) + s.ladder.record.hysteresis ≤ x) →
      t.ladder.rp = s.ladder.rp + 1 ∧ t.ladder.dwell = 0 ∧
      t.ladder.counters.upSteps = bump s.ladder.counters.upSteps ∧
      t.ladder.counters.downSteps = s.ladder.counters.downSteps)

/-- SET_LINK replaces the link record whole when every field is in range, and changes nothing otherwise. After 02 R24,
02 R25, 02 R26, log entry 29. That an up-dwell above 65,535 is refused is the model's reading. -/
def Obligations.SetLinkTakesOrRefuses : Prop :=
  ∀ (s : State) (tag : Byte) (r : LinkRecord), s.requestFree →
    let good := r.thresholds[0] = 0 ∧ (∀ i : Fin 8, r.thresholds[i] ≤ 255) ∧
      (∀ i j : Fin 8, i ≤ j → r.thresholds[i] ≤ r.thresholds[j]) ∧ r.hysteresis ≤ 40 ∧ 64 ≤ r.upDwell ∧
      r.upDwell ≤ 65535 ∧ r.cap ≤ 7
    (good → exec (.setLink tag r) s =
      .next (({ s with ladder := { s.ladder with record := r, dwell := 0, confirm := none } } : State).replied 5 tag .ok
        (.linkRecord r))) ∧
    (¬ good → exec (.setLink tag r) s = .next (s.replied 5 tag .badValue (.linkRecord s.ladder.record)))

/-- SET_SHARES replaces the share table when levels and shares are in range and sum to at most 256. States 04 R77. -/
def Obligations.SetSharesTakesOrRefuses : Prop :=
  ∀ (s : State) (tag : Byte) (q : ShareTable), s.requestFree →
    let good := (∀ x, (q.get x).level ≤ 7 ∧ (q.get x).share ≤ 256) ∧
      q.t0.share + q.t1.share + q.t2.share + q.t3.share ≤ 256
    (good → exec (.setShares tag q) s =
      .next (({ s with planner := { s.planner with shares := q } } : State).replied 7 tag .ok (.shares q))) ∧
    (¬ good → exec (.setShares tag q) s = .next (s.replied 7 tag .badValue (.shares s.planner.shares)))

/-- A packet at a tenant port meets the five tests in order; only an admitted one enters the queue. After 03 R48, 03
R49, 03 R50, 03 R51, 09 R158. -/
def Obligations.PacketAdmissionInOrder : Prop :=
  ∀ (s : State) (x : Tenant) (bad : Bool) (bytes : List Byte),
    let u := s.tenant x
    let c := u.ingress
    let b := (bytes.length + 119) / 120
    let o := occupancy u.queue
    let pause := if u.record.ingressHalt ≤ o + b then true else if o + b ≤ u.record.ingressResume then false else u.paused
    let admitted := bad = false ∧ 64 ≤ bytes.length ∧ bytes.length ≤ 1536 ∧ u.state = .active ∧ o + b ≤ 1024 ∧
      u.queue.length < 256
    let v : TenantUnit :=
      if bad = true then { u with ingress := { c with bad := bump c.bad } }
      else if bytes.length < 64 ∨ 1536 < bytes.length then
        { u with ingress := { c with lengthErrors := bump c.lengthErrors } }
      else if u.state ≠ .active then { u with ingress := { c with refused := bump c.refused } }
      else if 1024 < o + b ∨ 256 ≤ u.queue.length then { u with ingress := { c with overrun := bump c.overrun } }
      else
        { u with
          queue := u.queue ++ [{ seq := u.nextSeq, length := bytes.length, total := b, sent := 0,
                                 arrival := s.link.frameCounter, origin := .tenant, run := none, step := none,
                                 data := bytes }],
          nextSeq := u.nextSeq + 1, paused := pause,
          ingress := { c with packets := bump c.packets, blocks := addCount c.blocks b,
                              pauses := if pause = true ∧ u.paused = false then bump c.pauses else c.pauses } }
    (¬ s.injectsAt x ∨ ¬ admitted → exec (.tenantPacketArrival x bad bytes) s = .next (announce (s.withTenant x v))) ∧
    (∀ w k packets length errorLimit missLimit, s.test.runState = .running → s.test.work = some w → w.phase = .active →
      w.step.body = .tenantPath x k packets length errorLimit missLimit → 64 ≤ length → admitted →
      ∃ (t : State) (w1 : Working) (n : Nat), exec (.tenantPacketArrival x bad bytes) s = .next t ∧
        injected s.link.frameCounter s.test.runId packets length v (t.tenant x) w w1 n ∧
        t.tenant x = { v with
          queue := (t.tenant x).queue, nextSeq := (t.tenant x).nextSeq, paused := (t.tenant x).paused,
          ingress := { v.ingress with
            testTaken := (t.tenant x).ingress.testTaken, pauses := (t.tenant x).ingress.pauses } } ∧
        t = { s with tenants := s.tenants.set x (t.tenant x), test := { s.test with work := some w1 },
                     port := t.port })

/-- Hold starts and stops deliveries only at packet boundaries, and an ended delivery leaves the buffer once. After 05
R91, 05 R92, 05 R94, 05 R96. That DELIVERY_END without a delivery in progress has no effect is the model's reading
(log entry 1), and so are the moments of sampling (log entry 42). -/
def Obligations.DeliveryAtPacketBoundary : Prop :=
  ∀ (s : State) (x : Tenant),
    let u := s.tenant x
    (∀ a : Bool, exec (.holdInput x a) s = .next (announce (s.withTenant x
      { u with hold := a, holdSeen := if u.delivering = false ∧ u.egress ≠ [] then a else u.holdSeen,
               delivering := u.delivering || (!a && !u.egress.isEmpty),
               portErrored := if u.delivering = false ∧ a = false then (u.egress.head?.map EgressEntry.errored).getD
                 u.portErrored else u.portErrored }))) ∧
    (∀ e rest, u.egress = e :: rest → u.delivering = true →
      let o := (rest.map EgressEntry.blocks).sum
      let x1 := if u.record.egressHalt ≤ o then true else if o ≤ u.record.egressResume then false else u.xoff
      let c := u.egressCounters
      exec (.deliveryEnd x) s = .next (announce (s.withTenant x
        { u with egress := rest, delivering := !rest.isEmpty && !u.hold, xoff := x1,
                 holdSeen := if rest = [] then u.holdSeen else u.hold,
                 portErrored := if u.hold = false then (rest.head?.map EgressEntry.errored).getD u.portErrored
                   else u.portErrored,
                 egressCounters := { c with delivered := if e.errored then c.delivered else bump c.delivered,
                                            erroredDelivered := if e.errored then bump c.erroredDelivered
                                              else c.erroredDelivered,
                                            xoffs := if x1 = true ∧ u.xoff = false then bump c.xoffs else c.xoffs } }))) ∧
    ((u.egress = [] ∨ u.delivering = false) → exec (.deliveryEnd x) s = .next (announce s))

/-- STALE_REMOVAL removes an unstarted head older than the stale limit, and nothing else. After 03 R45, 03 R51, 03
R53, 03 R56, 09 R158, log entry 21. That the row acts ahead of its frame start is the model's reading. -/
def Obligations.StaleHeadIsRemoved : Prop :=
  ∀ (s : State) (x : Tenant), s.role ≠ none → s.ingressInv →
    let u := s.tenant x
    (∀ e q, u.queue = e :: q → e.sent = 0 → u.record.staleLimit ≠ 0 →
      u.record.staleLimit < (s.link.frameCounter - e.arrival).toNat →
      ∃ t : State, exec (.staleRemoval x) s = .next t ∧ (t.tenant x).queue = q ∧ (∀ y, y ≠ x → t.tenant y = s.tenant y) ∧
        (t.tenant x).ingress.staleRemovals =
          (if e.origin = .tenant then bump u.ingress.staleRemovals else u.ingress.staleRemovals) ∧
        (t.tenant x).ingress.testAged =
          (if e.origin = .test then bump u.ingress.testAged else u.ingress.testAged) ∧
        (t.tenant x).state = (if u.state = .draining ∧ q = [] then .off else u.state) ∧
        (u.state = .draining → (t.tenant x).paused = (!q.isEmpty && u.paused)) ∧
        (u.state.judged = true → u.record.ingressHalt ≤ occupancy q → (t.tenant x).paused = true) ∧
        (u.state.judged = true → occupancy q < u.record.ingressHalt → occupancy q ≤ u.record.ingressResume →
          (t.tenant x).paused = false) ∧
        (t.tenant x).egress = u.egress ∧ (t.tenant x).record = u.record ∧ (t.tenant x).nextSeq = u.nextSeq ∧
        t.role = s.role ∧ t.link = s.link ∧ t.ladder = s.ladder ∧ t.planner = s.planner ∧ t.timing = s.timing ∧
        t.store = s.store ∧ t.pending = s.pending ∧
        ((s.test.runState ≠ .running ∨ s.test.work = none) → t.test = s.test) ∧
        (∀ w, s.test.runState = .running → s.test.work = some w →
          let own := w.step.body.kind = .tenantPath ∧ e.origin = .test ∧ e.run = some s.test.runId ∧
            e.step = some w.index
          t.test = { s.test with work := some { w with aged := if own then w.aged + 1 else w.aged } })) ∧
    ((u.queue = [] ∨ u.record.staleLimit = 0 ∨ (∃ e q, u.queue = e :: q ∧ (e.sent ≠ 0 ∨
        (s.link.frameCounter - e.arrival).toNat ≤ u.record.staleLimit))) →
      exec (.staleRemoval x) s = .next (announce s))

/-- SET_TENANT limits the four levels, takes the record, and makes an OFF tenant PENDING. After 03 R39, 03 R40, 03
R41, 05 R95. That a stale limit above 65,535 is refused is the model's reading (log entry 29), and so is the reply to
an index above 3, which names no record (R40 gives it no content). -/
def Obligations.SetTenantLimitsAndTakes : Prop :=
  ∀ (s : State) (tag : Byte) (index : Nat) (r : TenantRecord), s.requestFree →
    (3 < index → exec (.setTenant tag index (some r)) s =
      .next (s.replied 6 tag .badValue (.tenantRecord none none))) ∧
    (∀ x, Tenant.ofIndex index = some x →
      let u := s.tenant x
      let good := r.ingressHalt ≠ 0 ∧ r.egressHalt ≠ 0 ∧ (r.staleLimit = 0 ∨ (8 ≤ r.staleLimit ∧ r.staleLimit ≤ 65535))
      let ih := min r.ingressHalt 1024
      let eh := min r.egressHalt 1024
      let v : TenantRecord := { r with ingressHalt := ih, ingressResume := if ih ≤ r.ingressResume then ih - 1
                                         else r.ingressResume,
                                       egressHalt := eh, egressResume := if eh ≤ r.egressResume then eh - 1
                                         else r.egressResume }
      ((u.state = .active ∨ u.state = .draining) → exec (.setTenant tag index (some r)) s =
        .next (s.replied 6 tag .wrongState (.tenantRecord (some u.record) (some u.state)))) ∧
      ((u.state = .off ∨ u.state = .pending) → ¬ good → exec (.setTenant tag index (some r)) s =
        .next (s.replied 6 tag .badValue (.tenantRecord (some u.record) none))) ∧
      ((u.state = .off ∨ u.state = .pending) → good →
        ∃ t : State, exec (.setTenant tag index (some r)) s =
            .next (t.replied 6 tag (if v = r then .ok else .adjusted) (.tenantRecord (some v) none)) ∧
          (t.tenant x).record = v ∧ (t.tenant x).state = .pending ∧ (t.tenant x).queue = u.queue ∧
          (t.tenant x).egress = u.egress ∧ (t.tenant x).packet = u.packet ∧
          (v.egressHalt ≤ egressOccupancy u.egress → (t.tenant x).xoff = true) ∧
          (egressOccupancy u.egress < v.egressHalt → egressOccupancy u.egress ≤ v.egressResume →
            (t.tenant x).xoff = false) ∧
          (∀ y, y ≠ x → t.tenant y = s.tenant y) ∧ t.role = s.role ∧ t.link = s.link ∧ t.ladder = s.ladder ∧
          t.planner = s.planner ∧ t.timing = s.timing ∧ t.test = s.test ∧ t.store = s.store ∧ t.pending = s.pending))

/-- TENANT_ACTIVATE admits a tenant exactly when the four conditions are met and names every one that is not. After 03
R42, 03 R43. On a free line the reply begins and a notice that the request raised stays pending behind it: R172 leaves
the order of the two open, and the model takes the reply first (log entry 8). The OK reply has an empty body, for
which R42 names no content (log entry 31). So has the BAD_VALUE reply (log entry 31). -/
def Obligations.TenantActivateChecksFour : Prop :=
  ∀ (s : State) (tag : Byte) (index : Nat), s.requestFree →
    (3 < index → exec (.tenantActivate tag index) s = .next (s.replied 8 tag .badValue .empty)) ∧
    (∀ x, Tenant.ofIndex index = some x →
      let u := s.tenant x
      let c1 := u.state = .pending
      let c2 := s.test.acceptance = .passed ∨ s.test.acceptance = .waived
      let c3 := ¬ (s.test.runState = .running ∧ s.test.flag = true)
      let c4 := u.record.phaseRequired = true → s.timing.servo.cls.num ≤ u.record.minClass.num
      (c1 → c2 → c3 → c4 → ∃ t : State, exec (.tenantActivate tag index) s = .next (t.replied 8 tag .ok .empty) ∧
        t = { s with tenants := s.tenants.set x { u with state := .active },
                     port := { s.port with slots := t.port.slots } } ∧
        ∃ (c : _) (merge : Nat), t.port.slots.tenant.get x = some { content := .tenant c, merge := merge } ∧
          c.cause = .activated ∧ c.new = .active ∧ c.previous = .pending ∧ c.index = index) ∧
      (¬ (c1 ∧ c2 ∧ c3 ∧ c4) → ∃ conds classes,
        exec (.tenantActivate tag index) s = .next (s.replied 8 tag .wrongState (.unmet conds classes)) ∧
        (.notPending ∈ conds ↔ ¬ c1) ∧ (.acceptance ∈ conds ↔ ¬ c2) ∧ (.acceptanceRun ∈ conds ↔ ¬ c3) ∧
        (.cls ∈ conds ↔ ¬ c4) ∧ conds.Sublist [.notPending, .acceptance, .acceptanceRun, .cls] ∧
        classes = if .cls ∈ conds then some (s.timing.servo.cls, u.record.minClass) else none))

/-- TENANT_DRAIN closes admission and keeps what is queued; with an empty queue the tenant is OFF at once. After 03
R44, 03 R45, 03 R47, 09 R159. On a free line the reply begins and a notice that the request raised stays pending
behind it: R172 leaves the order of the two open, and the model takes the reply first (log entry 8). The reply has an
empty body, for which R44 names no content (log entry 31). So have the refusals (log entry 31). -/
def Obligations.TenantDrainKeepsTraffic : Prop :=
  ∀ (s : State) (tag : Byte) (index : Nat), s.requestFree →
    (3 < index → exec (.tenantDrain tag index) s = .next (s.replied 9 tag .badValue .empty)) ∧
    (∀ x, Tenant.ofIndex index = some x →
      let u := s.tenant x
      (u.state ≠ .active → exec (.tenantDrain tag index) s = .next (s.replied 9 tag .wrongState .empty)) ∧
      (∀ w pattern packets length errorLimit missLimit, u.state = .active → s.test.runState = .running →
        s.test.work = some w → w.step.body = .tenantPath x pattern packets length errorLimit missLimit →
        ∃ t : State, exec (.tenantDrain tag index) s = .next (t.replied 9 tag .ok .empty) ∧
          stepEnded w .fail .tenantState s t ∧ (t.tenant x).egress = u.egress ∧
          ((t.tenant x).state = .draining ∨ (t.tenant x).state = .off)) ∧
      (u.state = .active → (∀ w pattern packets length errorLimit missLimit, s.test.work = some w →
          w.step.body ≠ .tenantPath x pattern packets length errorLimit missLimit) → ∃ t : State, exec (.tenantDrain tag index) s = .next (t.replied 9 tag .ok .empty) ∧
        t = { s with tenants := s.tenants.set x { u with state := if u.queue = [] then .off else .draining,
                                                         paused := !u.queue.isEmpty },
                     port := { s.port with slots := t.port.slots } } ∧
        ∃ (c : _) (merge : Nat), t.port.slots.tenant.get x = some { content := .tenant c, merge := merge } ∧
          c.cause = (if u.queue = [] then .drained else .drainStarted) ∧ c.previous = .active))

/-- TENANT_OFF empties queue, egress buffer and reassembly record in every tenant state. After 03 R46, 05 R93, 09
R159. On a free line the reply begins and a notice that the request raised stays pending behind it: R172 leaves the
order of the two open, and the model takes the reply first (log entry 8). The reply has an empty body, for which R46
names no content (log entry 31). So has the BAD_VALUE reply (log entry 31). The mark of an early removal is the
model's own field (log entry 21). -/
def Obligations.TenantOffEmptiesTheTenant : Prop :=
  ∀ (s : State) (tag : Byte) (index : Nat), s.requestFree →
    (3 < index → exec (.tenantOff tag index) s = .next (s.replied 10 tag .badValue .empty)) ∧
    (∀ x, Tenant.ofIndex index = some x →
      let u := s.tenant x
      let aborted := u.delivering && !u.egress.isEmpty
      (∀ w pattern packets length errorLimit missLimit, u.state ≠ .off → s.test.runState = .running →
        s.test.work = some w → w.step.body = .tenantPath x pattern packets length errorLimit missLimit →
        ∃ t : State, exec (.tenantOff tag index) s = .next (t.replied 10 tag .ok .empty) ∧
          stepEnded w .fail .tenantState s t ∧ (t.tenant x).queue = [] ∧ (t.tenant x).egress = [] ∧
          (t.tenant x).state = .off) ∧
      ((u.state = .off ∨ ∀ w pattern packets length errorLimit missLimit, s.test.work = some w →
          w.step.body ≠ .tenantPath x pattern packets length errorLimit missLimit) →
      ∃ t : State, exec (.tenantOff tag index) s = .next (t.replied 10 tag .ok .empty) ∧
        t = { s with tenants := s.tenants.set x (t.tenant x), port := { s.port with slots := t.port.slots } } ∧
        (u.record.egressHalt ≠ 0 → (t.tenant x).xoff = false ∧ (t.tenant x).egressCounters.xoffs = u.egressCounters.xoffs) ∧
        t.tenant x = { u with
          state := .off, queue := [], paused := false, egress := [], delivering := false, packet := none,
          expected := none, portErrored := u.portErrored || aborted, xoff := (t.tenant x).xoff, agedEarly := false,
          ingress := { u.ingress with flushed := addCount u.ingress.flushed u.queue.length },
          egressCounters := { u.egressCounters with
            aborted := if aborted then bump u.egressCounters.aborted else u.egressCounters.aborted,
            flushed := addCount u.egressCounters.flushed (if aborted then u.egress.length - 1 else u.egress.length),
            lossesRestart := if u.packet.isSome = true then bump u.egressCounters.lossesRestart
              else u.egressCounters.lossesRestart,
            xoffs := (t.tenant x).egressCounters.xoffs } } ∧
        (u.state ≠ .off → ∃ (c : _) (merge : Nat), t.port.slots.tenant.get x = some { content := .tenant c, merge := merge } ∧
          c.cause = .offRequest ∧ c.new = .off ∧ c.previous = u.state) ∧
        (u.state = .off → t.port = s.port)))

/-- A second boundary advances the seconds or takes a pending TIME_SET, judges the tenants, and counts the second.
After 06 R98, 06 R102, 06 R114, 06 R115, 07 R126, 08 R144, 08 R145, 09 R160, R161. That the frame boundary there and
an aging step then stand due are the model's own fields (log entries 1 and 3). That the outputs of the boundary that
reaches the holdover limit are judged on the class before it is log entry 14, and that the class then changes at its
own row is log entry 1. -/
def Obligations.SecondBoundaryEffect : Prop :=
  ∀ s : State, s.timeInv → s.timing.base.secondHere = false →
    (s.role = none ∨ (s.timing.base.frameHere = false ∧ 1999750000 ≤ s.timing.base.now.half)) →
    (s.withBase s.timing.base.reachSecond).quiet = true →
    let b := s.timing.base
    let v := s.timing.servo
    let sec := b.pendingSet.getD (b.now.sec + 1)
    ∃ t : State, exec .secondBoundary s = .next t ∧
      t.timing.base = { b with now := { sec := sec, half := 0 }, pendingSet := none,
                               advance := b.advance + (2000000000 - b.now.half), frameHere := true } ∧
      t.timing.servo = { v with
        elapsed := if v.state = .holdover then bump v.elapsed else v.elapsed,
        lockedTime := if v.state = .locked then bump v.lockedTime else v.lockedTime,
        agingDue := if v.state = .holdover ∧ bump v.elapsed % 3600 = 0 then true else v.agingDue } ∧
      t.timing.xfer.exchanges = (if b.pendingSet.isSome = true ∧ s.role = some .trailer then []
        else s.timing.xfer.exchanges) ∧
      t.timing.xfer.responses = s.timing.xfer.responses ∧ t.timing.xfer.link = s.timing.xfer.link ∧
      (∀ x, let u := s.tenant x
        t.tenant x =
          if u.state = .off then { u with timingOut := none }
          else if v.cls.num ≤ u.record.minClass.num then
            { u with squelched := false, secondsEmitted := bump u.secondsEmitted,
                     timingOut := some { sec := sec, cls := v.cls } }
          else { u with squelched := true, secondsSquelched := bump u.secondsSquelched, timingOut := none }) ∧
      t.role = s.role ∧ t.link = s.link ∧ t.ladder = s.ladder ∧ t.planner = s.planner ∧ t.store = s.store ∧
      t.pending = s.pending ∧ (s.test.runState ≠ .running ∨ s.test.work = none → t.test = s.test) ∧
      (∀ w, s.test.runState = .running → s.test.work = some w →
        let w1 := if w.phase = .waiting then { w with deadline := w.deadline - 1, waited := w.waited + 1 } else w
        t.test = { s.test with work := some w1 })

/-- A pulse moves its qualifier by its interval in every source state, and an advance over a boundary takes its frame
first. After 06 R98, 06 R103, 06 R104, 06 R106, 06 R107, 06 R109. That the advance comes as the operand, and the
frames and second boundaries it crosses with it, is the model's way to bring local time to the pulse (log entry 3). -/
def Obligations.PulseIsJudgedByItsInterval : Prop :=
  ∀ (s : State) (i j : PulseInput) (dt : Nat), s.timeInv → i ≠ j →
    (∀ t, s.portInv → s.role ≠ none → s.timing.base.secondHere = false → s.timing.base.toFrame < dt →
      exec .frameStart s = .next t → exec (.pulse i dt) s = exec (.pulse i (dt - s.timing.base.toFrame)) t) ∧
    (dt ≤ s.toBoundary →
    (s.withBase (s.timing.base.advanceBy dt)).quiet = true →
    let q := s.timing.base.qualifier i
    let here := s.timing.base.now.advance dt
    let reading := s.timing.base.advance + dt
    ∃ t : State, exec (.pulse i dt) s = .next t ∧
      let p := t.timing.base.qualifier i
      t.timing.base.advance = reading ∧ p.lastPulse = some reading ∧ p.lastCapture = some here ∧
      p.counters.pulses = bump q.counters.pulses ∧ t.timing.base.qualifier j = s.timing.base.qualifier j ∧
      t.role = s.role ∧ t.link = s.link ∧ t.planner = s.planner ∧ t.store = s.store ∧ t.pending = s.pending ∧
      (q.reference = none → q.state = .absent →
        p.state = .qualifying ∧ p.good = 0 ∧ p.bad = 0 ∧ p.reference = some reading) ∧
      (∀ r, q.reference = some r →
        (reading - r < 1000000000 → p.reference = some r ∧ p.counters.spurious = bump q.counters.spurious) ∧
        (1000000000 ≤ reading - r → p.reference = some reading) ∧
        (1999998000 ≤ reading - r → reading - r ≤ 2000002000 →
          p.counters.good = bump q.counters.good ∧
          (q.state = .qualifying → q.good = 7 → p.state = .qualified ∧ p.good = 0 ∧ p.bad = 0) ∧
          (q.state = .qualifying → q.good < 7 → p.state = .qualifying ∧ p.good = q.good + 1 ∧ p.bad = 0) ∧
          (∃ m : Int, p.lastM = some m ∧ m % 4 = 0 ∧
            let raw : Int := if here.half < 1000000000 then -(here.half : Int) else 2000000000 - (here.half : Int)
            (2 * m - raw).natAbs ≤ 4 ∧ ((2 * m - raw).natAbs = 4 → raw.natAbs < (2 * m).natAbs))) ∧
        ((reading - r < 1999998000 ∨ 2000002000 < reading - r) → (q.state = .qualifying ∨ q.state = .qualified) →
          q.bad = 2 → p.state = .faulted ∧ p.good = 0 ∧ p.bad = 0 ∧ p.counters.faults = bump q.counters.faults ∧
            p.lastM = q.lastM) ∧
        ((reading - r < 1999998000 ∨ 2000002000 < reading - r) →
          (q.state = .qualifying → q.bad < 2 → p.state = .qualifying ∧ p.bad = q.bad + 1 ∧ p.good = 0) ∧
          (q.state = .qualified → q.bad < 2 → p.state = .qualified ∧ p.bad = q.bad + 1) ∧
          (q.state = .faulted → p.state = .faulted ∧ p.bad = min (q.bad + 1) 3 ∧ p.good = 0)) ∧
        (1999998000 ≤ reading - r → reading - r ≤ 2000002000 →
          (q.state = .qualified → p.state = .qualified ∧ p.bad = 0) ∧
          (q.state = .faulted → q.good = 7 → p.state = .qualified ∧ p.good = 0 ∧ p.bad = 0) ∧
          (q.state = .faulted → q.good < 7 → p.state = .faulted ∧ p.good = q.good + 1 ∧ p.bad = 0))))

/-- A measurement the Servo acts on steps local time or steers: GNSS, EXT and LINK, in ACQUIRING and LOCKED. After 06
R99, 06 R109, 07 R126, 07 R132, 08 R136, 08 R137, 08 R138, 08 R139, 08 R140. The advance to the pulse is the operand
(log entry 3), and what stands due is a bookkeeping of the model (log entry 1). That a pulse's qualification and its
measurement are two events is log entry 17. -/
def Obligations.LockedMeasurementSteers : Prop :=
  (∀ (s : State) (dt r : Nat), dt ≤ s.toBoundary → (s.withBase (s.timing.base.advanceBy dt)).quiet = true →
    s.timing.servo.state = .locked → s.timing.servo.selected = some .gnss → s.timing.selection = some .gnss →
    s.timing.base.gnss.state = .qualified → s.timing.base.gnss.reference = some r →
    1999998000 ≤ s.timing.base.advance + dt - r → s.timing.base.advance + dt - r ≤ 2000002000 → s.timeInv →
    let v := s.timing.servo
    let rec' := s.timing.base.record
    ∃ (t : State) (m : _), exec (.pulse .gnss dt) s = .next t ∧ t.timing.base.gnss.lastM = some m ∧
      let e := clampTo 131068 m
      let f := clampTo 2000000 (v.f + rndDiv (e * rec'.pulseKi) 256)
      t.timing.servo.f = f ∧ t.timing.base.steer = clampTo 2000000 (f + rndDiv (e * rec'.pulseKp) 256) ∧
      t.timing.servo.fHold = v.fHold + rndDiv (f - v.fHold) 16 ∧
      t.timing.servo.lastE = some (e, .gnss) ∧ t.timing.servo.counters.acted = bump v.counters.acted ∧
      t.timing.base.now = s.timing.base.now.advance dt ∧ t.timing.servo.selected = some .gnss ∧
      t.timing.servo.everLocked = v.everLocked ∧
      (e.natAbs ≤ rec'.lockWindow →
        t.timing.servo.state = .locked ∧ t.timing.servo.unlock = 0 ∧ t.timing.servo.lockedTime = v.lockedTime) ∧
      (rec'.lockWindow < e.natAbs → v.unlock + 1 < 4 →
        t.timing.servo.state = .locked ∧ t.timing.servo.unlock = v.unlock + 1 ∧
        t.timing.servo.lockedTime = v.lockedTime) ∧
      (rec'.lockWindow < e.natAbs → 4 ≤ v.unlock + 1 →
        t.timing.servo.state = .acquiring ∧ t.timing.servo.unlock = 0 ∧ t.timing.servo.lock = 0 ∧
        t.timing.servo.lockedTime = 0 ∧ t.timing.servo.counters.unlockEvents = bump v.counters.unlockEvents)) ∧
  (∀ (s : State) (i : PulseInput) (dt r : Nat), dt ≤ s.toBoundary →
    (s.withBase (s.timing.base.advanceBy dt)).quiet = true → s.timeInv →
    (s.timing.base.qualifier i).reference = some r →
    1999998000 ≤ s.timing.base.advance + dt - r → s.timing.base.advance + dt - r ≤ 2000002000 →
    ∃ (t : State) (m : Int), exec (.pulse i dt) s = .next t ∧ (t.timing.base.qualifier i).lastM = some m ∧
      let a := ({ s.timing with base := (s.timing.base.advanceBy dt).withQualifier i
                                          (t.timing.base.qualifier i) } : Timing).reselect
      (a.servo.selected = some i.source → (a.servo.state = .acquiring ∨ a.servo.state = .locked) →
        measured i.source m 0 a t.timing) ∧
      (a.servo.selected ≠ some i.source → t.timing = { a with servo := { a.servo with
        counters := { a.servo.counters with ignored := bump a.servo.counters.ignored } } })) ∧
  (∀ (s : State) (r : FrameRecord) (h : Header) (b : List Byte) (rest : List Position) (y : Transfer) (m w : Int),
    s.role = some .trailer → s.quiet = true → s.link.state = .up → h.wf = true → h.controls = [.delayResp] →
    r.positions = { bytes := h.bytes, bad := false } :: { bytes := b, bad := false } :: rest →
    (stampAt b 2).ns ≤ 999999999 →
    s.timing.xfer.takeResp (timingSeqAt b) (stampAt b 2) s.timing.base.record.asymmetry = (y, some (m, w)) →
    let a := ({ s.timing with base := { s.timing.base with markers := s.timing.base.markers.tail },
                              xfer := y } : Timing).reselect
    ∃ t : State, exec (.receivedFrameRecord r) s = .next t ∧
      (a.servo.selected = some .link → (a.servo.state = .acquiring ∨ a.servo.state = .locked) →
        measured .link m w a t.timing) ∧
      (a.servo.selected ≠ some .link → t.timing = { a with servo := { a.servo with
        counters := { a.servo.counters with ignored := bump a.servo.counters.ignored } } }))

/-- The absence of a pulse input and the expiry of LINK make the source ABSENT; the last source lost brings HOLDOVER.
After 06 R108, 06 R113, 07 R130, 08 R141, 08 R143, 08 R146. That an expiry stands due until it is taken is the model's
own bookkeeping (log entry 1), ABSENCE_EXPIRY takes local time to the expiry (log entry 3), and the last capture shown
in the status is kept at an absence (log entry 27). -/
def Obligations.LosingTheSourceEntersHoldover : Prop :=
  ∀ s : State,
    (∀ (i : PulseInput) (p : Nat), (s.timing.base.qualifier i).state ≠ .absent →
      (s.timing.base.qualifier i).lastPulse = some p → p + 3000000000 - s.timing.base.advance ≤ s.toBoundary →
      ∃ t : State, exec (.absenceExpiry i) s = .next t ∧ sameTraffic s t ∧
        t.timing.base.advance = max s.timing.base.advance (p + 3000000000) ∧
        (let q := t.timing.base.qualifier i
         q.state = .absent ∧ q.reference = none ∧ q.lastPulse = none ∧ q.lastM = none ∧ q.good = 0 ∧ q.bad = 0 ∧
          q.counters.absences = bump (s.timing.base.qualifier i).counters.absences ∧
          q.lastCapture = (s.timing.base.qualifier i).lastCapture) ∧
        (∀ j, j ≠ i → t.timing.base.qualifier j = s.timing.base.qualifier j) ∧
        (s.timing.servo.selected = some i.source → (∀ y, y ≠ i.source → s.timing.candidate y = none) →
          s.timing.servo.everLocked = true →
          t.timing.servo.state = .holdover ∧ t.timing.servo.selected = none ∧
          t.timing.base.steer = s.timing.servo.fHold ∧ t.timing.servo.f = s.timing.servo.f ∧
          t.timing.servo.elapsed = 0 ∧
          t.timing.servo.counters.holdoverEntries = bump s.timing.servo.counters.holdoverEntries ∧
          (0 < s.timing.base.record.holdoverLimit → t.timing.servo.cls = .c3))) ∧
    (∀ i : PulseInput, (s.timing.base.qualifier i).state = .absent →
      exec (.absenceExpiry i) s = .next (announce s)) ∧
    (s.timing.xfer.link.expiryDue = false → exec .linkSupervisionExpiry s = .next (announce s)) ∧
    (s.timing.xfer.link.expiryDue = true →
      ∃ t : State, exec .linkSupervisionExpiry s = .next t ∧ sameTraffic s t ∧
        t.timing.xfer.link = { s.timing.xfer.link with state := .absent, accepted := 0, previous := none,
                                                       lastM := none, expiryDue := false } ∧
        t.timing.base.now = s.timing.base.now ∧ t.timing.xfer.exchanges = s.timing.xfer.exchanges ∧
        (s.timing.servo.selected = some .link → (∀ y, y ≠ .link → s.timing.candidate y = none) →
          s.timing.servo.everLocked = true →
          t.timing.servo.state = .holdover ∧ t.timing.base.steer = s.timing.servo.fHold ∧
          t.timing.servo.f = s.timing.servo.f ∧ t.timing.servo.elapsed = 0 ∧
          (0 < s.timing.base.record.holdoverLimit → t.timing.servo.cls = .c3)))

/-- The receive marker is the capture rounded to the nearest multiple of 4 ns, halfway up, carrying into the second.
After 06 R98, 06 R103, 01 R2. The notes of the boundaries stood on, and the advance as an operand, are the model's own
(log entry 3), and so is the list of captures waiting for their records (log entry 9). -/
def Obligations.MarkerIsTheNearestFourNanoseconds : Prop :=
  ∀ (s : State) (dt : Nat), s.timeInv →
    let h := (s.timing.base.now.half + dt) % 2000000000
    let sec := s.timing.base.now.sec + BitVec.ofNat 48 ((s.timing.base.now.half + dt) / 2000000000)
    (∀ t, s.portInv → s.role = none → s.timing.base.secondHere = false → s.timing.base.toSecond < dt →
      exec .secondBoundary s = .next t →
      exec (.receiveMarkerCapture dt) s = exec (.receiveMarkerCapture (dt - s.timing.base.toSecond)) t) ∧
    (dt ≤ s.toBoundary → ∃ (t : State) (m : Stamp), exec (.receiveMarkerCapture dt) s = .next t ∧
      t.timing.base.markers = s.timing.base.markers ++ [m] ∧
      t.timing.base.now = { sec := sec, half := h } ∧ t.timing.base.advance = s.timing.base.advance + dt ∧
      m.ns % 4 = 0 ∧ m.ns < 1000000000 ∧
      ((m.sec = sec ∧ (2 * m.ns : Int) - h ≤ 4 ∧ -4 < (2 * m.ns : Int) - h) ∨
        (m.sec = sec + 1 ∧ m.ns = 0 ∧ (2000000000 : Int) - h ≤ 4)) ∧
      t.timing.base = { s.timing.base with now := t.timing.base.now, advance := t.timing.base.advance,
                                           markers := t.timing.base.markers,
                                           frameHere := t.timing.base.frameHere,
                                           secondHere := t.timing.base.secondHere } ∧
      t.timing.xfer = s.timing.xfer ∧ t.timing.servo = s.timing.servo ∧ t.role = s.role ∧ t.link = s.link ∧
      t.ladder = s.ladder ∧ t.planner = s.planner ∧ t.tenants = s.tenants ∧ t.test = s.test ∧ t.store = s.store ∧
      t.pending = s.pending)

/-- The SYNC countdown reaches 0, exchanges of 64 frames or more time out, and a frame start places the timing block
of R121 and R124. After 01 R10, 07 R118, 07 R119, 07 R121, 07 R124, 07 R126, log entry 21. That both rows act ahead of
their frame start is the model's reading. -/
def Obligations.SyncDueAndExchangeTimeout : Prop :=
  ∀ s : State,
    (s.role = some .hub → s.timing.xfer.countdown = 1 → exec .syncDue s = .next (announce (s.withTiming
      { s.timing with xfer := { s.timing.xfer with countdown := 0 } }))) ∧
    ((s.role ≠ some .hub ∨ s.timing.xfer.countdown ≠ 1) → exec .syncDue s = .next (announce s)) ∧
    (s.role = some .trailer → ∃ t : State, exec .exchangeTimeout s = .next t ∧
      (∀ e, e ∈ t.timing.xfer.exchanges ↔ e ∈ s.timing.xfer.exchanges ∧ (s.link.frameCounter - e.frame).toNat < 64) ∧
      t.timing.xfer.exchanges.Sublist s.timing.xfer.exchanges ∧
      t.timing.xfer.counters.timeouts = addCount s.timing.xfer.counters.timeouts
        (s.timing.xfer.exchanges.length - t.timing.xfer.exchanges.length) ∧
      t.timing = { s.timing with xfer := { s.timing.xfer with exchanges := t.timing.xfer.exchanges,
                                                               counters := { s.timing.xfer.counters with
                                                                 timeouts := t.timing.xfer.counters.timeouts } } } ∧
      sameTraffic s t ∧ t.tenants = s.tenants ∧ t.test = s.test ∧ t.ladder = s.ladder) ∧
    (s.role ≠ some .trailer → exec .exchangeTimeout s = .next (announce s)) ∧
    (s.timing.base.frameHere = true → s.timing.base.secondHere = false → s.quiet = true → s.role ≠ none →
      let x := s.timing.xfer
      let sent := s.timing.base.now.stamp.shift s.timing.base.record.ltx
      ∃ (t : State) (f : TxFrame), exec .frameStart s = .next t ∧ t.link.frame = some f ∧
        let y := t.timing.xfer
        (∀ r rest, s.role = some .hub → s.link.state = .up → x.responses = r :: rest →
          f.blocks[1]? = some (delayRespBytes r.seq r.t4) ∧ y.responses = rest ∧ y.syncSeq = x.syncSeq ∧
          y.countdown = x.countdown - 1 ∧ y.counters.respSent = bump x.counters.respSent) ∧
        (s.role = some .hub → x.countdown ≤ 1 → (s.link.state = .acquire ∨ (s.link.state = .up ∧ x.responses = [])) →
          f.blocks[1]? = some (syncBytes x.syncSeq sent s.timing.servo.cls) ∧ y.syncSeq = x.syncSeq + 1 ∧
          y.countdown = s.timing.base.record.timingPeriod ∧ y.responses = x.responses ∧
          y.counters.syncSent = bump x.counters.syncSent) ∧
        (s.role = some .hub → (s.link.state = .down ∨ (2 ≤ x.countdown ∧
            (s.link.state = .acquire ∨ (s.link.state = .up ∧ x.responses = [])))) →
          y.syncSeq = x.syncSeq ∧ y.countdown = x.countdown - 1 ∧ y.responses = x.responses ∧ y.counters = x.counters) ∧
        (∀ before e after, s.role = some .trailer → s.link.state ≠ .down →
          (x.exchanges.filter fun e => decide ((s.link.frameCounter - e.frame).toNat < 64)) = before ++ e :: after →
          (∀ d ∈ before, d.t3.isSome = true) → e.t3 = none →
          f.blocks[1]? = some (delayReqBytes e.seq) ∧
          y.exchanges = before ++ { e with t3 := some sent } :: after ∧
          y.counters.reqSent = bump x.counters.reqSent))

/-- A holdover aging step moves S and F by a 24th of the aging rate; the holdover limit takes the class to C4. After
08 R144, 08 R145, 08 R146. That an aging step stands due until it is taken is the model's own field (log entry 1). -/
def Obligations.HoldoverAgesAndDegrades : Prop :=
  ∀ s : State,
    (s.timing.servo.agingDue = true →
      let a := if s.store.cal.valid = true then s.store.cal.aging else 0
      let x := clampTo 2000000 (s.timing.base.steer + rndDiv a 24)
      ∃ t : State, exec .holdoverAging s = .next t ∧ t.timing.base = { s.timing.base with steer := x } ∧
        t.timing.servo.f = x ∧ t.timing.servo.fHold = s.timing.servo.fHold ∧ t.timing.servo.agingDue = false ∧
        t.timing.servo.counters.agingSteps = bump s.timing.servo.counters.agingSteps ∧
        t.timing.servo.cls = s.timing.servo.cls ∧ t.timing.servo.state = s.timing.servo.state ∧
        t.timing.servo.elapsed = s.timing.servo.elapsed ∧ t.timing.xfer = s.timing.xfer ∧ sameTraffic s t ∧
        t.tenants = s.tenants ∧ t.test = s.test ∧ t.ladder = s.ladder) ∧
    (s.timing.servo.state = .holdover → s.timing.servo.cls = .c3 →
      s.timing.base.record.holdoverLimit ≤ s.timing.servo.elapsed →
      ∃ t : State, exec .holdoverLimit s = .next t ∧
        t.timing = { s.timing with servo := { s.timing.servo with cls := .c4 } } ∧ sameTraffic s t)

/-- SET_TIMING puts a record within the ranges of R110 in force at once, and refuses any other unchanged. After 06
R110, 06 R111, 06 R112, 07 R133, 08 R146. -/
def Obligations.SetTimingTakesOrRefuses : Prop :=
  ∀ (s : State) (tag : Byte) (r : TimingRecord), s.requestFree →
    let good := (∀ n, (r.gnssLevel = some n ∨ r.extLevel = some n ∨ r.linkLevel = some n) → n ≤ 3) ∧
      r.pulseKp ≤ 65535 ∧ r.pulseKi ≤ 65535 ∧ r.linkKp ≤ 65535 ∧ r.linkKi ≤ 65535 ∧
      100 ≤ r.stepThreshold ∧ r.stepThreshold ≤ 1000000 ∧ 8 ≤ r.lockWindow ∧ r.lockWindow ≤ 10000 ∧
      60 ≤ r.holdoverLimit ∧ r.holdoverLimit ≤ 86400 ∧ 64 ≤ r.timingPeriod ∧ r.timingPeriod ≤ 4096 ∧
      r.ltx ≤ 65535 ∧ r.lrx ≤ 65535 ∧ -10000 ≤ r.asymmetry ∧ r.asymmetry ≤ 10000
    (¬ good → exec (.setTiming tag r) s = .next (s.replied 12 tag .badValue (.timingRecord s.timing.base.record))) ∧
    (good → ∃ t : State, exec (.setTiming tag r) s = .next (t.replied 12 tag .ok (.timingRecord r)) ∧
      t.timing.base.record = r ∧ t.timing.base.now = s.timing.base.now ∧ t.timing.base.gnss = s.timing.base.gnss ∧
      t.timing.base.ext = s.timing.base.ext ∧ t.timing.xfer.link = s.timing.xfer.link ∧
      t.timing.xfer.exchanges = s.timing.xfer.exchanges ∧ t.timing.xfer.responses = s.timing.xfer.responses ∧
      t.timing.xfer.countdown = (if s.role = some .hub then min s.timing.xfer.countdown r.timingPeriod
        else s.timing.xfer.countdown) ∧
      (let state : Source → SourceState
         | .gnss => s.timing.base.gnss.state
         | .ext => s.timing.base.ext.state
         | .link => s.timing.xfer.link.state
       let level : Source → Option Nat
         | .gnss => r.gnssLevel
         | .ext => r.extLevel
         | .link => r.linkLevel
       let rank : Source → Nat
         | .gnss => 0
         | .ext => 1
         | .link => 2
       let v := t.timing.servo
       (∀ x, v.selected = some x ↔ state x = .qualified ∧ ∃ l, level x = some l ∧
         ∀ y k, y ≠ x → state y = .qualified → level y = some k → l < k ∨ (l = k ∧ rank x < rank y)) ∧
       (v.state = .locked → v.selected ≠ some .link → v.cls = .c1) ∧
       (∀ c, v.state = .locked → v.selected = some .link → s.timing.xfer.link.hubClass = some c →
         v.cls.num = min (c.num + 1) 5) ∧
       (v.state = .holdover → v.cls = if v.elapsed < r.holdoverLimit then .c3 else .c4) ∧
       (v.state = .acquiring → v.cls = if v.everLocked = true then .c4 else .c5) ∧
       (v.state = .freerun → v.cls = .c5)) ∧
      t.timing.servo.fHold = s.timing.servo.fHold ∧ t.timing.servo.f = s.timing.servo.f ∧ sameTraffic s t)

/-- TIME_SET becomes pending and moves no time; it is refused at a TRAILER while LINK is selected. After 06 R101. The
empty body of the WRONG_STATE reply is the model's reading (log entry 31). -/
def Obligations.TimeSetWaitsForTheBoundary : Prop :=
  ∀ (s : State) (tag : Byte) (sec : BitVec 48), s.requestFree →
    (s.role = some .trailer ∧ s.timing.servo.selected = some .link →
      exec (.timeSet tag sec) s = .next (s.replied 13 tag .wrongState .empty)) ∧
    (¬ (s.role = some .trailer ∧ s.timing.servo.selected = some .link) →
      exec (.timeSet tag sec) s = .next ((s.withTiming
        { s.timing with base := { s.timing.base with pendingSet := some sec } }).replied 13 tag .ok
          (.timeSet sec s.timing.base.now)))

/-- TIMING_RESTART clears the ever-locked mark and goes to ACQUIRING with a source, FREERUN without, at class C5.
After 08 R147, 08 R146. On a free line the reply begins and a notice that the request raised stays pending behind it:
R172 leaves the order of the two open, and the model takes the reply first (log entry 8). That an aging step standing
due is dropped is the model's choice (log entry 43). -/
def Obligations.TimingRestartClearsTheMark : Prop :=
  ∀ (s : State) (tag : Byte), s.requestFree →
    let v := s.timing.servo
    let st : TimingState := if v.selected.isSome = true then .acquiring else .freerun
    ∃ t : State, exec (.timingRestart tag) s = .next (t.replied 14 tag .ok (.restarted st v.selected .c5)) ∧
      t.timing.base = s.timing.base ∧ t.timing.xfer = s.timing.xfer ∧
      t.timing.servo = { v with state := st, everLocked := false, lock := 0, unlock := 0, lockedTime := 0, elapsed := 0,
                                cls := .c5, agingDue := false } ∧
      sameTraffic s t ∧
      ∃ (c : _) (merge : Nat), t.port.slots.timing = some { content := .timing c, merge := merge } ∧ c.cause = .restart

/-- A completed exchange recovers offset and delay and moves the LINK source by R132; SYNCs and frame starts move it
by R130. After 07 R127, 07 R128, 07 R129, 07 R130, 07 R131, 07 R132. That an expiry stands due until it is taken is
the model's own bookkeeping (log entry 1). -/
def Obligations.ExchangeRecoversTheOffset : Prop :=
  (∀ (x : Transfer) (t1 t3 : Stamp) (offset up down w asym : Int), t1.ns < 1000000000 → t3.ns < 1000000000 →
    1 ≤ (t1.sec.toNat : Int) + w → (t1.sec.toNat : Int) + w ≤ 281474976710654 →
    1 ≤ (t3.sec.toNat : Int) - w → (t3.sec.toNat : Int) - w ≤ 281474976710654 →
    -1000000 ≤ down + offset → down + offset ≤ 1000000 → -1000000 ≤ up - offset → up - offset ≤ 1000000 →
    let y := x.complete t1 (t1.shift (down + offset + w * 1000000000)) t3 (t3.shift (up - offset - w * 1000000000)) asym
    let o := (down - up + 2 * offset) / 2 - asym
    let d := (down + up) / 2
    y.1.counters.completed = bump x.counters.completed ∧ y.1.counters.rejected = x.counters.rejected ∧
    y.1.link.result = some { o := o, d := d, a := down + offset, b := up - offset } ∧
    y.1.exchanges = x.exchanges ∧ y.1.responses = x.responses ∧
    (∀ m k, y.2 = some (m, k) → k = w ∧ m % 4 = 0 ∧ (m + o).natAbs ≤ 2 ∧ x.link.state ≠ .absent ∧
      y.1.link.lastM = some (m, k) ∧ y.1.link.previous = some d) ∧
    (up = down → asym = 0 → o = offset ∧ d = down)) ∧
  (∀ (x : Transfer) (t1 t2 t3 t4 : Stamp) (asym a b : Int), -499999999 ≤ a → a ≤ 500000000 → -499999999 ≤ b →
    b ≤ 500000000 → (t2.diff t1 - a) % 1000000000 = 0 → (t4.diff t3 - b) % 1000000000 = 0 →
    let l := x.link
    let y := x.complete t1 t2 t3 t4 asym
    let c := x.counters
    let accepted := a.natAbs ≤ 1000000 ∧ b.natAbs ≤ 1000000
    let d := (a + b) / 2
    let r : LinkResult := { o := (a - b) / 2 - asym, d := d, a := a, b := b }
    let jump := ∃ p, l.previous = some p ∧ 200 < (d - p).natAbs
    y.1.exchanges = x.exchanges ∧ y.1.responses = x.responses ∧
    (¬ accepted → y.2 = none ∧
      y.1.counters = { c with completed := bump c.completed, rejected := bump c.rejected } ∧
      (l.state = .qualifying → y.1.link = { l with accepted := 0, previous := none }) ∧
      (l.state ≠ .qualifying → y.1.link = l)) ∧
    (accepted → l.state = .absent → y.2 = none ∧ y.1.link = { l with result := some r } ∧
      y.1.counters = { c with completed := bump c.completed }) ∧
    (accepted → l.state ≠ .absent → jump → y.2 = none ∧
      y.1.counters = { c with completed := bump c.completed, delayJumps := bump c.delayJumps } ∧
      y.1.link = { l with state := .qualifying, accepted := 1, previous := some d, since := 0, expiryDue := false,
                          result := some r }) ∧
    (accepted → l.state ≠ .absent → ¬ jump → (l.state = .qualified → l.previous.isSome = true) →
      ∃ m w : Int, y.2 = some (m, w) ∧ t2.diff t1 = a + w * 1000000000 ∧ m % 4 = 0 ∧ (m + r.o).natAbs ≤ 2 ∧
        ((m + r.o).natAbs = 2 → r.o.natAbs < m.natAbs) ∧
        y.1.counters = { c with completed := bump c.completed } ∧
        let l1 := { l with previous := some d, since := 0, expiryDue := false, result := some r, lastM := some (m, w) }
        (l.state = .qualified → y.1.link = l1) ∧
        (l.state = .qualifying → l.previous = none → y.1.link = { l1 with accepted := 1 }) ∧
        (l.state = .qualifying → l.previous.isSome = true → l.accepted < 3 →
          y.1.link = { l1 with accepted := l.accepted + 1 }) ∧
        (l.state = .qualifying → l.previous.isSome = true → 3 ≤ l.accepted →
          y.1.link = { l1 with state := .qualified, accepted := 0 }))) ∧
  (∀ (s : State) (r : FrameRecord) (h : Header) (k : ControlKind) (b : List Byte) (rest : List Position),
    s.role = some .trailer → s.quiet = true → h.wf = true → h.controls = [k] →
    r.positions = { bytes := h.bytes, bad := false } :: { bytes := b, bad := false } :: rest →
    (stampAt b 2).ns ≤ 999999999 →
    let x := s.timing.xfer
    let becomesUp := s.link.state = .acquire ∧ 16 ≤ s.link.good + 1
    let wakes := becomesUp ∧ x.link.state = .absent ∧ ∀ c, x.link.hubClass = some c → c.num ≤ 3
    let fresh (l : LinkSource) : LinkSource :=
      { l with state := .qualifying, accepted := 0, previous := none, since := 0, expiryDue := false }
    ∃ t : State, exec (.receivedFrameRecord r) s = .next t ∧
      let z := t.timing.xfer
      let judged (l : LinkSource) : Prop :=
        (∀ e t3, k = .delayResp → (x.exchanges.find? fun e => e.seq == timingSeqAt b && e.t3.isSome) = some e →
          e.t3 = some t3 →
          let y := ({ x with link := l, exchanges := x.exchanges.filter fun e => e.seq != timingSeqAt b } :
            Transfer).complete e.t1 e.t2 t3 (stampAt b 2) s.timing.base.record.asymmetry
          z.link = y.1.link ∧ z.counters.completed = y.1.counters.completed ∧
          z.counters.rejected = y.1.counters.rejected ∧ z.counters.delayJumps = y.1.counters.delayJumps) ∧
        (k = .delayResp → (∀ e ∈ x.exchanges, e.seq = timingSeqAt b → e.t3 = none) → z.link = l) ∧
        (k = .sync →
          let c := hubClassAt b
          let l1 := { l with hubClass := some c }
          (c.num ≤ 3 → l.state = .absent → (s.link.state = .up ∨ becomesUp) → z.link = fresh l1) ∧
          (c.num ≤ 3 → (l.state ≠ .absent ∨ ¬ (s.link.state = .up ∨ becomesUp)) → z.link = l1) ∧
          (3 < c.num → l.state = .absent → z.link = l1) ∧
          (3 < c.num → l.state ≠ .absent → z.link =
            { l1 with state := .absent, accepted := 0, previous := none, lastM := none, expiryDue := false }) ∧
          z.counters.disqualified = if 3 < c.num ∧ l.state ≠ .absent then bump x.counters.disqualified
            else x.counters.disqualified)
      (wakes → judged (fresh x.link)) ∧ (¬ wakes → judged x.link)) ∧
  (∀ s : State, s.timing.base.frameHere = true → s.timing.base.secondHere = false → s.quiet = true →
    let l := s.timing.xfer.link
    ∃ t : State, exec .frameStart s = .next t ∧
      (s.role = some .trailer → l.state ≠ .absent → t.timing.xfer.link = { l with
        since := l.since + 1, expiryDue := decide (8 * s.timing.base.record.timingPeriod ≤ l.since + 1) }) ∧
      (s.role ≠ some .trailer ∨ l.state = .absent → t.timing.xfer.link = l))

/-- TEST_START meets its three checks in order, takes the next run id, and starts step 0. After 03 R50, 09 R154, 09
R155, 09 R156, 09 R158, 09 R160, 09 R161. That a count out of range names no entry, whether or not an entry is empty,
is the model's choice (log entry 44). The empty body of the WRONG_STATE reply while RUNNING is the model's reading
(log entry 31). -/
def Obligations.TestStartChecksInOrder : Prop :=
  ∀ (s : State) (tag : Byte) (n : Nat) (flag : Bool), s.requestFree →
    let full := ∀ i, i < n → (s.test.steps.toList.getD i none).isSome = true
    let served := Tenant.all.filter fun x => (s.tenant x).state == .active || (s.tenant x).state == .draining
    (s.test.runState = .running → exec (.testStart tag n flag) s = .next (s.replied 17 tag .wrongState .empty)) ∧
    (s.test.runState ≠ .running → (n = 0 ∨ 16 < n) →
      exec (.testStart tag n flag) s = .next (s.replied 17 tag .badValue (.firstEmpty none))) ∧
    (∀ i, s.test.runState ≠ .running → 1 ≤ n → n ≤ 16 → i < n → s.test.steps.toList.getD i none = none →
      (∀ k, k < i → (s.test.steps.toList.getD k none).isSome = true) →
      exec (.testStart tag n flag) s = .next (s.replied 17 tag .badValue (.firstEmpty (some i)))) ∧
    (s.test.runState ≠ .running → 1 ≤ n → n ≤ 16 → full → flag = true → served ≠ [] →
      exec (.testStart tag n flag) s = .next (s.replied 17 tag .wrongState (.tenants served))) ∧
    (s.test.runState ≠ .running → 1 ≤ n → n ≤ 16 → full → (flag = false ∨ served = []) →
      ∃ t : State, exec (.testStart tag n flag) s = .next (t.replied 17 tag .ok (.runId (s.test.runId + 1))) ∧
        t.test.runId = s.test.runId + 1 ∧ t.test.count = n ∧ t.test.flag = flag ∧ t.test.steps = s.test.steps ∧
        t.test.patterns = s.test.patterns ∧ t.test.counters.runs = bump s.test.counters.runs ∧
        t.role = s.role ∧ t.link = s.link ∧ t.planner = s.planner ∧ t.timing = s.timing ∧ t.store = s.store ∧
        t.pending = s.pending ∧
        (∀ cond timeout m, s.test.steps.toList.getD 0 none = some { body := .wait cond timeout, mandatory := m } →
          s.holds cond = false →
          t.test.runState = .running ∧ t.test.results = [] ∧ t.test.acceptance = s.test.acceptance ∧
          t.tenants = s.tenants ∧ t.ladder = s.ladder ∧
          ∃ w, t.test.work = some w ∧ w.index = 0 ∧ w.step.body = .wait cond timeout ∧ w.phase = .waiting ∧
            w.deadline = timeout ∧ w.waited = 0) ∧
        (∀ e, s.test.steps.toList.getD 0 none = some e →
          (∀ v r, startRefused e s = some (v, r) →
            stepEnded (Working.fresh 0 e (s.test.patterns.at 0)) v r
              (s.withTest { s.test with results := [], flag := flag }) t) ∧
          (startRefused e s = none → (∀ x k packets length errorLimit missLimit,
              e.body = .tenantPath x k packets length errorLimit missLimit → 64 ≤ length) →
            stepBegun 0 e s t ∧ t.test.results = [] ∧ t.test.acceptance = s.test.acceptance)))

/-- TEST_ABORT logs the current step ABORTED and every later one SKIPPED; ACCEPT_WAIVE sets WAIVED. After 09 R159, 09
R165, 09 R167, 02 R31. On a free line the reply begins and a notice that the request raised stays pending behind it:
R172 leaves the order of the two open, and the model takes the reply first (log entry 8). Both replies have an empty
body, for which R165 and R167 name no content (log entry 31). -/
def Obligations.AbortAndWaive : Prop :=
  ∀ (s : State) (tag : Byte), s.requestFree →
    (s.test.runState ≠ .running → exec (.testAbort tag) s = .next (s.replied 18 tag .wrongState .empty)) ∧
    (∀ w, s.test.runState = .running → s.test.work = some w →
      ∃ (t : State) (later : List ResultRecord), exec (.testAbort tag) s = .next (t.replied 18 tag .ok .empty) ∧
        t.test.runState = .done ∧ t.test.work = none ∧ t.test.acceptance = s.test.acceptance ∧
        t.test.results = s.test.results ++ w.record .aborted .abortRequest :: later ∧
        (∀ x ∈ later, x.verdict = .skipped ∧ x.reason = .runAborted) ∧
        ((∀ i, i < s.test.count → (s.test.steps.toList.getD i none).isSome = true) →
          later.map ResultRecord.index = (List.range s.test.count).drop (w.index + 1)) ∧
        t.ladder = { s.ladder with forced := if w.step.body.forces.isSome = true then none else s.ladder.forced } ∧
        (∀ x pattern packets length errorLimit missLimit,
          w.step.body = .tenantPath x pattern packets length errorLimit missLimit → w.phase = .active →
          (t.tenant x).queue = (s.tenant x).queue.filter (fun e => !(e.origin == .test && e.run == some s.test.runId &&
            e.step == some w.index && e.sent == 0)) ∧
          t.test.counters.entriesRemoved = addCount s.test.counters.entriesRemoved
            ((s.tenant x).queue.length - (t.tenant x).queue.length)) ∧
        t.role = s.role ∧ t.link = s.link ∧ t.planner = s.planner ∧ t.timing = s.timing ∧ t.store = s.store ∧
        t.pending = s.pending ∧ ∀ x, (t.tenant x).egress = (s.tenant x).egress ∧ (t.tenant x).record = (s.tenant x).record) ∧
    (s.test.runState = .running ∧ s.test.flag = true →
      exec (.acceptWaive tag) s = .next (s.replied 20 tag .wrongState .empty)) ∧
    (¬ (s.test.runState = .running ∧ s.test.flag = true) →
      ∃ t : State, exec (.acceptWaive tag) s = .next (t.replied 20 tag .ok .empty) ∧
        t = { s with test := { s.test with acceptance := .waived }, port := { s.port with slots := t.port.slots } } ∧
        ∃ (c : _) (merge : Nat), t.port.slots.test = some { content := .test c, merge := merge } ∧ c.cause = .waived ∧
          c.acceptance = .waived)

/-- The phases of a step pass and end, its counts are taken, and the next step starts, as R155 to R161 say. After 03
R49, 03 R50, 03 R51, 09 R155, 09 R156, 09 R157, 09 R158, 09 R159, 09 R160, 09 R161. That a phase that is over stands
due until it is taken is the model's own bookkeeping (log entry 1). That a boundary stood on waits for its frame is
log entry 3, that a removal ahead of the frame counts as a change of occupancy log entry 21, and that GNSS
measurements reach the Servo first log entry 45. -/
def Obligations.StepPhasesEnd : Prop :=
  ∀ (s : State) (w : Working), s.test.runState = .running → s.test.work = some w →
    (∀ profile pattern blocks mode lead active tail errorLimit missLimit,
      w.step.body = .linkPattern profile pattern blocks mode lead active tail errorLimit missLimit → w.remaining = 0 →
      (w.phase = .lead → exec .leadEnd s = .next (announce (s.withTest
        { s.test with work := some { w with phase := .active, remaining := active } }))) ∧
      (w.phase = .active → exec .activeEnd s = .next (announce (s.withTest
        { s.test with work := some { w with phase := .tail, remaining := tail } }))) ∧
      (∀ r, w.phase = .tail → w.report = some r → ∃ t : State, exec .tailEnd s = .next t ∧
        (w.blocksSent ≤ r.blocks + missLimit → r.erroredBlocks ≤ errorLimit → stepEnded w .pass .none s t) ∧
        ((r.blocks + missLimit < w.blocksSent ∨ errorLimit < r.erroredBlocks) →
          stepEnded w .fail .limitExceeded s t))) ∧
    (∀ x pattern packets length errorLimit missLimit r,
      w.step.body = .tenantPath x pattern packets length errorLimit missLimit → w.remaining = 0 → w.phase = .tail →
      w.report = some r → ∃ t : State, exec .tailEnd s = .next t ∧
        (w.sent ≤ r.packets + missLimit → r.erroredPackets ≤ errorLimit → stepEnded w .pass .none s t) ∧
        ((r.packets + missLimit < w.sent ∨ errorLimit < r.erroredPackets) → stepEnded w .fail .limitExceeded s t)) ∧
    (w.remaining = 0 → w.phase = .tail → w.report = none → exec .tailEnd s = .next (announce (s.withTest
      { s.test with work := some { w with phase := .awaitReport, remaining := 256 } }))) ∧
    (w.remaining = 0 → w.phase = .awaitReport →
      ∃ t : State, exec .reportWaitExpiry s = .next t ∧ stepEnded w .fail .noReport s t ∧ t.link = s.link ∧
        t.timing = s.timing) ∧
    (∀ cond limit, w.step.body = .wait cond limit → w.phase = .waiting → w.deadline = 0 →
      ∃ t : State, exec .waitTimeout s = .next t ∧ stepEnded w .fail .timeout s t ∧ t.link = s.link ∧ t.timing = s.timing) ∧
    (∀ samples limit, w.step.body = .timingCross samples limit → w.phase = .waiting → w.deadline = 0 →
      ∃ t : State, exec .timingCrossTimeout s = .next t ∧ stepEnded w .fail .timeout s t ∧ t.link = s.link ∧
        t.timing = s.timing) ∧
    (∀ cond limit e, w.step.body = .wait cond limit → w.phase = .waiting → w.deadline = 0 → w.step.mandatory = false →
      w.index + 1 < s.test.count → s.test.steps.toList.getD (w.index + 1) none = some e → startRefused e s = none →
      (∀ x k packets length errorLimit missLimit,
        e.body = .tenantPath x k packets length errorLimit missLimit → 64 ≤ length) →
      ∃ t : State, exec .waitTimeout s = .next t ∧ stepBegun (w.index + 1) e s t) ∧
    (s.role ≠ none → s.timing.base.frameHere = true → s.timing.base.secondHere = false → s.quiet = true →
      let r := reachFrame s
      let p := r.plan.1
      let profile := if s.link.state = .up then min s.link.farReq s.ladder.record.cap else 0
      (∀ forced pattern blocks mode lead active tail errorLimit missLimit,
        w.step.body = .linkPattern forced pattern blocks mode lead active tail errorLimit missLimit →
        ∃ t : State, exec .frameStart s = .next t ∧ t.test.work = some { w with
          remaining := w.remaining - 1,
          blocksSent := if w.phase = .active then w.blocksSent + p.testBlocks else w.blocksSent,
          lowest := if w.phase = .active then some (min profile (w.lowest.getD profile)) else w.lowest }) ∧
      (∀ x pattern packets length errorLimit missLimit,
        w.step.body = .tenantPath x pattern packets length errorLimit missLimit → 64 ≤ length →
        let g := r.given p
        let count (es : List Entry) : Nat :=
          (es.filter fun e => e.origin == .test && e.run == some s.test.runId && e.step == some w.index).length
        let w1 := { w with remaining := w.remaining - 1,
                           sent := w.sent + (count (g.get .t0).given.left + count (g.get .t1).given.left +
                             count (g.get .t2).given.left + count (g.get .t3).given.left),
                           aged := w.aged + (count (g.get .t0).removed + count (g.get .t1).removed +
                             count (g.get .t2).removed + count (g.get .t3).removed) }
        let q := (g.get x).given.queue
        let u := s.tenant x
        let load := occupancy q
        let pause := if u.state = .pending ∨ u.state = .active then
            if u.record.ingressHalt ≤ load then true else if load ≤ u.record.ingressResume then false else u.paused
          else if u.state = .draining ∧ q = [] then false else u.paused
        let u1 := { u with queue := q, paused := pause, ingress := { u.ingress with
          pauses := if pause = true ∧ u.paused = false then bump u.ingress.pauses else u.ingress.pauses } }
        let moved := (s.tenant x).agedEarly = true ∨ occupancy q ≠ occupancy (s.tenant x).queue
        ∃ t w2 n, exec .frameStart s = .next t ∧
          (w.phase = .active → moved → injected (s.link.frameCounter + 1) s.test.runId packets length u1 (t.tenant x) w1 w2 n) ∧
          (w.phase ≠ .active ∨ ¬ moved → w2 = w1 ∧ (t.tenant x).queue = q) ∧
          (w.phase = .active → w2.made = packets → w2.sent + w2.aged = w2.made →
            t.test.work = some { w2 with phase := .tail, remaining := 4 }) ∧
          (w.phase ≠ .active ∨ w2.made ≠ packets ∨ w2.sent + w2.aged ≠ w2.made → t.test.work = some w2))) ∧
    (∀ samples limit dt r l whole, w.step.body = .timingCross samples limit → dt ≤ s.toBoundary →
      (s.withBase (s.timing.base.advanceBy dt)).quiet = true → s.timeInv → s.timing.base.gnss.reference = some r →
      1999998000 ≤ s.timing.base.advance + dt - r → s.timing.base.advance + dt - r ≤ 2000002000 →
      s.timing.sourceState .gnss = .qualified → s.timing.sourceState .link = .qualified →
      s.timing.xfer.link.lastM = some (l, whole) →
      ∃ t m, exec (.pulse .gnss dt) s = .next t ∧ t.timing.base.gnss.lastM = some m ∧
        let w1 := { w with samples := w.samples + 1, sum := w.sum + (m - l) }
        (w.samples + 1 < samples → t.test.work = some w1 ∧ t.test.results = s.test.results) ∧
        (samples ≤ w.samples + 1 → -(limit : Int) ≤ rndDiv w1.sum w1.samples → rndDiv w1.sum w1.samples ≤ limit →
          stepEnded w1 .pass .none s t) ∧
        (samples ≤ w.samples + 1 → (rndDiv w1.sum w1.samples < -(limit : Int) ∨ limit < rndDiv w1.sum w1.samples) →
          stepEnded w1 .fail .limitExceeded s t))

/-- SET_PATTERN and SET_STEP replace one entry between runs and are refused during one. After 09 R151, 09 R153. R151
and R153 name two refusals each without an order: that BAD_VALUE comes before WRONG_STATE for SET_PATTERN and after it
for SET_STEP is the model's reading (log entry 25). The empty bodies of the BAD_VALUE and WRONG_STATE replies are the
model's reading (log entry 31). -/
def Obligations.TestTablesAreSet : Prop :=
  ∀ (s : State) (tag : Byte), s.requestFree →
    (∀ (i : Nat) (p : Pattern),
      let good := i ≤ 3 ∧ (p.bars = 1 ∨ p.bars = 2 ∨ p.bars = 4 ∨ p.bars = 8) ∧ 1 ≤ p.barSize ∧ p.barSize ≤ 96 ∧
        1 ≤ p.repeatSize ∧ p.repeatSize ≤ 12 ∧ p.fill.length = 16
      (¬ good → exec (.setPattern tag i (some p)) s = .next (s.replied 15 tag .badValue .empty)) ∧
      exec (.setPattern tag i none) s = .next (s.replied 15 tag .badValue .empty) ∧
      (good → s.test.runState = .running →
        exec (.setPattern tag i (some p)) s = .next (s.replied 15 tag .wrongState .empty)) ∧
      (good → s.test.runState ≠ .running → exec (.setPattern tag i (some p)) s =
        .next ((s.withTest { s.test with patterns := s.test.patterns.put i p }).replied 15 tag .ok (.pattern p)))) ∧
    (∀ (i : Nat) (a : StepArg), s.test.runState = .running →
      exec (.setStep tag i a) s = .next (s.replied 16 tag .wrongState .empty)) ∧
    (∀ (i : Nat) (a : StepArg), s.test.runState ≠ .running → (15 < i ∨ a = .unspelled) →
      exec (.setStep tag i a) s = .next (s.replied 16 tag .badValue .empty)) ∧
    (∀ i : Fin 16, s.test.runState ≠ .running →
      exec (.setStep tag i.val .empty) s = .next ((s.withTest
        { s.test with steps := s.test.steps.set i.val none }).replied 16 tag .ok (.stepEntry none))) ∧
    (∀ (i : Fin 16) (b : StepBody) (m : Bool), s.test.runState ≠ .running →
      let good : Prop := match b with
        | .linkPattern profile k n _ lead active tail e miss => (∀ p, profile = some p → p ≤ 7) ∧ k ≤ 3 ∧ 1 ≤ n ∧
            lead ≤ 65535 ∧ 1 ≤ active ∧ active ≤ 65535 ∧ 4 ≤ tail ∧ tail ≤ 65535 ∧ e ≤ 4294967295 ∧ miss ≤ 4294967295
        | .tenantPath _ k packets length e miss => k ≤ 3 ∧ 1 ≤ packets ∧ packets ≤ 65535 ∧ 64 ≤ length ∧
            length ≤ 1536 ∧ e ≤ 65535 ∧ miss ≤ 65535
        | .timingCross samples limit => 4 ≤ samples ∧ samples ≤ 3600 ∧ limit ≤ 1000000
        | .wait _ timeout => 1 ≤ timeout ∧ timeout ≤ 3600
      let taken : StepBody := match b with
        | .linkPattern profile k n mode lead active tail e miss =>
            .linkPattern profile k (if 64 < n then 64 else n) mode lead active tail e miss
        | .tenantPath x k packets length e miss => .tenantPath x k packets length e miss
        | .timingCross samples limit => .timingCross samples limit
        | .wait cond timeout => .wait cond timeout
      (¬ good → exec (.setStep tag i.val (.step { body := b, mandatory := m })) s =
        .next (s.replied 16 tag .badValue .empty)) ∧
      (good → exec (.setStep tag i.val (.step { body := b, mandatory := m })) s = .next ((s.withTest
        { s.test with steps := s.test.steps.set i.val (some { body := taken, mandatory := m }) }).replied 16 tag
          (if taken = b then .ok else .adjusted) (.stepEntry (some { body := taken, mandatory := m })))))

/-- The bytes of a management frame are the request they spell; noise is counted and changes nothing else. After 10.1
R169, 10.2 R171, 10 R175, 11.1. That GAP_EXPIRY in HUNT has no effect is the model's reading (log entry 1). -/
def Obligations.FrameOnTheLineIsTheRequest : Prop :=
  ∀ (s : State) (tag : Byte),
    (s.port.rx = none →
      exec (.managementFrame (managementBytes 1 tag [])) s = exec (.getId tag) s ∧
      exec (.managementFrame (managementBytes 14 tag [])) s = exec (.timingRestart tag) s ∧
      exec (.managementFrame (managementBytes 18 tag [])) s = exec (.testAbort tag) s ∧
      exec (.managementFrame (managementBytes 19 tag [])) s = exec (.getResults tag) s ∧
      exec (.managementFrame (managementBytes 20 tag [])) s = exec (.acceptWaive tag) s ∧
      (∀ (kind : Byte) (body : List Byte), (kind.toNat = 0 ∨ 25 < kind.toNat) → body.length ≤ 512 →
        exec (.managementFrame (managementBytes kind tag body)) s = exec (.unknownKind tag kind) s) ∧
      (s.requestFree → exec (.managementFrame (managementBytes 1 tag [])) s =
        .next (s.replied 1 tag .ok (.identity "SATHELON UGMIRA TS46" 1 s.port.lastCause))) ∧
      (∀ (kind : Byte) (body : List Byte), kind ∈ [1, 14, 18, 19, 20] → body ≠ [] → body.length ≤ 512 → s.requestFree →
        exec (.managementFrame (managementBytes kind tag body)) s =
          .next (s.replied kind.toNat tag .badLength .empty)) ∧
      (∀ (kind : Byte) (body : List Byte) (check : BitVec 16), body.length ≤ 512 →
        let covered := numBytes 2 (2 + body.length) ++ [kind, tag] ++ body
        check ≠ crc16 covered → exec (.managementFrame (0x5A :: covered ++ numBytes 2 check.toNat)) s =
          .next (announce (s.withPort
            { s.port with counters := { s.port.counters with check := bump s.port.counters.check } }))) ∧
      (∀ n : Nat, n < 2 ∨ (514 < n ∧ n < 65536) → exec (.managementFrame (0x5A :: numBytes 2 n)) s =
        .next (announce (s.withPort
          { s.port with counters := { s.port.counters with length := bump s.port.counters.length } }))) ∧
      (∀ b : Byte, b ≠ 0x5A → exec (.strayByte b) s = .next (announce (s.withPort
        { s.port with counters := { s.port.counters with stray := bump s.port.counters.stray } }))) ∧
      exec .gapExpiry s = .next (announce s)) ∧
    (∀ l, s.port.rx = some l → exec .gapExpiry s = .next (announce (s.withPort
      { s.port with rx := none, counters := { s.port.counters with gap := bump s.port.counters.gap } })))

/-- At the end of a frame a waiting reply goes first, else the highest pending notice; the end of a RESET's reply is
its reset. After 10.2 R170, 10.3 R172, 10.3 R173, 10.4 R174. That the reset row and the end of the reply's frame name
one moment is the model's reading (log entry 10). -/
def Obligations.LineSendsReplyThenHighestNotice : Prop :=
  (∀ (s : State) (f : LineFrame), s.port.line = some f → s.port.buffer = [] →
    (∀ r, s.port.reply = some r →
      exec .outgoingFrameEnd s = .next (s.withPort { s.port with line := some (.reply r), reply := none })) ∧
    (s.port.reply = none → s.port.resetPending = none → (∀ k, s.port.slots.get k = none) →
      exec .outgoingFrameEnd s = .next (s.withPort { s.port with line := none })) ∧
    (∀ before k later n, s.port.reply = none → s.port.resetPending = none →
      [NoticeKind.boot, .link, .timing, .tenant .t0, .tenant .t1, .tenant .t2, .tenant .t3, .test, .store, .profile] =
        before ++ k :: later →
      (∀ j ∈ before, s.port.slots.get j = none) → s.port.slots.get k = some n →
      ∃ t : State, exec .outgoingFrameEnd s = .next t ∧ t.port.line = some (.notice k n.content n.merge) ∧
        t.port.slots.get k = none ∧ (∀ j, j ≠ k → t.port.slots.get j = s.port.slots.get j) ∧
        t = s.withPort { s.port with line := t.port.line, slots := t.port.slots })) ∧
  (∀ (s : State) (f : LineFrame), s.port.line = some f →
    (s.port.reply = none → s.port.resetPending = some .full →
      exec .outgoingFrameEnd s = exec .commandFullReset s ∧ exec .commandWarmReset s = .next s) ∧
    (s.port.reply = none → s.port.resetPending = some .warm →
      exec .outgoingFrameEnd s = exec .commandWarmReset s ∧ exec .commandFullReset s = .next s) ∧
    ((s.port.reply.isSome = true ∨ s.port.resetPending = none) →
      exec .commandFullReset s = .next s ∧ exec .commandWarmReset s = .next s)) ∧
  (∀ (s : State) (f : LineFrame) (r : Reply) (b : Buffered) (rest : List Buffered),
    s.port.line = some f → s.port.reply = some r → s.port.buffer = b :: rest →
    let begun := s.withPort { s.port with line := some (.reply r), reply := none, buffer := [] }
    (s.port.resetPending ≠ none →
      exec .outgoingFrameEnd s = .next (s.withPort { s.port with line := some (.reply r), reply := none })) ∧
    (s.port.resetPending = none →
      ∃ t : State, exec .outgoingFrameEnd s = .next t ∧ t.port.line = some (.reply r) ∧ t.port.buffer = rest ∧
        (∃ st body, t.port.reply = some { kind := b.kind, tag := b.tag, status := st, body := body }) ∧
        (b.what = .unknownKind → exec (.unknownKind b.tag b.kind) begun =
          .next (t.withPort { t.port with buffer := [] })) ∧
        (∀ index, b.kind = 9 → b.what = .request (.tenantDrain index) → exec (.tenantDrain b.tag index) begun =
          .next (t.withPort { t.port with buffer := [] })) ∧
        (∀ role, b.kind = 2 → b.what = .request (.setRole role) → exec (.setRole b.tag role) begun =
          .next (t.withPort { t.port with buffer := [] })) ∧
        (∀ o, b.kind = 3 → b.what = .request (.reset (some o)) →
          t.port.resetPending = some o ∧ (o = .full → exec (.resetFull b.tag) begun =
            .next (t.withPort { t.port with buffer := [] })) ∧
          (o = .warm → exec (.resetWarm b.tag) begun = .next (t.withPort { t.port with buffer := [] }))) ∧
        (∀ slot, b.kind = 22 → b.what = .request (.storeLoad slot) → exec (.storeLoad b.tag slot) begun =
          .next (t.withPort { t.port with buffer := [] })) ∧
        (∀ sec, b.kind = 13 → b.what = .request (.timeSet sec) → exec (.timeSet b.tag sec) begun =
          .next (t.withPort { t.port with buffer := [] }))))

/-- A request that arrives while a reply waits or after a RESET answered OK is buffered behind at most one other, or
discarded and counted. After 10.2 R170, 10.2 R171, 10.4 R174. -/
def Obligations.RequestsWaitInArrivalOrder : Prop :=
  ∀ (s : State),
    (∀ (c : Instr) (tag : Byte) (r : Request) (f : LineFrame), c.request? = some (tag, r) →
      s.port.line = some f → (s.port.reply.isSome = true ∨ s.port.resetPending.isSome = true) →
      exec c s = .next (s.withPort
        (if s.port.buffer.length < 2 then
          { s.port with buffer := s.port.buffer ++ [{ kind := BitVec.ofNat 8 r.kind, tag := tag, what := .request r }] }
         else { s.port with counters := { s.port.counters with full := bump s.port.counters.full } }))) ∧
    (∀ (tag kind : Byte), s.requestFree →
      exec (.unknownKind tag kind) s = .next (s.replied kind.toNat tag .unknownKind .empty))

/-- GET_STATUS, GET_RESULTS and GET_COUNTERS answer with what stands and change nothing but cleared counters. After 01
R22, 02 R36, 03 R56, 03 R57, 05 R96, 06 R116, 08 R149, 09 R166, 10.1 R169, 10.5 R182. The model's readings are: the
line counters in a refused GET_STATUS (log entry 30), the empty body of a refused GET_COUNTERS (log entry 31), the
calibration slot shown while it is not valid (log entry 47), and the moments at which the hold input is sampled (log
entry 42). -/
def Obligations.ReadsAnswerAndChangeNothing : Prop :=
  ∀ (s : State) (tag : Byte), s.requestFree →
    (∃ r, exec (.getStatusLink tag) s = .next (s.replied 4 tag .ok (.status (.link r) s.port.counters)) ∧
      r.role = s.role ∧ r.state = s.link.state ∧ r.counters = s.link.counters ∧ r.rp = s.ladder.rp ∧
      r.record = s.ladder.record ∧ r.shares = s.planner.shares ∧ r.lastPlan = s.planner.last) ∧
    (∃ r, exec (.getStatusTiming tag) s = .next (s.replied 4 tag .ok (.status (.timing r) s.port.counters)) ∧
      r.now = s.timing.base.now ∧ r.steer = s.timing.base.steer ∧ r.cls = s.timing.servo.cls ∧
      r.selected = s.timing.servo.selected ∧ r.transferCounters = s.timing.xfer.counters ∧
      r.aging = if s.store.cal.valid = true then s.store.cal.aging else 0) ∧
    (∀ i x, Tenant.ofIndex i = some x → ∃ r, exec (.getStatusTenant tag i) s =
        .next (s.replied 4 tag .ok (.status (.tenant r) s.port.counters)) ∧
      r.state = (s.tenant x).state ∧ r.record = (s.tenant x).record ∧ r.blocks = occupancy (s.tenant x).queue ∧
      r.egressEntries = (s.tenant x).egress.length ∧ r.paused = (s.tenant x).paused ∧ r.xoff = (s.tenant x).xoff ∧ r.hold = (s.tenant x).holdSeen ∧
      (r.erroredPresent = true ↔ ∃ e ∈ (s.tenant x).egress, e.errored = true)) ∧
    (∀ i, 3 < i → exec (.getStatusTenant tag i) s = .next (s.replied 4 tag .badValue (.line s.port.counters))) ∧
    (∃ r, exec (.getStatusTest tag) s = .next (s.replied 4 tag .ok (.status (.test r) s.port.counters)) ∧
      r.runState = s.test.runState ∧ r.acceptance = s.test.acceptance ∧ r.check = s.test.check ∧
      r.report = s.test.report) ∧
    (∃ r, exec (.getStatusStore tag) s = .next (s.replied 4 tag .ok (.status (.store r) s.port.counters)) ∧
      r.bootMark = s.store.bootMark ∧ r.cal = s.store.cal ∧ r.cause = s.port.lastCause ∧
      (r.state = .ready ↔ s.store.op = none) ∧ (∀ o, s.store.op = some o → o.stage = .erasing → r.state = .erasing)) ∧
    exec (.getResults tag) s = .next (s.replied 19 tag .ok
      (.results s.test.runState s.test.runId s.test.count s.test.flag s.test.acceptance s.test.results)) ∧
    (∀ i x, Tenant.ofIndex i = some x →
      let body := ReplyBody.counters (s.tenant x).ingress (s.tenant x).egressCounters
      exec (.getCounters tag i false) s = .next (s.replied 11 tag .ok body) ∧
      exec (.getCounters tag i true) s = .next ((s.withTenant x
        { s.tenant x with ingress := .zero, egressCounters := .zero }).replied 11 tag .ok body)) ∧
    (∀ i c, 3 < i → exec (.getCounters tag i c) s = .next (s.replied 11 tag .badValue .empty))

/-- GET_ID identifies the part, SET_ROLE is taken once, and RESET is answered before it takes effect. After 10.4 R174,
10.4 R175, 01 R3, 01 R13. The fields startsSince and absenceDue that SET_ROLE sets are the model's watch for missing
records (log entry 4), frameHere its note of a boundary stood on (log entry 3); the empty bodies of SET_ROLE's
BAD_VALUE reply and of RESET's reply are log entry 31. -/
def Obligations.IdentityRoleAndReset : Prop :=
  ∀ (s : State) (tag : Byte), s.requestFree →
    exec (.getId tag) s = .next (s.replied 1 tag .ok (.identity "SATHELON UGMIRA TS46" 1 s.port.lastCause)) ∧
    (∀ (r : Role) (v : Option Role), s.role = some r →
      exec (.setRole tag v) s = .next (s.replied 2 tag .onceOnly (.role (some r)))) ∧
    (s.role = none → exec (.setRole tag none) s = .next (s.replied 2 tag .badValue .empty)) ∧
    (∀ r : Role, s.role = none → ∃ t : State, exec (.setRole tag (some r)) s = .next (t.replied 2 tag .ok (.role (some r))) ∧
      t = { s with role := some r, link := { s.link with startsSince := 0, absenceDue := false },
                   timing := { s.timing with base := { s.timing.base with frameHere := false } } }) ∧
    exec (.resetFull tag) s =
      .next ((s.withPort { s.port with resetPending := some .full }).replied 3 tag .ok .empty) ∧
    exec (.resetWarm tag) s =
      .next ((s.withPort { s.port with resetPending := some .warm }).replied 3 tag .ok .empty) ∧
    (∀ (u : State) (c : Instr) (other : Byte) (r : Request) (f : LineFrame) (o : ResetOption),
      c.request? = some (other, r) → u.port.line = some f → u.port.resetPending = some o →
      ∃ v : State, exec c u = .next v ∧ v = u.withPort { u.port with buffer := v.port.buffer, counters := v.port.counters } ∧
        v.port.buffer.take u.port.buffer.length = u.port.buffer)

/-- A store request in range and READY is answered OK and invalidates what it writes at once; BUSY otherwise. After
10.5 R177, 10.5 R178, 10.5 R179. The advance reading kept with the operation is the model's way to the time remaining
(log entry 15). The empty bodies of the OK, BAD_VALUE, BUSY and STORE_FAULT replies are the model's reading (log entry
31). -/
def Obligations.StoreRequestsBeginOperations : Prop :=
  ∀ (s : State) (tag : Byte), s.requestFree →
    let op (k : StoreOpKind) (stage : StoreStage) : StoreOp := { kind := k, stage := stage, taken := s.timing.base.advance }
    (∀ i, 3 < i → exec (.storeSave tag i) s = .next (s.replied 21 tag .badValue .empty) ∧
      exec (.storeErase tag i) s = .next (s.replied 23 tag .badValue .empty) ∧
      exec (.storeBoot tag (some i)) s = .next (s.replied 24 tag .badValue .empty)) ∧
    (∀ a : Int, 100000 < a.natAbs → exec (.storeCal tag a) s = .next (s.replied 25 tag .badValue .empty)) ∧
    (∀ i a, s.store.op.isSome = true → i ≤ 3 → (a : Int).natAbs ≤ 100000 →
      exec (.storeSave tag i) s = .next (s.replied 21 tag .busy .empty) ∧
      exec (.storeErase tag i) s = .next (s.replied 23 tag .busy .empty) ∧
      exec (.storeBoot tag (some i)) s = .next (s.replied 24 tag .busy .empty) ∧
      exec (.storeBoot tag none) s = .next (s.replied 24 tag .busy .empty) ∧
      exec (.storeCal tag a) s = .next (s.replied 25 tag .busy .empty)) ∧
    (s.store.op = none →
      (∀ i, i ≤ 3 →
        (exec (.storeSave tag i) s = .next ((s.withStore { s.store with
          plan := s.store.plan.put i { s.store.plan.at i with valid := false },
          op := some (op (.save i s.settings) .erasing) }).replied 21 tag .ok .empty)) ∧
        (exec (.storeErase tag i) s = .next ((s.withStore { s.store with
          plan := s.store.plan.put i { s.store.plan.at i with valid := false },
          op := some (op (.erase i) .erasing) }).replied 23 tag .ok .empty)) ∧
        ((s.store.plan.at i).valid = false →
          exec (.storeBoot tag (some i)) s = .next (s.replied 24 tag .storeFault .empty)) ∧
        ((s.store.plan.at i).valid = true → exec (.storeBoot tag (some i)) s = .next ((s.withStore { s.store with
          bootMark := none, op := some (op (.boot (some i)) .programming) }).replied 24 tag .ok .empty))) ∧
      (exec (.storeBoot tag none) s = .next ((s.withStore { s.store with
        bootMark := none, op := some (op (.boot none) .programming) }).replied 24 tag .ok .empty)) ∧
      (∀ a : Int, a.natAbs ≤ 100000 →
        (s.timing.servo.state = .locked → 3600 ≤ s.timing.servo.lockedTime →
          exec (.storeCal tag a) s = .next ((s.withStore { s.store with
            cal := { s.store.cal with valid := false },
            op := some (op (.cal s.timing.servo.fHold a) .erasing) }).replied 25 tag .ok .empty)) ∧
        ((s.timing.servo.state ≠ .locked ∨ s.timing.servo.lockedTime < 3600) →
          exec (.storeCal tag a) s = .next (s.replied 25 tag .wrongState
            (.lockedTime s.timing.servo.state s.timing.servo.lockedTime)))))

/-- ERASING is followed by PROGRAMMING, and only the end of the last stage makes a slot valid. After 10.5 R177, 10.5
R178, 10.5 R180. That ERASING_END without an erasing, and STORE_OPERATION_END before the last stage or without an
operation, change nothing is the model's reading (log entry 1). -/
def Obligations.StoreOperationEnds : Prop :=
  ∀ (s : State),
    (s.store.op = none → exec .erasingEnd s = .next (announce s) ∧ exec .storeOperationEnd s = .next (announce s)) ∧
    ∀ (o : StoreOp) (f : LineFrame), s.store.op = some o → s.port.line = some f →
    ((∃ i, o.kind = .erase i) ∨ o.stage = .programming → exec .erasingEnd s = .next s) ∧
    ((∃ i v, o.kind = .save i v) ∨ (∃ x a, o.kind = .cal x a) → o.stage = .erasing →
      exec .erasingEnd s = .next (s.withStore { s.store with op := some { o with stage := .programming } }) ∧
      exec .storeOperationEnd s = .next s) ∧
    (∀ i v, o.kind = .save i v → i ≤ 3 → o.stage = .programming → ∃ t : State, exec .storeOperationEnd s = .next t ∧
      t.store = { s.store with plan := s.store.plan.put i { valid := true, settings := v }, op := none } ∧
      t = { s with store := t.store, port := { s.port with slots := t.port.slots } } ∧
      ∃ merge : Nat, t.port.slots.store = some
        { content := .store { cause := .saved, subject := .plan i, state := .ready,
                              valid := t.store.plan.map PlanSlot.valid, calValid := t.store.cal.valid, bootMark := t.store.bootMark }, merge := merge }) ∧
    (∀ x a, o.kind = .cal x a → o.stage = .programming → ∃ t : State, exec .storeOperationEnd s = .next t ∧
      t.store = { s.store with cal := { valid := true, frequency := x, aging := a }, op := none } ∧
      t = { s with store := t.store, port := { s.port with slots := t.port.slots } } ∧
      ∃ merge : Nat, t.port.slots.store = some
        { content := .store { cause := .calWritten, subject := .calibration, state := .ready,
                              valid := t.store.plan.map PlanSlot.valid, calValid := t.store.cal.valid, bootMark := t.store.bootMark }, merge := merge }) ∧
    (∀ i, o.kind = .boot i → o.stage = .programming → ∃ t : State, exec .storeOperationEnd s = .next t ∧
      t.store = { s.store with bootMark := i, op := none } ∧
      t = { s with store := t.store, port := { s.port with slots := t.port.slots } } ∧
      ∃ merge : Nat, t.port.slots.store = some
        { content := .store { cause := .bootSet, subject := .bootMark, state := .ready,
                              valid := t.store.plan.map PlanSlot.valid, calValid := t.store.cal.valid, bootMark := t.store.bootMark }, merge := merge }) ∧
    (∀ i, o.kind = .erase i → o.stage = .erasing → ∃ t : State, exec .storeOperationEnd s = .next t ∧
      t.store = { s.store with op := none } ∧
      t = { s with store := t.store, port := { s.port with slots := t.port.slots } } ∧
      ∃ merge : Nat, t.port.slots.store = some
        { content := .store { cause := .erased, subject := .plan i, state := .ready,
                              valid := t.store.plan.map PlanSlot.valid, calValid := t.store.cal.valid, bootMark := t.store.bootMark }, merge := merge })

/-- STORE_LOAD judges in order and applies every record of the slot but the role, at once. After 10.5 R181, 03 R58, 02
R26, 04 R78. On a free line the reply begins and a notice that the request raised stays pending behind it: R172 leaves
the order of the two open, and the model takes the reply first (log entry 8). The empty bodies of the BAD_VALUE, BUSY
and STORE_FAULT replies are the model's reading (log entry 31). -/
def Obligations.StoreLoadAppliesTheSlot : Prop :=
  ∀ (s : State) (tag : Byte) (i : Nat), s.requestFree →
    let served := Tenant.all.filter fun x => (s.tenant x).state == .active || (s.tenant x).state == .draining
    (3 < i → exec (.storeLoad tag i) s = .next (s.replied 22 tag .badValue .empty)) ∧
    (i ≤ 3 → s.store.op.isSome = true → exec (.storeLoad tag i) s = .next (s.replied 22 tag .busy .empty)) ∧
    (i ≤ 3 → s.store.op = none → served ≠ [] →
      exec (.storeLoad tag i) s = .next (s.replied 22 tag .wrongState (.tenants served))) ∧
    (i ≤ 3 → s.store.op = none → served = [] → (s.store.plan.at i).valid = false →
      exec (.storeLoad tag i) s = .next (s.replied 22 tag .storeFault .empty)) ∧
    (i ≤ 3 → s.store.op = none → served = [] → (s.store.plan.at i).valid = true →
      let v := (s.store.plan.at i).settings
      ∃ t : State, exec (.storeLoad tag i) s = .next (t.replied 22 tag .ok (.slot i)) ∧
        t.ladder = { s.ladder with record := v.link, dwell := 0, confirm := none, forced := t.ladder.forced } ∧
        t.planner = { s.planner with shares := v.shares } ∧ t.timing.base.record = v.timing ∧
        t.timing.servo.selected = t.timing.selection ∧ t.test.patterns = v.patterns ∧
        (∀ x, (t.tenant x).record = v.tenants.get x ∧ (t.tenant x).state = .pending ∧
          (t.tenant x).egress = (s.tenant x).egress) ∧
        t.role = s.role ∧ t.link = s.link ∧ t.store = s.store ∧ t.pending = s.pending ∧ t.test.runId = s.test.runId ∧
        t.test.steps = s.test.steps ∧
        ((s.test.runState ≠ .running ∨ ∀ w, s.test.work = some w →
            (∀ cond limit, w.step.body = .wait cond limit → s.holds cond = false) ∧
            (∀ samples limit, w.step.body = .timingCross samples limit → s.crossReady = true)) →
          t.test = { s.test with patterns := v.patterns } ∧ t.ladder.forced = s.ladder.forced ∧
          ∀ x, (t.tenant x).queue = (s.tenant x).queue ∧ (t.tenant x).nextSeq = (s.tenant x).nextSeq) ∧
        ∃ (c : _) (merge : Nat), t.port.slots.store = some { content := .store c, merge := merge } ∧ c.cause = .loaded ∧
          c.subject = .plan i)

/-- Every step keeps: a tenant in service means acceptance PASSED or WAIVED, and none serves during an acceptance run.
After 03 R43, 09 R154, 09 R167. -/
def Obligations.EveryStepKeepsAcceptance : Prop :=
  ∀ s t : State, s.acceptanceInv → step s = .next t → t.acceptanceInv

/-- Every step keeps local time within the second and F, F_hold and S within 2,000,000 ppt. After 06 R98, 06 R100, 08
R138, 08 R139, 08 R145, 10.5 R177. -/
def Obligations.EveryStepKeepsTimeAndSteer : Prop :=
  ∀ s t : State, (s.timeInv ∧ s.steerInv) → step s = .next t → (t.timeInv ∧ t.steerInv)

/-- Every step keeps the selected source of R112, present exactly in ACQUIRING and LOCKED, and the class of R146.
After 06 R112, 06 R113, 08 R141, 08 R146. The exception is the model's: R144 changes the class at the second boundary,
and the model at the row HOLDOVER_LIMIT of that moment (log entry 1). -/
def Obligations.EveryStepKeepsSelection : Prop :=
  ∀ s t : State, s.timingInv → step s = .next t → t.timingInv

/-- Every step keeps both transfer lists at most 4 long with different sequences, each at its own role only. After 07
R120, 07 R122, 07 R129. -/
def Obligations.EveryStepKeepsTransferLists : Prop :=
  ∀ s t : State, s.transferInv → step s = .next t → t.transferInv

/-- Every step keeps queues and egress buffers within bounds with only the head started, a run at its current step,
ingress counters within 32 bits. After 03 R50, 03 R54, 03 R56, 05 R89, 09 R153, 09 R155, 09 R166, 02 R31. -/
def Obligations.EveryStepKeepsQueues : Prop :=
  ∀ s t : State, (s.queueInv ∧ s.runInv ∧ s.ingressInv) → step s = .next t → (t.queueInv ∧ t.runInv ∧ t.ingressInv)

/-- Every step keeps the counts and stored fields that belong to each link state. After 01 R12, 01 R15, 01 R16, 01
R17, 01 R19. -/
def Obligations.EveryStepKeepsLinkCounts : Prop :=
  ∀ s t : State, s.linkInv → step s = .next t → t.linkInv

/-- Every step keeps at most two buffered requests, and never leaves a free line with something to send. After 10.2
R170, 10.3 R172, 10.3 R173, 10.4 R174. -/
def Obligations.EveryStepKeepsThePort : Prop :=
  ∀ s t : State, s.portInv → step s = .next t → t.portInv

/-- Every step keeps every record in force and in the store within its ranges, and R_p with its counts within the
record. After 01 R6, 02 R24, 03 R39, 04 R77, 06 R110, 09 R151, 02 R28, 02 R29. -/
def Obligations.EveryStepKeepsRecordsInRange : Prop :=
  ∀ s t : State, (s.recordsInv ∧ s.ladderInv) → step s = .next t → (t.recordsInv ∧ t.ladderInv)

/-- The state after a first POWER reset meets every invariant, and another POWER reset leaves it as it is. After log
entry 11, log entry 12, 01 R23, 06 R117. The blank store and the released hold inputs are the model's choices. -/
def Obligations.ResetMeetsEveryInvariant : Prop :=
  (State.reset.acceptanceInv ∧ State.reset.timeInv ∧ State.reset.steerInv ∧ State.reset.timingInv ∧ State.reset.transferInv ∧
      State.reset.queueInv ∧ State.reset.ingressInv ∧ State.reset.runInv ∧ State.reset.linkInv ∧ State.reset.portInv ∧ State.reset.recordsInv ∧ State.reset.ladderInv) ∧
    exec .powerReset State.reset = .next State.reset
end

