-- ==== Sys2Proof/Laws/State.lean ====
section
/-! SUPPORT. The fields of a state after one block of it has been replaced: one lemma per field per update, each true by
rfl; and the members of a four after one has been replaced. -/

namespace Sys2Proof

/-! ## Four like things -/

@[simp] theorem Quad.get_set_same {α : Type} (q : Quad α) (t : Tenant) (a : α) : (q.set t a).get t = a := by
  cases t <;> rfl

theorem Quad.get_set_other {α : Type} (q : Quad α) (t x : Tenant) (a : α) (h : x ≠ t) : (q.set t a).get x = q.get x := by
  cases t <;> cases x <;> first | rfl | exact absurd rfl h

@[simp] theorem Quad.set_get_same {α : Type} (q : Quad α) (t : Tenant) : q.set t (q.get t) = q := by cases t <;> rfl

@[simp] theorem Quad.set_set_same {α : Type} (q : Quad α) (t : Tenant) (a b : α) : (q.set t a).set t b = q.set t b := by
  cases t <;> rfl

@[simp] theorem Quad.get_map {α β : Type} (f : α → β) (q : Quad α) (t : Tenant) : (q.map f).get t = f (q.get t) := by
  cases t <;> rfl

@[simp] theorem Quad.get_ofFn {α : Type} (f : Tenant → α) (t : Tenant) : (Quad.ofFn f).get t = f t := by
  cases t <;> rfl

@[simp] theorem Quad.get_const {α : Type} (a : α) (t : Tenant) : (Quad.const a).get t = a := by cases t <;> rfl

theorem Quad.ext_get {α : Type} {p q : Quad α} (h : ∀ t, p.get t = q.get t) : p = q := by
  cases p; cases q
  have h0 := h .t0; have h1 := h .t1; have h2 := h .t2; have h3 := h .t3
  simp only [Quad.get] at h0 h1 h2 h3
  simp only [h0, h1, h2, h3]

end Sys2Proof

namespace Sys2Proof.Machine

/-! ## One block of the state replaced -/

@[simp] theorem State.withRole_role (s : State) (r : Option Role) : (s.withRole r).role = r := rfl
@[simp] theorem State.withRole_link (s : State) (r : Option Role) : (s.withRole r).link = s.link := rfl
@[simp] theorem State.withRole_ladder (s : State) (r : Option Role) : (s.withRole r).ladder = s.ladder := rfl
@[simp] theorem State.withRole_planner (s : State) (r : Option Role) : (s.withRole r).planner = s.planner := rfl
@[simp] theorem State.withRole_tenants (s : State) (r : Option Role) : (s.withRole r).tenants = s.tenants := rfl
@[simp] theorem State.withRole_timing (s : State) (r : Option Role) : (s.withRole r).timing = s.timing := rfl
@[simp] theorem State.withRole_test (s : State) (r : Option Role) : (s.withRole r).test = s.test := rfl
@[simp] theorem State.withRole_port (s : State) (r : Option Role) : (s.withRole r).port = s.port := rfl
@[simp] theorem State.withRole_store (s : State) (r : Option Role) : (s.withRole r).store = s.store := rfl
@[simp] theorem State.withRole_freeIndex (s : State) (r : Option Role) : (s.withRole r).freeIndex = s.freeIndex := rfl
@[simp] theorem State.withRole_pending (s : State) (r : Option Role) : (s.withRole r).pending = s.pending := rfl
@[simp] theorem State.withRole_self (s : State) : s.withRole s.role = s := rfl
@[simp] theorem State.withRole_twice (s : State) (r r' : Option Role) : (s.withRole r).withRole r' = s.withRole r' := rfl

@[simp] theorem State.withLink_role (s : State) (l : LinkUnit) : (s.withLink l).role = s.role := rfl
@[simp] theorem State.withLink_link (s : State) (l : LinkUnit) : (s.withLink l).link = l := rfl
@[simp] theorem State.withLink_ladder (s : State) (l : LinkUnit) : (s.withLink l).ladder = s.ladder := rfl
@[simp] theorem State.withLink_planner (s : State) (l : LinkUnit) : (s.withLink l).planner = s.planner := rfl
@[simp] theorem State.withLink_tenants (s : State) (l : LinkUnit) : (s.withLink l).tenants = s.tenants := rfl
@[simp] theorem State.withLink_timing (s : State) (l : LinkUnit) : (s.withLink l).timing = s.timing := rfl
@[simp] theorem State.withLink_test (s : State) (l : LinkUnit) : (s.withLink l).test = s.test := rfl
@[simp] theorem State.withLink_port (s : State) (l : LinkUnit) : (s.withLink l).port = s.port := rfl
@[simp] theorem State.withLink_store (s : State) (l : LinkUnit) : (s.withLink l).store = s.store := rfl
@[simp] theorem State.withLink_freeIndex (s : State) (l : LinkUnit) : (s.withLink l).freeIndex = s.freeIndex := rfl
@[simp] theorem State.withLink_pending (s : State) (l : LinkUnit) : (s.withLink l).pending = s.pending := rfl
@[simp] theorem State.withLink_self (s : State) : s.withLink s.link = s := rfl
@[simp] theorem State.withLink_twice (s : State) (l l' : LinkUnit) : (s.withLink l).withLink l' = s.withLink l' := rfl

@[simp] theorem State.withLadder_role (s : State) (l : Ladder) : (s.withLadder l).role = s.role := rfl
@[simp] theorem State.withLadder_link (s : State) (l : Ladder) : (s.withLadder l).link = s.link := rfl
@[simp] theorem State.withLadder_ladder (s : State) (l : Ladder) : (s.withLadder l).ladder = l := rfl
@[simp] theorem State.withLadder_planner (s : State) (l : Ladder) : (s.withLadder l).planner = s.planner := rfl
@[simp] theorem State.withLadder_tenants (s : State) (l : Ladder) : (s.withLadder l).tenants = s.tenants := rfl
@[simp] theorem State.withLadder_timing (s : State) (l : Ladder) : (s.withLadder l).timing = s.timing := rfl
@[simp] theorem State.withLadder_test (s : State) (l : Ladder) : (s.withLadder l).test = s.test := rfl
@[simp] theorem State.withLadder_port (s : State) (l : Ladder) : (s.withLadder l).port = s.port := rfl
@[simp] theorem State.withLadder_store (s : State) (l : Ladder) : (s.withLadder l).store = s.store := rfl
@[simp] theorem State.withLadder_freeIndex (s : State) (l : Ladder) : (s.withLadder l).freeIndex = s.freeIndex := rfl
@[simp] theorem State.withLadder_pending (s : State) (l : Ladder) : (s.withLadder l).pending = s.pending := rfl
@[simp] theorem State.withLadder_self (s : State) : s.withLadder s.ladder = s := rfl
@[simp] theorem State.withLadder_twice (s : State) (l l' : Ladder) : (s.withLadder l).withLadder l' = s.withLadder l' := rfl

@[simp] theorem State.withPlanner_role (s : State) (p : Planner) : (s.withPlanner p).role = s.role := rfl
@[simp] theorem State.withPlanner_link (s : State) (p : Planner) : (s.withPlanner p).link = s.link := rfl
@[simp] theorem State.withPlanner_ladder (s : State) (p : Planner) : (s.withPlanner p).ladder = s.ladder := rfl
@[simp] theorem State.withPlanner_planner (s : State) (p : Planner) : (s.withPlanner p).planner = p := rfl
@[simp] theorem State.withPlanner_tenants (s : State) (p : Planner) : (s.withPlanner p).tenants = s.tenants := rfl
@[simp] theorem State.withPlanner_timing (s : State) (p : Planner) : (s.withPlanner p).timing = s.timing := rfl
@[simp] theorem State.withPlanner_test (s : State) (p : Planner) : (s.withPlanner p).test = s.test := rfl
@[simp] theorem State.withPlanner_port (s : State) (p : Planner) : (s.withPlanner p).port = s.port := rfl
@[simp] theorem State.withPlanner_store (s : State) (p : Planner) : (s.withPlanner p).store = s.store := rfl
@[simp] theorem State.withPlanner_freeIndex (s : State) (p : Planner) : (s.withPlanner p).freeIndex = s.freeIndex := rfl
@[simp] theorem State.withPlanner_pending (s : State) (p : Planner) : (s.withPlanner p).pending = s.pending := rfl
@[simp] theorem State.withPlanner_self (s : State) : s.withPlanner s.planner = s := rfl
@[simp] theorem State.withPlanner_twice (s : State) (p p' : Planner) : (s.withPlanner p).withPlanner p' = s.withPlanner p' := rfl

@[simp] theorem State.withTenants_role (s : State) (q : Quad TenantUnit) : (s.withTenants q).role = s.role := rfl
@[simp] theorem State.withTenants_link (s : State) (q : Quad TenantUnit) : (s.withTenants q).link = s.link := rfl
@[simp] theorem State.withTenants_ladder (s : State) (q : Quad TenantUnit) : (s.withTenants q).ladder = s.ladder := rfl
@[simp] theorem State.withTenants_planner (s : State) (q : Quad TenantUnit) : (s.withTenants q).planner = s.planner := rfl
@[simp] theorem State.withTenants_tenants (s : State) (q : Quad TenantUnit) : (s.withTenants q).tenants = q := rfl
@[simp] theorem State.withTenants_timing (s : State) (q : Quad TenantUnit) : (s.withTenants q).timing = s.timing := rfl
@[simp] theorem State.withTenants_test (s : State) (q : Quad TenantUnit) : (s.withTenants q).test = s.test := rfl
@[simp] theorem State.withTenants_port (s : State) (q : Quad TenantUnit) : (s.withTenants q).port = s.port := rfl
@[simp] theorem State.withTenants_store (s : State) (q : Quad TenantUnit) : (s.withTenants q).store = s.store := rfl
@[simp] theorem State.withTenants_freeIndex (s : State) (q : Quad TenantUnit) : (s.withTenants q).freeIndex = s.freeIndex := rfl
@[simp] theorem State.withTenants_pending (s : State) (q : Quad TenantUnit) : (s.withTenants q).pending = s.pending := rfl
@[simp] theorem State.withTenants_self (s : State) : s.withTenants s.tenants = s := rfl
@[simp] theorem State.withTenants_twice (s : State) (q q' : Quad TenantUnit) : (s.withTenants q).withTenants q' = s.withTenants q' := rfl

@[simp] theorem State.withTiming_role (s : State) (t : Timing) : (s.withTiming t).role = s.role := rfl
@[simp] theorem State.withTiming_link (s : State) (t : Timing) : (s.withTiming t).link = s.link := rfl
@[simp] theorem State.withTiming_ladder (s : State) (t : Timing) : (s.withTiming t).ladder = s.ladder := rfl
@[simp] theorem State.withTiming_planner (s : State) (t : Timing) : (s.withTiming t).planner = s.planner := rfl
@[simp] theorem State.withTiming_tenants (s : State) (t : Timing) : (s.withTiming t).tenants = s.tenants := rfl
@[simp] theorem State.withTiming_timing (s : State) (t : Timing) : (s.withTiming t).timing = t := rfl
@[simp] theorem State.withTiming_test (s : State) (t : Timing) : (s.withTiming t).test = s.test := rfl
@[simp] theorem State.withTiming_port (s : State) (t : Timing) : (s.withTiming t).port = s.port := rfl
@[simp] theorem State.withTiming_store (s : State) (t : Timing) : (s.withTiming t).store = s.store := rfl
@[simp] theorem State.withTiming_freeIndex (s : State) (t : Timing) : (s.withTiming t).freeIndex = s.freeIndex := rfl
@[simp] theorem State.withTiming_pending (s : State) (t : Timing) : (s.withTiming t).pending = s.pending := rfl
@[simp] theorem State.withTiming_self (s : State) : s.withTiming s.timing = s := rfl
@[simp] theorem State.withTiming_twice (s : State) (t t' : Timing) : (s.withTiming t).withTiming t' = s.withTiming t' := rfl

@[simp] theorem State.withTest_role (s : State) (t : TestUnit) : (s.withTest t).role = s.role := rfl
@[simp] theorem State.withTest_link (s : State) (t : TestUnit) : (s.withTest t).link = s.link := rfl
@[simp] theorem State.withTest_ladder (s : State) (t : TestUnit) : (s.withTest t).ladder = s.ladder := rfl
@[simp] theorem State.withTest_planner (s : State) (t : TestUnit) : (s.withTest t).planner = s.planner := rfl
@[simp] theorem State.withTest_tenants (s : State) (t : TestUnit) : (s.withTest t).tenants = s.tenants := rfl
@[simp] theorem State.withTest_timing (s : State) (t : TestUnit) : (s.withTest t).timing = s.timing := rfl
@[simp] theorem State.withTest_test (s : State) (t : TestUnit) : (s.withTest t).test = t := rfl
@[simp] theorem State.withTest_port (s : State) (t : TestUnit) : (s.withTest t).port = s.port := rfl
@[simp] theorem State.withTest_store (s : State) (t : TestUnit) : (s.withTest t).store = s.store := rfl
@[simp] theorem State.withTest_freeIndex (s : State) (t : TestUnit) : (s.withTest t).freeIndex = s.freeIndex := rfl
@[simp] theorem State.withTest_pending (s : State) (t : TestUnit) : (s.withTest t).pending = s.pending := rfl
@[simp] theorem State.withTest_self (s : State) : s.withTest s.test = s := rfl
@[simp] theorem State.withTest_twice (s : State) (t t' : TestUnit) : (s.withTest t).withTest t' = s.withTest t' := rfl

@[simp] theorem State.withPort_role (s : State) (p : Port) : (s.withPort p).role = s.role := rfl
@[simp] theorem State.withPort_link (s : State) (p : Port) : (s.withPort p).link = s.link := rfl
@[simp] theorem State.withPort_ladder (s : State) (p : Port) : (s.withPort p).ladder = s.ladder := rfl
@[simp] theorem State.withPort_planner (s : State) (p : Port) : (s.withPort p).planner = s.planner := rfl
@[simp] theorem State.withPort_tenants (s : State) (p : Port) : (s.withPort p).tenants = s.tenants := rfl
@[simp] theorem State.withPort_timing (s : State) (p : Port) : (s.withPort p).timing = s.timing := rfl
@[simp] theorem State.withPort_test (s : State) (p : Port) : (s.withPort p).test = s.test := rfl
@[simp] theorem State.withPort_port (s : State) (p : Port) : (s.withPort p).port = p := rfl
@[simp] theorem State.withPort_store (s : State) (p : Port) : (s.withPort p).store = s.store := rfl
@[simp] theorem State.withPort_freeIndex (s : State) (p : Port) : (s.withPort p).freeIndex = s.freeIndex := rfl
@[simp] theorem State.withPort_pending (s : State) (p : Port) : (s.withPort p).pending = s.pending := rfl
@[simp] theorem State.withPort_self (s : State) : s.withPort s.port = s := rfl
@[simp] theorem State.withPort_twice (s : State) (p p' : Port) : (s.withPort p).withPort p' = s.withPort p' := rfl

@[simp] theorem State.withStore_role (s : State) (st : Store) : (s.withStore st).role = s.role := rfl
@[simp] theorem State.withStore_link (s : State) (st : Store) : (s.withStore st).link = s.link := rfl
@[simp] theorem State.withStore_ladder (s : State) (st : Store) : (s.withStore st).ladder = s.ladder := rfl
@[simp] theorem State.withStore_planner (s : State) (st : Store) : (s.withStore st).planner = s.planner := rfl
@[simp] theorem State.withStore_tenants (s : State) (st : Store) : (s.withStore st).tenants = s.tenants := rfl
@[simp] theorem State.withStore_timing (s : State) (st : Store) : (s.withStore st).timing = s.timing := rfl
@[simp] theorem State.withStore_test (s : State) (st : Store) : (s.withStore st).test = s.test := rfl
@[simp] theorem State.withStore_port (s : State) (st : Store) : (s.withStore st).port = s.port := rfl
@[simp] theorem State.withStore_store (s : State) (st : Store) : (s.withStore st).store = st := rfl
@[simp] theorem State.withStore_freeIndex (s : State) (st : Store) : (s.withStore st).freeIndex = s.freeIndex := rfl
@[simp] theorem State.withStore_pending (s : State) (st : Store) : (s.withStore st).pending = s.pending := rfl
@[simp] theorem State.withStore_self (s : State) : s.withStore s.store = s := rfl
@[simp] theorem State.withStore_twice (s : State) (st st' : Store) : (s.withStore st).withStore st' = s.withStore st' := rfl

@[simp] theorem State.withFreeIndex_role (s : State) (n : Nat) : (s.withFreeIndex n).role = s.role := rfl
@[simp] theorem State.withFreeIndex_link (s : State) (n : Nat) : (s.withFreeIndex n).link = s.link := rfl
@[simp] theorem State.withFreeIndex_ladder (s : State) (n : Nat) : (s.withFreeIndex n).ladder = s.ladder := rfl
@[simp] theorem State.withFreeIndex_planner (s : State) (n : Nat) : (s.withFreeIndex n).planner = s.planner := rfl
@[simp] theorem State.withFreeIndex_tenants (s : State) (n : Nat) : (s.withFreeIndex n).tenants = s.tenants := rfl
@[simp] theorem State.withFreeIndex_timing (s : State) (n : Nat) : (s.withFreeIndex n).timing = s.timing := rfl
@[simp] theorem State.withFreeIndex_test (s : State) (n : Nat) : (s.withFreeIndex n).test = s.test := rfl
@[simp] theorem State.withFreeIndex_port (s : State) (n : Nat) : (s.withFreeIndex n).port = s.port := rfl
@[simp] theorem State.withFreeIndex_store (s : State) (n : Nat) : (s.withFreeIndex n).store = s.store := rfl
@[simp] theorem State.withFreeIndex_freeIndex (s : State) (n : Nat) : (s.withFreeIndex n).freeIndex = n := rfl
@[simp] theorem State.withFreeIndex_pending (s : State) (n : Nat) : (s.withFreeIndex n).pending = s.pending := rfl
@[simp] theorem State.withFreeIndex_self (s : State) : s.withFreeIndex s.freeIndex = s := rfl
@[simp] theorem State.withFreeIndex_twice (s : State) (n n' : Nat) : (s.withFreeIndex n).withFreeIndex n' = s.withFreeIndex n' := rfl

@[simp] theorem State.withPending_role (s : State) (p : List Instr) : (s.withPending p).role = s.role := rfl
@[simp] theorem State.withPending_link (s : State) (p : List Instr) : (s.withPending p).link = s.link := rfl
@[simp] theorem State.withPending_ladder (s : State) (p : List Instr) : (s.withPending p).ladder = s.ladder := rfl
@[simp] theorem State.withPending_planner (s : State) (p : List Instr) : (s.withPending p).planner = s.planner := rfl
@[simp] theorem State.withPending_tenants (s : State) (p : List Instr) : (s.withPending p).tenants = s.tenants := rfl
@[simp] theorem State.withPending_timing (s : State) (p : List Instr) : (s.withPending p).timing = s.timing := rfl
@[simp] theorem State.withPending_test (s : State) (p : List Instr) : (s.withPending p).test = s.test := rfl
@[simp] theorem State.withPending_port (s : State) (p : List Instr) : (s.withPending p).port = s.port := rfl
@[simp] theorem State.withPending_store (s : State) (p : List Instr) : (s.withPending p).store = s.store := rfl
@[simp] theorem State.withPending_freeIndex (s : State) (p : List Instr) : (s.withPending p).freeIndex = s.freeIndex := rfl
@[simp] theorem State.withPending_pending (s : State) (p : List Instr) : (s.withPending p).pending = p := rfl
@[simp] theorem State.withPending_self (s : State) : s.withPending s.pending = s := rfl
@[simp] theorem State.withPending_twice (s : State) (p p' : List Instr) : (s.withPending p).withPending p' = s.withPending p' := rfl

/-! ## One Tenant Unit, the Time Base, the current step replaced -/

@[simp] theorem State.withTenant_role (s : State) (x : Tenant) (u : TenantUnit) : (s.withTenant x u).role = s.role := rfl
@[simp] theorem State.withTenant_link (s : State) (x : Tenant) (u : TenantUnit) : (s.withTenant x u).link = s.link := rfl
@[simp] theorem State.withTenant_ladder (s : State) (x : Tenant) (u : TenantUnit) : (s.withTenant x u).ladder = s.ladder := rfl
@[simp] theorem State.withTenant_planner (s : State) (x : Tenant) (u : TenantUnit) : (s.withTenant x u).planner = s.planner := rfl
@[simp] theorem State.withTenant_timing (s : State) (x : Tenant) (u : TenantUnit) : (s.withTenant x u).timing = s.timing := rfl
@[simp] theorem State.withTenant_test (s : State) (x : Tenant) (u : TenantUnit) : (s.withTenant x u).test = s.test := rfl
@[simp] theorem State.withTenant_port (s : State) (x : Tenant) (u : TenantUnit) : (s.withTenant x u).port = s.port := rfl
@[simp] theorem State.withTenant_store (s : State) (x : Tenant) (u : TenantUnit) : (s.withTenant x u).store = s.store := rfl
@[simp] theorem State.withTenant_freeIndex (s : State) (x : Tenant) (u : TenantUnit) : (s.withTenant x u).freeIndex = s.freeIndex := rfl
@[simp] theorem State.withTenant_pending (s : State) (x : Tenant) (u : TenantUnit) : (s.withTenant x u).pending = s.pending := rfl
@[simp] theorem State.withTenant_tenants (s : State) (x : Tenant) (u : TenantUnit) :
    (s.withTenant x u).tenants = s.tenants.set x u := rfl

@[simp] theorem State.withTenant_same (s : State) (x : Tenant) (u : TenantUnit) : (s.withTenant x u).tenant x = u := by
  simp [State.tenant]

theorem State.withTenant_other (s : State) (x y : Tenant) (u : TenantUnit) (h : y ≠ x) :
    (s.withTenant x u).tenant y = s.tenant y := by
  simp [State.tenant, Quad.get_set_other _ _ _ _ h]

@[simp] theorem State.withTenant_self (s : State) (x : Tenant) : s.withTenant x (s.tenant x) = s := by
  simp [State.withTenant, State.tenant]

@[simp] theorem State.tenant_withRole (s : State) (r : Option Role) (x : Tenant) : (s.withRole r).tenant x = s.tenant x := rfl
@[simp] theorem State.tenant_withLink (s : State) (l : LinkUnit) (x : Tenant) : (s.withLink l).tenant x = s.tenant x := rfl
@[simp] theorem State.tenant_withLadder (s : State) (l : Ladder) (x : Tenant) : (s.withLadder l).tenant x = s.tenant x := rfl
@[simp] theorem State.tenant_withPlanner (s : State) (p : Planner) (x : Tenant) : (s.withPlanner p).tenant x = s.tenant x := rfl
@[simp] theorem State.tenant_withTiming (s : State) (t : Timing) (x : Tenant) : (s.withTiming t).tenant x = s.tenant x := rfl
@[simp] theorem State.tenant_withTest (s : State) (t : TestUnit) (x : Tenant) : (s.withTest t).tenant x = s.tenant x := rfl
@[simp] theorem State.tenant_withPort (s : State) (p : Port) (x : Tenant) : (s.withPort p).tenant x = s.tenant x := rfl
@[simp] theorem State.tenant_withStore (s : State) (st : Store) (x : Tenant) : (s.withStore st).tenant x = s.tenant x := rfl
@[simp] theorem State.tenant_withFreeIndex (s : State) (n : Nat) (x : Tenant) : (s.withFreeIndex n).tenant x = s.tenant x := rfl
@[simp] theorem State.tenant_withPending (s : State) (p : List Instr) (x : Tenant) : (s.withPending p).tenant x = s.tenant x := rfl

@[simp] theorem State.withBase_role (s : State) (b : TimeBase) : (s.withBase b).role = s.role := rfl
@[simp] theorem State.withBase_link (s : State) (b : TimeBase) : (s.withBase b).link = s.link := rfl
@[simp] theorem State.withBase_ladder (s : State) (b : TimeBase) : (s.withBase b).ladder = s.ladder := rfl
@[simp] theorem State.withBase_planner (s : State) (b : TimeBase) : (s.withBase b).planner = s.planner := rfl
@[simp] theorem State.withBase_tenants (s : State) (b : TimeBase) : (s.withBase b).tenants = s.tenants := rfl
@[simp] theorem State.withBase_test (s : State) (b : TimeBase) : (s.withBase b).test = s.test := rfl
@[simp] theorem State.withBase_port (s : State) (b : TimeBase) : (s.withBase b).port = s.port := rfl
@[simp] theorem State.withBase_store (s : State) (b : TimeBase) : (s.withBase b).store = s.store := rfl
@[simp] theorem State.withBase_freeIndex (s : State) (b : TimeBase) : (s.withBase b).freeIndex = s.freeIndex := rfl
@[simp] theorem State.withBase_pending (s : State) (b : TimeBase) : (s.withBase b).pending = s.pending := rfl
@[simp] theorem State.tenant_withBase (s : State) (b : TimeBase) (x : Tenant) : (s.withBase b).tenant x = s.tenant x := rfl
@[simp] theorem State.withWork_role (s : State) (w : Option Working) : (s.withWork w).role = s.role := rfl
@[simp] theorem State.withWork_link (s : State) (w : Option Working) : (s.withWork w).link = s.link := rfl
@[simp] theorem State.withWork_ladder (s : State) (w : Option Working) : (s.withWork w).ladder = s.ladder := rfl
@[simp] theorem State.withWork_planner (s : State) (w : Option Working) : (s.withWork w).planner = s.planner := rfl
@[simp] theorem State.withWork_tenants (s : State) (w : Option Working) : (s.withWork w).tenants = s.tenants := rfl
@[simp] theorem State.withWork_timing (s : State) (w : Option Working) : (s.withWork w).timing = s.timing := rfl
@[simp] theorem State.withWork_port (s : State) (w : Option Working) : (s.withWork w).port = s.port := rfl
@[simp] theorem State.withWork_store (s : State) (w : Option Working) : (s.withWork w).store = s.store := rfl
@[simp] theorem State.withWork_freeIndex (s : State) (w : Option Working) : (s.withWork w).freeIndex = s.freeIndex := rfl
@[simp] theorem State.withWork_pending (s : State) (w : Option Working) : (s.withWork w).pending = s.pending := rfl
@[simp] theorem State.tenant_withWork (s : State) (w : Option Working) (x : Tenant) : (s.withWork w).tenant x = s.tenant x := rfl
@[simp] theorem State.withBase_timing (s : State) (b : TimeBase) :
    (s.withBase b).timing = { s.timing with base := b } := rfl
@[simp] theorem State.withWork_test (s : State) (w : Option Working) :
    (s.withWork w).test = { s.test with work := w } := rfl
@[simp] theorem State.withBase_self (s : State) : s.withBase s.timing.base = s := rfl

/-! ## The CRC (R9, R169) -/

/-- The CRC over a list of bytes is the plain fold of one byte after another. -/
theorem crcFrom_eq_foldl (b : List Byte) (c : BitVec 16) : crcFrom c b = b.foldl crcByte c := by
  induction b generalizing c with
  | nil => rfl
  | cons x rest ih =>
    have back : ∀ d : BitVec 16, (match d.toNat with
        | 0 => crcFrom 0#16 rest
        | n + 1 => crcFrom (BitVec.ofNat 16 (n + 1)) rest) = crcFrom d rest := by
      intro d
      split
      · rename_i h
        rw [← BitVec.eq_of_toNat_eq (x := d) (y := 0#16) h]
      · rename_i n h
        rw [show n + 1 = d.toNat from h.symm, BitVec.ofNat_toNat, BitVec.setWidth_eq]
    exact (back (crcByte c x)).trans (ih (crcByte c x))

theorem crc16_eq_foldl (b : List Byte) : crc16 b = b.foldl crcByte 0xFFFF#16 := crcFrom_eq_foldl b _

end Sys2Proof.Machine
end

