-- ==== Sys2Proof/Laws/Frames.lean ====
section
/-! SUPPORT. What the shared operations leave alone. `OnlyNotices`: at most notices are raised. `StepFrame`: what an
event of the Test Controller can change. `EventFrame`: what an event of the link or of the timing blocks can change. -/

namespace Sys2Proof.Machine

/-! ## At most notices -/

/-- No notice waits for a line that is free for it (R172). -/
def Port.settled (p : Port) : Prop := p.freeForNotice = true → p.slots.highest = none

/-- `q` is the port `p` after notices have been raised: only the slots and the line differ, a line that was not free for
a notice is as it was, and where no notice waited for a free line, none does (R172, R173). -/
structure PortNoticed (p q : Port) : Prop where
  eq : q = { p with slots := q.slots, line := q.line }
  held : p.freeForNotice = false → q.line = p.line
  settled : p.settled → q.settled

theorem PortNoticed.refl (p : Port) : PortNoticed p p := ⟨rfl, fun _ => rfl, id⟩

/-- A port that was not free for a notice is not free after notices. -/
theorem PortNoticed.busy {p q : Port} (h : PortNoticed p q) (b : p.freeForNotice = false) : q.freeForNotice = false := by
  rw [h.eq, Port.freeForNotice]
  dsimp only
  rw [h.held b]
  exact b

theorem PortNoticed.trans {p q r : Port} (h : PortNoticed p q) (k : PortNoticed q r) : PortNoticed p r where
  eq := by rw [k.eq, h.eq]
  held b := (k.held (h.busy b)).trans (h.held b)
  settled a := k.settled (h.settled a)

theorem sendNotice_settled (p : Port) : p.sendNotice.settled := by
  unfold Port.sendNotice Port.settled
  split
  · exact nofun
  · next h => exact fun _ => h

theorem sendNotice_noticed (p : Port) (h : p.freeForNotice = true) : PortNoticed p p.sendNotice := by
  refine ⟨?_, fun b => absurd h (by simp [b]), fun _ => sendNotice_settled p⟩
  unfold Port.sendNotice
  split <;> rfl

/-- `t` is `s` after notices have been raised, and nothing else. -/
structure OnlyNotices (s t : State) : Prop where
  eq : t = s.withPort t.port
  port : PortNoticed s.port t.port

theorem OnlyNotices.refl (s : State) : OnlyNotices s s := ⟨rfl, .refl _⟩

theorem OnlyNotices.trans {s t u : State} (h : OnlyNotices s t) (k : OnlyNotices t u) : OnlyNotices s u := by
  refine ⟨?_, h.port.trans k.port⟩
  rw [k.eq, h.eq]
  rfl

/-- The choice on a free line changes the line and the slots and nothing else (R172). -/
theorem announce_onlyNotices (s : State) : OnlyNotices s (announce s) := by
  unfold announce
  split
  · next h => exact ⟨rfl, sendNotice_noticed _ h⟩
  · exact .refl s

/-- After the choice no notice waits for a line that is free for it (R172). -/
theorem announce_settled (s : State) : (announce s).port.settled := by
  unfold announce
  split
  · exact sendNotice_settled _
  · next h => exact fun k => absurd k h

/-- Where no notice waits for a free line, the choice changes nothing. -/
theorem announce_of_settled (s : State) (h : s.port.settled) : announce s = s := by
  unfold announce
  split
  · next k => rw [Port.sendNotice, h k]; rfl
  · rfl

theorem raise_onlyNotices (s : State) (k : NoticeKind) (c : NoticeContent) : OnlyNotices s (s.raise k c) := by
  have h := announce_onlyNotices (s.withPort { s.port with slots := s.port.slots.raise k c })
  refine ⟨h.eq, ?_, h.port.held, fun _ => announce_settled _⟩
  refine Eq.trans h.port.eq ?_
  rfl

theorem raiseProfile_onlyNotices (s : State) (c : ProfileCause) : OnlyNotices s (s.raiseProfile c) :=
  raise_onlyNotices s _ _

theorem raiseTenant_onlyNotices (s : State) (t : Tenant) (p : TenantState) (c : TenantCause) (x : TenantExtra) :
    OnlyNotices s (s.raiseTenant t p c x) := raise_onlyNotices s _ _

theorem raiseLink_onlyNotices (s : State) (p : LinkState) (c : LinkCause) : OnlyNotices s (s.raiseLink p c) :=
  raise_onlyNotices s _ _

theorem raiseTest_onlyNotices (s : State) (c : TestCause) : OnlyNotices s (s.raiseTest c) := raise_onlyNotices s _ _

theorem raiseStore_onlyNotices (s : State) (c : StoreCause) (x : StoreSubject) : OnlyNotices s (s.raiseStore c x) :=
  raise_onlyNotices s _ _

/-- A fold of an operation that only raises notices does the same. -/
theorem foldl_onlyNotices {α : Type} (f : State → α → State) (h : ∀ s a, OnlyNotices s (f s a)) (l : List α) :
    ∀ s, OnlyNotices s (l.foldl f s) := by
  induction l with
  | nil => exact OnlyNotices.refl
  | cons a l ih => exact fun s => (h s a).trans (ih (f s a))

theorem raiseTiming_onlyNotices (before : Timing) (s : State) (l : List TimingCause) :
    OnlyNotices s (s.raiseTiming before l) :=
  foldl_onlyNotices _ (fun s _ => raise_onlyNotices s _ _) l s

section
variable {s t : State} (h : OnlyNotices s t)
include h
theorem OnlyNotices.role : t.role = s.role := by rw [h.eq]; rfl
theorem OnlyNotices.link : t.link = s.link := by rw [h.eq]; rfl
theorem OnlyNotices.ladder : t.ladder = s.ladder := by rw [h.eq]; rfl
theorem OnlyNotices.planner : t.planner = s.planner := by rw [h.eq]; rfl
theorem OnlyNotices.tenants : t.tenants = s.tenants := by rw [h.eq]; rfl
theorem OnlyNotices.timing : t.timing = s.timing := by rw [h.eq]; rfl
theorem OnlyNotices.test : t.test = s.test := by rw [h.eq]; rfl
theorem OnlyNotices.store : t.store = s.store := by rw [h.eq]; rfl
theorem OnlyNotices.freeIndex : t.freeIndex = s.freeIndex := by rw [h.eq]; rfl
theorem OnlyNotices.pending : t.pending = s.pending := by rw [h.eq]; rfl
end

@[simp] theorem raiseTiming_role (b : Timing) (s : State) (l : List TimingCause) : (s.raiseTiming b l).role = s.role :=
  (raiseTiming_onlyNotices b s l).role
@[simp] theorem raiseTiming_link (b : Timing) (s : State) (l : List TimingCause) : (s.raiseTiming b l).link = s.link :=
  (raiseTiming_onlyNotices b s l).link
@[simp] theorem raiseTiming_ladder (b : Timing) (s : State) (l : List TimingCause) :
    (s.raiseTiming b l).ladder = s.ladder := (raiseTiming_onlyNotices b s l).ladder
@[simp] theorem raiseTiming_planner (b : Timing) (s : State) (l : List TimingCause) :
    (s.raiseTiming b l).planner = s.planner := (raiseTiming_onlyNotices b s l).planner
@[simp] theorem raiseTiming_tenants (b : Timing) (s : State) (l : List TimingCause) :
    (s.raiseTiming b l).tenants = s.tenants := (raiseTiming_onlyNotices b s l).tenants
@[simp] theorem raiseTiming_timing (b : Timing) (s : State) (l : List TimingCause) :
    (s.raiseTiming b l).timing = s.timing := (raiseTiming_onlyNotices b s l).timing
@[simp] theorem raiseTiming_test (b : Timing) (s : State) (l : List TimingCause) : (s.raiseTiming b l).test = s.test :=
  (raiseTiming_onlyNotices b s l).test
@[simp] theorem raiseTiming_store (b : Timing) (s : State) (l : List TimingCause) :
    (s.raiseTiming b l).store = s.store := (raiseTiming_onlyNotices b s l).store
@[simp] theorem raiseTiming_freeIndex (b : Timing) (s : State) (l : List TimingCause) :
    (s.raiseTiming b l).freeIndex = s.freeIndex := (raiseTiming_onlyNotices b s l).freeIndex
@[simp] theorem raiseTiming_pending (b : Timing) (s : State) (l : List TimingCause) :
    (s.raiseTiming b l).pending = s.pending := (raiseTiming_onlyNotices b s l).pending

/-! ## The choice on a free line -/

/-- See `announce_onlyNotices`: the fields of the port that the choice writes. -/
theorem announce_eq (s : State) :
    announce s = s.withPort { s.port with line := (announce s).port.line, slots := (announce s).port.slots } := by
  have h := announce_onlyNotices s
  rw [h.eq]
  exact congrArg s.withPort h.port.eq

@[simp] theorem announce_role (s : State) : (announce s).role = s.role := by rw [announce_eq]; rfl
@[simp] theorem announce_link (s : State) : (announce s).link = s.link := by rw [announce_eq]; rfl
@[simp] theorem announce_ladder (s : State) : (announce s).ladder = s.ladder := by rw [announce_eq]; rfl
@[simp] theorem announce_planner (s : State) : (announce s).planner = s.planner := by rw [announce_eq]; rfl
@[simp] theorem announce_tenants (s : State) : (announce s).tenants = s.tenants := by rw [announce_eq]; rfl
@[simp] theorem announce_tenant (s : State) (x : Tenant) : (announce s).tenant x = s.tenant x := by
  simp [State.tenant]
@[simp] theorem announce_timing (s : State) : (announce s).timing = s.timing := by rw [announce_eq]; rfl
@[simp] theorem announce_test (s : State) : (announce s).test = s.test := by rw [announce_eq]; rfl
@[simp] theorem announce_store (s : State) : (announce s).store = s.store := by rw [announce_eq]; rfl
@[simp] theorem announce_freeIndex (s : State) : (announce s).freeIndex = s.freeIndex := by rw [announce_eq]; rfl
@[simp] theorem announce_pending (s : State) : (announce s).pending = s.pending := by rw [announce_eq]; rfl

/-- Nothing is announced while the line is busy or a reply waits (R172). -/
theorem announce_busy (s : State) (h : s.port.freeForNotice = false) : announce s = s := by
  simp [announce, h]

/-- On a line that is not free, a notice raised waits in its slot (R172, R173). -/
theorem raise_busy (s : State) (k : NoticeKind) (c : NoticeContent) (h : s.port.freeForNotice = false) :
    s.raise k c = s.withPort { s.port with slots := s.port.slots.raise k c } := announce_busy _ h

/-! ## Events of the Test Controller -/

/-- A tenant keeps its state, or a drain completes (R45). -/
def stateKept (u v : TenantUnit) : Prop := v.state = u.state ∨ (u.state = .draining ∧ v.state = .off)

/-- What an event of the Test Controller leaves alone: every block but the forced profile, the queues, the Test
Controller itself and the notices. -/
structure StepFrame (s t : State) : Prop where
  role : t.role = s.role
  link : t.link = s.link
  planner : t.planner = s.planner
  timing : t.timing = s.timing
  store : t.store = s.store
  freeIndex : t.freeIndex = s.freeIndex
  pending : t.pending = s.pending
  port : PortNoticed s.port t.port
  ladder : t.ladder = { s.ladder with forced := t.ladder.forced }
  state : ∀ x, stateKept (s.tenant x) (t.tenant x)

theorem StepFrame.refl (s : State) : StepFrame s s := ⟨rfl, rfl, rfl, rfl, rfl, rfl, rfl, .refl _, rfl, fun _ => .inl rfl⟩

theorem StepFrame.trans {s t u : State} (h : StepFrame s t) (k : StepFrame t u) : StepFrame s u where
  role := k.role.trans h.role
  link := k.link.trans h.link
  planner := k.planner.trans h.planner
  timing := k.timing.trans h.timing
  store := k.store.trans h.store
  freeIndex := k.freeIndex.trans h.freeIndex
  pending := k.pending.trans h.pending
  port := h.port.trans k.port
  ladder := by rw [k.ladder, h.ladder]
  state := fun x => by
    rcases h.state x with a | ⟨a, b⟩ <;> rcases k.state x with c | ⟨c, d⟩ <;> simp_all [stateKept]

theorem OnlyNotices.stepFrame {s t : State} (h : OnlyNotices s t) : StepFrame s t :=
  ⟨h.role, h.link, h.planner, h.timing, h.store, h.freeIndex, h.pending, h.port, by rw [h.ladder],
    fun x => .inl (by simp [State.tenant, h.tenants])⟩

theorem withTest_stepFrame (s : State) (t : TestUnit) : StepFrame s (s.withTest t) :=
  ⟨rfl, rfl, rfl, rfl, rfl, rfl, rfl, .refl _, rfl, fun _ => .inl rfl⟩

theorem withWork_stepFrame (s : State) (w : Option Working) : StepFrame s (s.withWork w) := withTest_stepFrame s _

theorem forced_stepFrame (s : State) (f : Option Nat) : StepFrame s (s.withLadder { s.ladder with forced := f }) :=
  ⟨rfl, rfl, rfl, rfl, rfl, rfl, rfl, .refl _, rfl, fun _ => .inl rfl⟩

theorem withTenant_stepFrame (s : State) (x : Tenant) (u : TenantUnit) (h : stateKept (s.tenant x) u) :
    StepFrame s (s.withTenant x u) :=
  ⟨rfl, rfl, rfl, rfl, rfl, rfl, rfl, .refl _, rfl, fun y => by
    by_cases e : y = x
    · subst e; simpa using h
    · rw [State.withTenant_other _ _ _ _ e]; exact .inl rfl⟩

theorem foldl_stepFrame {α : Type} (f : State → α → State) (h : ∀ s a, StepFrame s (f s a)) (l : List α) :
    ∀ s, StepFrame s (l.foldl f s) := by
  induction l with
  | nil => exact StepFrame.refl
  | cons a l ih => exact fun s => (h s a).trans (ih (f s a))

theorem setForce_stepFrame (p : Nat) (s : State) : StepFrame s (setForce p s) :=
  (forced_stepFrame s _).trans (raiseProfile_onlyNotices _ _).stepFrame

theorem removeForce_stepFrame (s : State) : StepFrame s (removeForce s) := by
  unfold removeForce
  split
  · exact (forced_stepFrame s _).trans (raiseProfile_onlyNotices _ _).stepFrame
  · exact .refl s

theorem drainIfEmpty_stepFrame (x : Tenant) (s : State) : StepFrame s (drainIfEmpty x s) := by
  unfold drainIfEmpty
  split
  · next h =>
    exact (withTenant_stepFrame s x _ (.inr ⟨h.1, rfl⟩)).trans (raiseTenant_onlyNotices _ _ _ _ _).stepFrame
  · exact .refl s

@[simp] theorem TenantUnit.judgePause_state (u : TenantUnit) : u.judgePause.state = u.state := by
  unfold TenantUnit.judgePause; split <;> rfl

@[simp] theorem TenantUnit.judgeXoff_state (u : TenantUnit) : u.judgeXoff.state = u.state := rfl

@[simp] theorem TenantUnit.takeTest_state (u : TenantUnit) (f : BitVec 32) (r : BitVec 16) (k : Nat) (d : List Byte) :
    (u.takeTest f r k d).state = u.state := by simp [TenantUnit.takeTest, TenantUnit.append]

@[simp] theorem TenantUnit.removeTest_state (u : TenantUnit) (r : BitVec 16) (k : Nat) :
    (u.removeTest r k).1.state = u.state := by simp [TenantUnit.removeTest]

theorem injectPackets_state (f : BitVec 32) (r : BitVec 16) (c l n : Nat) :
    ∀ x, (injectPackets f r c l n x).1.state = x.1.state := by
  induction n with
  | zero => intro x; rfl
  | succ n ih => rintro ⟨u, w⟩; unfold injectPackets; split <;> simp [ih]

theorem inject_stepFrame (x : Tenant) (s : State) : StepFrame s (inject x s) := by
  unfold inject
  repeat' split
  all_goals first
    | exact .refl s
    | exact (withTenant_stepFrame s x _ (.inl (injectPackets_state _ _ _ _ _ _))).trans (withWork_stepFrame _ _)

theorem countPathEntries_stepFrame (a b : List Entry) (s : State) : StepFrame s (countPathEntries a b s) := by
  unfold countPathEntries
  repeat' split
  all_goals first | exact .refl s | exact withWork_stepFrame s _

theorem endPathActive_stepFrame (s : State) : StepFrame s (endPathActive s) := by
  unfold endPathActive
  repeat' split
  all_goals first | exact .refl s | exact withWork_stepFrame s _

theorem removeStepEntries_stepFrame (w : Working) (s : State) : StepFrame s (removeStepEntries w s) := by
  unfold removeStepEntries
  split
  · next x _ _ _ _ _ _ _ =>
    exact ((withTenant_stepFrame s x _ (.inl (TenantUnit.removeTest_state _ _ _))).trans (withTest_stepFrame _ _)).trans
      (drainIfEmpty_stepFrame x _)
  · exact .refl s

theorem closeStep_stepFrame (w : Working) (v : Verdict) (r : EndReason) (s : State) : StepFrame s (closeStep w v r s) := by
  unfold closeStep
  refine StepFrame.trans ?_ (raiseTest_onlyNotices _ _).stepFrame
  refine StepFrame.trans ?_ (withTest_stepFrame _ _)
  refine StepFrame.trans ?_ (removeStepEntries_stepFrame _ _)
  split
  · exact removeForce_stepFrame s
  · exact .refl s

theorem skipRest_stepFrame (i : Nat) (r : EndReason) (s : State) : StepFrame s (skipRest i r s) := withTest_stepFrame s _

theorem finishRun_stepFrame (a : Bool) (s : State) : StepFrame s (finishRun a s) :=
  (withTest_stepFrame s _).trans (raiseTest_onlyNotices _ _).stepFrame

theorem beginStep_stepFrame (w : Working) (s : State) : StepFrame s (beginStep w s).1 := by
  unfold beginStep
  repeat' split
  all_goals first
    | exact withWork_stepFrame s _
    | exact (setForce_stepFrame _ s).trans (withWork_stepFrame _ _)
    | exact (withWork_stepFrame s _).trans (inject_stepFrame _ _)

theorem startStep_stepFrame (i : Nat) (s : State) : StepFrame s (startStep i s).1 := by
  unfold startStep
  split
  · exact .refl s
  · exact beginStep_stepFrame _ s

theorem endStepFor_stepFrame (n : Nat) : ∀ v r s, StepFrame s (endStepFor n v r s) := by
  induction n with
  | zero => intro v r s; exact .refl s
  | succ n ih =>
    intro v r s
    unfold endStepFor
    split
    · exact .refl s
    · next w _ =>
      have hc := closeStep_stepFrame w v r s
      dsimp only
      split
      · exact (hc.trans (skipRest_stepFrame _ _ _)).trans (finishRun_stepFrame _ _)
      · split
        · exact hc.trans (finishRun_stepFrame _ _)
        · have hs := startStep_stepFrame (w.index + 1) (closeStep w v r s)
          split
          · next h => rw [h] at hs; exact hc.trans hs
          · next h => rw [h] at hs; exact (hc.trans hs).trans (ih _ _ _)

theorem endStep_stepFrame (v : Verdict) (r : EndReason) (s : State) : StepFrame s (endStep v r s) := by
  unfold endStep
  split
  · exact endStepFor_stepFrame _ _ _ _
  · exact .refl s

theorem abortRun_stepFrame (r : EndReason) (s : State) : StepFrame s (abortRun r s) := by
  unfold abortRun
  split
  · exact finishRun_stepFrame _ _
  · exact ((closeStep_stepFrame _ _ _ _).trans (skipRest_stepFrame _ _ _)).trans (finishRun_stepFrame _ _)

theorem stepLinkLost_stepFrame (s : State) : StepFrame s (stepLinkLost s) := by
  unfold stepLinkLost
  repeat' split
  all_goals first | exact .refl s | exact endStep_stepFrame _ _ _

theorem stepTenantLeft_stepFrame (x : Tenant) (s : State) : StepFrame s (stepTenantLeft x s) := by
  unfold stepTenantLeft
  repeat' split
  all_goals first | exact .refl s | exact endStep_stepFrame _ _ _

theorem stepWatch_stepFrame (s : State) : StepFrame s (stepWatch s) := by
  unfold stepWatch
  repeat' split
  all_goals first | exact .refl s | exact endStep_stepFrame _ _ _

theorem crossSample_stepFrame (m : Int) (s : State) : StepFrame s (crossSample m s) := by
  unfold crossSample
  dsimp only
  repeat' split
  all_goals first
    | exact .refl s
    | exact withWork_stepFrame s _
    | exact (withWork_stepFrame s _).trans (endStep_stepFrame _ _ _)

theorem takeReport_stepFrame (r : Report) (s : State) : StepFrame s (takeReport r s) := by
  unfold takeReport
  dsimp only
  repeat' split
  all_goals first
    | exact withTest_stepFrame s _
    | exact withWork_stepFrame s _
    | exact (withWork_stepFrame s _).trans (endStep_stepFrame _ _ _)

theorem leadOver_stepFrame (s : State) : StepFrame s (leadOver s) := by
  unfold leadOver
  repeat' split
  all_goals first | exact .refl s | exact withWork_stepFrame s _

theorem activeOver_stepFrame (s : State) : StepFrame s (activeOver s) := by
  unfold activeOver
  repeat' split
  all_goals first | exact .refl s | exact withWork_stepFrame s _

theorem tailOver_stepFrame (s : State) : StepFrame s (tailOver s) := by
  unfold tailOver
  repeat' split
  all_goals first | exact .refl s | exact withWork_stepFrame s _ | exact endStep_stepFrame _ _ _

theorem reportWaitOver_stepFrame (s : State) : StepFrame s (reportWaitOver s) := by
  unfold reportWaitOver
  split
  · exact endStep_stepFrame _ _ _
  · exact .refl s

theorem waitOver_stepFrame (s : State) : StepFrame s (waitOver s) := by
  unfold waitOver
  split
  · exact endStep_stepFrame _ _ _
  · exact .refl s

theorem crossOver_stepFrame (s : State) : StepFrame s (crossOver s) := by
  unfold crossOver
  split
  · exact endStep_stepFrame _ _ _
  · exact .refl s

theorem runFirstStep_stepFrame (s : State) : StepFrame s (runFirstStep s) := by
  unfold runFirstStep
  have hs := startStep_stepFrame 0 s
  split
  · next h => rw [h] at hs; exact hs
  · next h => rw [h] at hs; exact hs.trans (endStep_stepFrame _ _ _)

/-! ## Events of the link and of the timing blocks -/

/-- What an event of the link or of the timing blocks leaves alone. -/
structure EventFrame (s t : State) : Prop where
  role : t.role = s.role
  planner : t.planner = s.planner
  store : t.store = s.store
  pending : t.pending = s.pending
  port : PortNoticed s.port t.port
  state : ∀ x, stateKept (s.tenant x) (t.tenant x)
  record : t.ladder.record = s.ladder.record
  frames : t.link.frameCounter = s.link.frameCounter ∧ t.link.txSeq = s.link.txSeq ∧ t.link.frame = s.link.frame

theorem EventFrame.refl (s : State) : EventFrame s s :=
  ⟨rfl, rfl, rfl, rfl, .refl _, fun _ => .inl rfl, rfl, rfl, rfl, rfl⟩

theorem EventFrame.trans {s t u : State} (h : EventFrame s t) (k : EventFrame t u) : EventFrame s u where
  role := k.role.trans h.role
  planner := k.planner.trans h.planner
  store := k.store.trans h.store
  pending := k.pending.trans h.pending
  port := h.port.trans k.port
  state := fun x => by
    rcases h.state x with a | ⟨a, b⟩ <;> rcases k.state x with c | ⟨c, d⟩ <;> simp_all [stateKept]
  record := k.record.trans h.record
  frames := ⟨k.frames.1.trans h.frames.1, k.frames.2.1.trans h.frames.2.1, k.frames.2.2.trans h.frames.2.2⟩

theorem StepFrame.eventFrame {s t : State} (h : StepFrame s t) : EventFrame s t :=
  ⟨h.role, h.planner, h.store, h.pending, h.port, h.state, by rw [h.ladder], by rw [h.link], by rw [h.link],
    by rw [h.link]⟩

theorem OnlyNotices.eventFrame {s t : State} (h : OnlyNotices s t) : EventFrame s t := h.stepFrame.eventFrame

theorem withTiming_eventFrame (s : State) (t : Timing) : EventFrame s (s.withTiming t) :=
  ⟨rfl, rfl, rfl, rfl, .refl _, fun _ => .inl rfl, rfl, rfl, rfl, rfl⟩

theorem withTest_eventFrame (s : State) (t : TestUnit) : EventFrame s (s.withTest t) := (withTest_stepFrame s t).eventFrame

theorem withFreeIndex_eventFrame (s : State) (n : Nat) : EventFrame s (s.withFreeIndex n) :=
  ⟨rfl, rfl, rfl, rfl, .refl _, fun _ => .inl rfl, rfl, rfl, rfl, rfl⟩

theorem withLadder_eventFrame (s : State) (l : Ladder) (h : l.record = s.ladder.record) : EventFrame s (s.withLadder l) :=
  ⟨rfl, rfl, rfl, rfl, .refl _, fun _ => .inl rfl, h, rfl, rfl, rfl⟩

theorem withLink_eventFrame (s : State) (l : LinkUnit)
    (h : l.frameCounter = s.link.frameCounter ∧ l.txSeq = s.link.txSeq ∧ l.frame = s.link.frame) :
    EventFrame s (s.withLink l) :=
  ⟨rfl, rfl, rfl, rfl, .refl _, fun _ => .inl rfl, rfl, h⟩

theorem withTenant_eventFrame (s : State) (x : Tenant) (u : TenantUnit) (h : stateKept (s.tenant x) u) :
    EventFrame s (s.withTenant x u) := (withTenant_stepFrame s x u h).eventFrame

theorem foldl_eventFrame {α : Type} (f : State → α → State) (h : ∀ s a, EventFrame s (f s a)) (l : List α) :
    ∀ s, EventFrame s (l.foldl f s) := by
  induction l with
  | nil => exact EventFrame.refl
  | cons a l ih => exact fun s => (h s a).trans (ih (f s a))

theorem timingEvent_eventFrame (t : Timing) (s : State) : EventFrame s (timingEvent t s) :=
  ((withTiming_eventFrame s t).trans (raiseTiming_onlyNotices _ _ _).eventFrame).trans (stepWatch_stepFrame _).eventFrame

@[simp] theorem timingEvent_timing (t : Timing) (s : State) : (timingEvent t s).timing = t := by
  simp [timingEvent, (stepWatch_stepFrame _).timing]

@[simp] theorem timingEvent_link (t : Timing) (s : State) : (timingEvent t s).link = s.link := by
  simp [timingEvent, (stepWatch_stepFrame _).link]

theorem Ladder.judgeDown_record (l : Ladder) (x : Nat) : (l.judgeDown x).1.record = l.record := by
  unfold Ladder.judgeDown
  repeat' split
  all_goals rfl

theorem Ladder.judgeUp_record (l : Ladder) (x : Nat) : (l.judgeUp x).1.record = l.record := by
  unfold Ladder.judgeUp
  repeat' split
  all_goals rfl

theorem Ladder.sample_record (l : Ladder) (q x : Nat) : (l.sample q x).1.record = l.record := by
  unfold Ladder.sample
  dsimp only
  split
  · simp [Ladder.judgeDown_record]
  · simp [Ladder.judgeDown_record, Ladder.judgeUp_record]

theorem giveSample_eventFrame (x : Nat) (s : State) : EventFrame s (giveSample x s) := by
  unfold giveSample
  exact EventFrame.trans (withLadder_eventFrame s _ (Ladder.sample_record _ _ _))
    (foldl_onlyNotices _ (fun s _ => raiseProfile_onlyNotices s _) _ _).eventFrame

theorem ladderEntersDown_eventFrame (s : State) : EventFrame s (ladderEntersDown s) := by
  unfold ladderEntersDown
  dsimp only
  have h := withLadder_eventFrame s s.ladder.linkDown rfl
  split
  · exact h.trans (raiseProfile_onlyNotices _ _).eventFrame
  · exact h

theorem enterDown_eventFrame (c : LinkCause) (s : State) : EventFrame s (enterDown c s) := by
  unfold enterDown
  dsimp only
  refine EventFrame.trans ?_ (stepWatch_stepFrame _).eventFrame
  refine EventFrame.trans ?_ (stepLinkLost_stepFrame _).eventFrame
  refine EventFrame.trans ?_ (raiseTiming_onlyNotices _ _ _).eventFrame
  refine EventFrame.trans ?_ (withTiming_eventFrame _ _)
  refine EventFrame.trans ?_ (ladderEntersDown_eventFrame _)
  refine EventFrame.trans ?_ (raiseLink_onlyNotices _ _ _).eventFrame
  exact withLink_eventFrame _ _ ⟨rfl, rfl, rfl⟩

theorem lostEffect_eventFrame (s : State) : EventFrame s (lostEffect s) := by
  unfold lostEffect
  split
  · exact .refl s
  · exact enterDown_eventFrame _ s
  · split
    · exact enterDown_eventFrame _ s
    · exact withLink_eventFrame _ _ ⟨rfl, rfl, rfl⟩

theorem absentDue_eventFrame (s : State) : EventFrame s (absentDue s) := by
  unfold absentDue
  split
  · refine EventFrame.trans ?_ (lostEffect_eventFrame _)
    exact withLink_eventFrame _ _ ⟨rfl, rfl, rfl⟩
  · exact .refl s

theorem supervisionDue_eventFrame (s : State) : EventFrame s (supervisionDue s) := by
  unfold supervisionDue
  split
  · exact timingEvent_eventFrame _ s
  · exact .refl s

theorem agingDue_eventFrame (s : State) : EventFrame s (agingDue s) := by
  unfold agingDue
  split
  · exact withTiming_eventFrame s _
  · exact .refl s

theorem limitDue_eventFrame (s : State) : EventFrame s (limitDue s) := by
  unfold limitDue
  split
  · exact timingEvent_eventFrame _ s
  · exact .refl s

theorem overdueAbsence_eventFrame (i : PulseInput) (s : State) : EventFrame s (overdueAbsence i s) := by
  unfold overdueAbsence
  split
  · exact timingEvent_eventFrame _ s
  · exact .refl s

theorem settle_eventFrame (s : State) : EventFrame s (settle s) := by
  unfold settle
  exact (((((((((((overdueAbsence_eventFrame _ _).trans (overdueAbsence_eventFrame _ _)).trans
    (absentDue_eventFrame _)).trans (supervisionDue_eventFrame _)).trans (agingDue_eventFrame _)).trans
    (limitDue_eventFrame _)).trans (leadOver_stepFrame _).eventFrame).trans (activeOver_stepFrame _).eventFrame).trans
    (tailOver_stepFrame _).eventFrame).trans (reportWaitOver_stepFrame _).eventFrame).trans
    (waitOver_stepFrame _).eventFrame).trans (crossOver_stepFrame _).eventFrame

/-- Where no event stands due, nothing is taken. -/
theorem settle_quiet (s : State) (h : s.quiet = true) : settle s = s := by
  simp only [State.quiet, Bool.and_eq_true, Bool.not_eq_true', Option.isNone_iff_eq_none] at h
  simp only [settle, overdueAbsence, absentDue, supervisionDue, Machine.agingDue, limitDue, leadOver, activeOver, tailOver,
    reportWaitOver, waitOver, crossOver, h, Bool.false_eq_true, if_false]

/-! ## A received frame -/

theorem enterUpTiming_eventFrame (s : State) : EventFrame s (enterUpTiming s) := by
  unfold enterUpTiming
  split
  · exact timingEvent_eventFrame _ s
  · exact (stepWatch_stepFrame s).eventFrame

theorem goodEffect_eventFrame (s : State) : EventFrame s (goodEffect s) := by
  unfold goodEffect
  repeat' split
  · refine EventFrame.trans ?_ (raiseLink_onlyNotices _ _ _).eventFrame
    exact withLink_eventFrame _ _ ⟨rfl, rfl, rfl⟩
  · refine EventFrame.trans ?_ (enterUpTiming_eventFrame _)
    refine EventFrame.trans ?_ (raiseLink_onlyNotices _ _ _).eventFrame
    exact withLink_eventFrame _ _ ⟨rfl, rfl, rfl⟩
  · exact withLink_eventFrame _ _ ⟨rfl, rfl, rfl⟩
  · exact withLink_eventFrame _ _ ⟨rfl, rfl, rfl⟩

theorem passEndMark_eventFrame (h : Header) (s : State) : EventFrame s (passEndMark h s) := by
  unfold passEndMark
  repeat' split
  all_goals first | exact .refl s | exact withTest_eventFrame s _

theorem handOn_eventFrame (x : Source) (m w : Int) (s : State) : EventFrame s (handOn x m w s) :=
  ((withTiming_eventFrame s _).trans (raiseTiming_onlyNotices _ _ _).eventFrame).trans (stepWatch_stepFrame _).eventFrame

theorem takeSync_eventFrame (b : List Byte) (m : Stamp) (s : State) : EventFrame s (takeSync b m s) :=
  (timingEvent_eventFrame _ s).trans (withTiming_eventFrame _ _)

theorem takeDelayReq_eventFrame (b : List Byte) (m : Stamp) (s : State) : EventFrame s (takeDelayReq b m s) :=
  withTiming_eventFrame s _

theorem takeDelayResp_eventFrame (b : List Byte) (s : State) : EventFrame s (takeDelayResp b s) := by
  unfold takeDelayResp
  dsimp only
  split
  · exact timingEvent_eventFrame _ s
  · exact (timingEvent_eventFrame _ s).trans (handOn_eventFrame _ _ _ _)

theorem routeControl_eventFrame (m : Stamp) (s : State) (kp : ControlKind × Position) :
    EventFrame s (routeControl m s kp) := by
  unfold routeControl
  repeat' split
  · exact withLink_eventFrame _ _ ⟨rfl, rfl, rfl⟩
  · exact takeSync_eventFrame _ _ s
  · exact takeDelayReq_eventFrame _ _ s
  · exact takeDelayResp_eventFrame _ s
  · exact (takeReport_stepFrame _ s).eventFrame

/-- Only the egress side of a unit differs. -/
def EgressOnly (u v : TenantUnit) : Prop :=
  v = { u with expected := v.expected, packet := v.packet, egress := v.egress, delivering := v.delivering,
               holdSeen := v.holdSeen, portErrored := v.portErrored, xoff := v.xoff, egressCounters := v.egressCounters }

theorem EgressOnly.trans {u v w : TenantUnit} (h : EgressOnly u v) (k : EgressOnly v w) : EgressOnly u w := by
  unfold EgressOnly at *
  rw [k, h]

theorem EgressOnly.state {u v : TenantUnit} (h : EgressOnly u v) : v.state = u.state := by rw [h]

theorem EgressOnly.queue {u v : TenantUnit} (h : EgressOnly u v) : v.queue = u.queue := by rw [h]

theorem EgressOnly.record {u v : TenantUnit} (h : EgressOnly u v) : v.record = u.record := by rw [h]

theorem gapCheck_egressOnly (u : TenantUnit) (g : Segment) (b : Bool) : EgressOnly u (u.gapCheck g b) := by
  unfold TenantUnit.gapCheck
  dsimp only
  split <;> rfl

theorem firstBlock_egressOnly (u : TenantUnit) (g : Segment) (b : Bool) : EgressOnly u (u.firstBlock g b).1 := by
  unfold TenantUnit.firstBlock
  dsimp only
  repeat' split
  all_goals rfl

theorem continuationBlock_egressOnly (u : TenantUnit) (g : Segment) (b : Bool) :
    EgressOnly u (u.continuationBlock g b).1 := by
  unfold TenantUnit.continuationBlock
  dsimp only
  repeat' split
  all_goals rfl

theorem takeBlock_egressOnly (u : TenantUnit) (g : Segment) (b : Bool) : EgressOnly u (u.takeBlock g b).1 := by
  unfold TenantUnit.takeBlock
  split
  · exact (gapCheck_egressOnly u g b).trans (firstBlock_egressOnly _ g b)
  · exact (gapCheck_egressOnly u g b).trans (continuationBlock_egressOnly _ g b)

theorem beginDelivery_egressOnly (u : TenantUnit) : EgressOnly u u.beginDelivery := by
  unfold TenantUnit.beginDelivery
  repeat' split
  all_goals rfl

theorem judgeXoff_egressOnly (u : TenantUnit) : EgressOnly u u.judgeXoff := rfl

theorem completeTenant_egressOnly (u : TenantUnit) (p : Packet) : EgressOnly u (u.completeTenant p).1 := by
  unfold TenantUnit.completeTenant
  dsimp only
  repeat' split
  · rfl
  · rfl
  · rfl
  · refine EgressOnly.trans ?_ (beginDelivery_egressOnly _)
    refine EgressOnly.trans ?_ (judgeXoff_egressOnly _)
    rfl

theorem completeTest_egressOnly (u : TenantUnit) : EgressOnly u u.completeTest := rfl

theorem endDelivery_egressOnly (u : TenantUnit) : EgressOnly u u.endDelivery := by
  unfold TenantUnit.endDelivery
  repeat' split
  · rfl
  · refine EgressOnly.trans ?_ (beginDelivery_egressOnly _)
    refine EgressOnly.trans ?_ (judgeXoff_egressOnly _)
    rfl
  · rfl

theorem egressOnly_eventFrame (s : State) (x : Tenant) (u : TenantUnit) (h : EgressOnly (s.tenant x) u) :
    EventFrame s (s.withTenant x u) := withTenant_eventFrame s x u (.inl h.state)

theorem packetDone_eventFrame (x : Tenant) (p : Packet) (s : State) : EventFrame s (packetDone x p s) := by
  unfold packetDone
  split
  · exact (egressOnly_eventFrame s x _ (completeTest_egressOnly _)).trans (withTest_eventFrame _ _)
  · dsimp only
    have h := egressOnly_eventFrame s x _ (completeTenant_egressOnly (s.tenant x) p)
    split
    · exact h.trans (raiseTenant_onlyNotices _ _ _ _ _).eventFrame
    · exact h

theorem routeTenant_eventFrame (x : Tenant) (s : State) (p : Position) : EventFrame s (routeTenant x s p) := by
  unfold routeTenant
  dsimp only
  have h := egressOnly_eventFrame s x _ (takeBlock_egressOnly (s.tenant x) (segmentAt p.bytes) p.bad)
  split
  · exact h
  · exact h.trans (packetDone_eventFrame _ _ _)

theorem routeTenants_eventFrame (c : Quad Nat) (ps : List Position) (s : State) : EventFrame s (routeTenants c ps s) := by
  unfold routeTenants
  dsimp only
  exact (((foldl_eventFrame _ (routeTenant_eventFrame _) _ s).trans (foldl_eventFrame _ (routeTenant_eventFrame _) _ _)).trans
    (foldl_eventFrame _ (routeTenant_eventFrame _) _ _)).trans (foldl_eventFrame _ (routeTenant_eventFrame _) _ _)

theorem routeFrame_eventFrame (h : Header) (m : Stamp) (ps : List Position) (s : State) :
    EventFrame s (routeFrame h m ps s) := by
  unfold routeFrame
  dsimp only
  have k := foldl_eventFrame _ (routeControl_eventFrame m) (h.controls.zip (ps.drop 1)) s
  split
  · refine EventFrame.trans ?_ (routeTenants_eventFrame _ _ _)
    exact k.trans (foldl_eventFrame _ (fun s p => withTest_eventFrame s _) _ _)
  · exact k.trans (withLink_eventFrame _ _ ⟨rfl, rfl, rfl⟩)

theorem deliverMarker_eventFrame (s : State) : EventFrame s (deliverMarker s) := withTiming_eventFrame s _

theorem takeGood_eventFrame (h : Header) (r : FrameRecord) (m : Stamp) (s : State) : EventFrame s (takeGood h r m s) := by
  unfold takeGood
  dsimp only
  refine EventFrame.trans ?_ (routeFrame_eventFrame _ _ _ _)
  refine EventFrame.trans ?_ (withFreeIndex_eventFrame _ _)
  refine EventFrame.trans ?_ (passEndMark_eventFrame _ _)
  refine EventFrame.trans ?_ (withLink_eventFrame _ _ ⟨rfl, rfl, rfl⟩)
  exact (goodEffect_eventFrame s).trans (giveSample_eventFrame _ _)

theorem takeFrame_eventFrame (r : FrameRecord) (s : State) : EventFrame s (takeFrame r s) := by
  unfold takeFrame
  dsimp only
  have k := (withLink_eventFrame s { s.link with startsSince := 0, counters := s.link.counters.taken (judgeHeader r) }
    ⟨rfl, rfl, rfl⟩).trans (deliverMarker_eventFrame _)
  split
  · exact k.trans (takeGood_eventFrame _ _ _ _)
  · exact (k.trans (giveSample_eventFrame _ _)).trans (lostEffect_eventFrame _)

/-! ## Events of local time -/

theorem tenantSecond_eventFrame (s : State) (x : Tenant) : EventFrame s (tenantSecond s x) := by
  unfold tenantSecond
  dsimp only
  have h : EventFrame s (s.withTenant x ((s.tenant x).second s.timing.servo.cls s.timing.base.now.sec)) := by
    refine withTenant_eventFrame s x _ (.inl ?_)
    unfold TenantUnit.second
    repeat' split
    all_goals rfl
  split
  · exact h
  · exact h.trans (raiseTenant_onlyNotices _ _ _ _ _).eventFrame

theorem timeSetTaken_eventFrame (s : State) (b : Bool) : EventFrame s (s.timeSetTaken b) := by
  unfold State.timeSetTaken
  split
  · exact withTiming_eventFrame s _
  · exact .refl s

theorem secondEvent_eventFrame (s : State) : EventFrame s (secondEvent s) := by
  unfold secondEvent countSecond
  dsimp only
  refine EventFrame.trans ?_ (withTest_eventFrame _ _)
  refine EventFrame.trans ?_ (withTiming_eventFrame _ _)
  refine EventFrame.trans ?_ (foldl_eventFrame _ tenantSecond_eventFrame _ _)
  refine EventFrame.trans ?_ (timeSetTaken_eventFrame _ _)
  exact (withTiming_eventFrame s _).trans (settle_eventFrame _)

theorem takePulse_eventFrame (i : PulseInput) (s : State) : EventFrame s (takePulse i s) := by
  unfold takePulse
  dsimp only
  split
  · have h (after t : Timing) (m : Int) : EventFrame s (handOn i.source m 0 ((timingEvent after s).withTiming t)) :=
      ((timingEvent_eventFrame after s).trans (withTiming_eventFrame _ t)).trans (handOn_eventFrame _ _ _ _)
    split
    · exact (h _ _ _).trans (crossSample_stepFrame _ _).eventFrame
    · exact h _ _ _
  · exact timingEvent_eventFrame _ s

theorem absenceNow_eventFrame (i : PulseInput) (s : State) : EventFrame s (absenceNow i s) := by
  unfold absenceNow
  split
  · exact timingEvent_eventFrame _ _
  · exact .refl s

/-! ## The passing of local time -/

/-- Where no boundary is crossed, local time passes and nothing else happens (R98). -/
theorem passTime_within (dt : Nat) (s : State) (h : dt ≤ s.toBoundary) :
    passTime dt s = s.withBase (s.timing.base.advanceBy dt) := by
  rw [passTime, passOver, if_neg (Nat.not_lt.mpr h)]

/-- No time passes in no time. -/
theorem passTime_zero (s : State) : passTime 0 s = s := by
  rw [passTime_within 0 s (Nat.zero_le _)]
  rfl

end Sys2Proof.Machine
end

