-- ==== Sys2Proof/Laws/Passing.lean ====
section
/-! SUPPORT. What the passing of local time does. `ClockKept`: the events that stand due move no clock. `boundaryEvent`
leaves local time on the boundary whose event it takes, and an advance over a boundary is that event and then the rest of
the advance (`passTime_crossing`). -/

namespace Sys2Proof.Machine

/-! ## Events that move no clock -/

/-- The role and what the passing of time reads: local time and the notes of a boundary stood on. -/
def State.clock (s : State) : Option Role × LocalTime × Bool × Bool :=
  (s.role, s.timing.base.now, s.timing.base.frameHere, s.timing.base.secondHere)

/-- What the passing of time reads in the timing blocks. -/
def Timing.clock (t : Timing) : LocalTime × Bool × Bool := (t.base.now, t.base.frameHere, t.base.secondHere)

/-- From one state to another no clock has moved. -/
def ClockKept (s t : State) : Prop := t.clock = s.clock

theorem ClockKept.trans {s t u : State} (h : ClockKept s t) (k : ClockKept t u) : ClockKept s u := Eq.trans k h

theorem StepFrame.clockKept {s t : State} (h : StepFrame s t) : ClockKept s t := by
  rw [ClockKept, State.clock, State.clock, h.role, h.timing]

theorem OnlyNotices.clockKept {s t : State} (h : OnlyNotices s t) : ClockKept s t := h.stepFrame.clockKept

theorem foldl_clockKept {α : Type} (f : State → α → State) (h : ∀ s a, ClockKept s (f s a)) (l : List α) :
    ∀ s, ClockKept s (l.foldl f s) := by
  induction l with
  | nil => intro s; exact rfl
  | cons a l ih => intro s; exact (h s a).trans (ih _)

theorem withTiming_clockKept (s : State) (t : Timing) (h : t.clock = s.timing.clock) : ClockKept s (s.withTiming t) :=
  congrArg (s.role, ·) h

theorem withLink_clockKept (s : State) (l : LinkUnit) : ClockKept s (s.withLink l) := rfl

theorem takeSelection_clock (t : Timing) (x : Option Source) : (t.takeSelection x).clock = t.clock := by
  unfold Timing.takeSelection Timing.enterHoldover
  repeat' split
  all_goals rfl

/-- The re-evaluation of the selection moves no clock. -/
theorem reselect_clock (t : Timing) : t.reselect.clock = t.clock := takeSelection_clock t _

theorem inputExpired_clock (t : Timing) (i : PulseInput) : (t.inputExpired i).clock = t.clock := by
  rw [Timing.inputExpired, reselect_clock]
  cases i <;> rfl

theorem timingEvent_clockKept (t : Timing) (s : State) (h : t.clock = s.timing.clock) : ClockKept s (timingEvent t s) :=
  ((withTiming_clockKept s t h).trans (raiseTiming_onlyNotices _ _ _).clockKept).trans (stepWatch_stepFrame _).clockKept

theorem ladderEntersDown_clockKept (s : State) : ClockKept s (ladderEntersDown s) := by
  unfold ladderEntersDown
  dsimp only
  split
  · exact (raiseProfile_onlyNotices _ _).clockKept
  · rfl

theorem enterDown_clockKept (c : LinkCause) (s : State) : ClockKept s (enterDown c s) := by
  unfold enterDown
  dsimp only
  refine ClockKept.trans ?_ ((stepLinkLost_stepFrame _).trans (stepWatch_stepFrame _)).clockKept
  refine ClockKept.trans ?_ (raiseTiming_onlyNotices _ _ _).clockKept
  refine ClockKept.trans ?_ (withTiming_clockKept _ _ (reselect_clock _))
  refine ClockKept.trans ?_ (ladderEntersDown_clockKept _)
  exact (withLink_clockKept s _).trans (raiseLink_onlyNotices _ _ _).clockKept

theorem absentDue_clockKept (s : State) : ClockKept s (absentDue s) := by
  unfold absentDue lostEffect
  repeat' split
  all_goals first | rfl | exact (withLink_clockKept s _).trans (enterDown_clockKept _ _)

theorem supervisionDue_clockKept (s : State) : ClockKept s (supervisionDue s) := by
  unfold supervisionDue
  split
  · exact timingEvent_clockKept _ s (reselect_clock _)
  · rfl

theorem agingDue_clockKept (s : State) : ClockKept s (agingDue s) := by
  unfold agingDue
  split
  · exact withTiming_clockKept s _ rfl
  · rfl

theorem limitDue_clockKept (s : State) : ClockKept s (limitDue s) := by
  unfold limitDue
  split
  · exact timingEvent_clockKept _ s rfl
  · rfl

theorem overdueAbsence_clockKept (i : PulseInput) (s : State) : ClockKept s (overdueAbsence i s) := by
  unfold overdueAbsence
  split
  · exact timingEvent_clockKept _ s (inputExpired_clock _ i)
  · rfl

/-- What stands due moves no clock. -/
theorem settle_clockKept (s : State) : ClockKept s (settle s) := by
  unfold settle
  have h (u : State) := ((leadOver_stepFrame u).trans (activeOver_stepFrame _)).trans (tailOver_stepFrame _)
  have k (u : State) := ((reportWaitOver_stepFrame u).trans (waitOver_stepFrame _)).trans (crossOver_stepFrame _)
  refine ClockKept.trans ?_ ((h _).trans (k _)).clockKept
  refine ClockKept.trans ?_ ((agingDue_clockKept _).trans (limitDue_clockKept _))
  refine ClockKept.trans ?_ ((absentDue_clockKept _).trans (supervisionDue_clockKept _))
  exact (overdueAbsence_clockKept _ _).trans (overdueAbsence_clockKept _ _)

theorem tenantSecond_clockKept (s : State) (x : Tenant) : ClockKept s (tenantSecond s x) := by
  unfold tenantSecond
  dsimp only
  split
  · rfl
  · exact (raiseTenant_onlyNotices _ _ _ _ _).clockKept

theorem timeSetTaken_clockKept (s : State) (b : Bool) : ClockKept s (s.timeSetTaken b) := by
  unfold State.timeSetTaken
  split <;> rfl

theorem countSecond_clockKept (s : State) : ClockKept s (countSecond s) := rfl

/-- A second boundary moves the clock to it, and nothing after that moves it (R98). -/
theorem secondEvent_clockKept (s : State) : ClockKept (s.withBase s.timing.base.reachSecond) (secondEvent s) := by
  refine ClockKept.trans ?_ (countSecond_clockKept _)
  refine ClockKept.trans ?_ (foldl_clockKept _ tenantSecond_clockKept _ _)
  exact (settle_clockKept _).trans (timeSetTaken_clockKept _ _)

theorem placeControl_clockKept (s : State) (k : ControlKind) : ClockKept s (placeControl s k) := by cases k <;> rfl

theorem withPlanner_clock (s : State) (p : Planner) : (s.withPlanner p).clock = s.clock := rfl

theorem withLadder_clock (s : State) (l : Ladder) : (s.withLadder l).clock = s.clock := rfl

theorem raiseTxChange_clockKept (n : Nat) (s : State) : ClockKept s (raiseTxChange n s) := by
  unfold raiseTxChange
  split
  · rfl
  · exact (raiseProfile_onlyNotices _ _).clockKept

theorem handOver_clockKept (p : Plan × Vector Tenant 8) (g : Quad TenantGiven) (s : State) :
    ClockKept s (handOver p g s) := by
  rw [handOver, ClockKept, withLadder_clock, withPlanner_clock]
  exact ((foldl_clockKept _ placeControl_clockKept p.1.controls s).trans (withLink_clockKept _ _)).trans
    (raiseTxChange_clockKept _ _)

theorem withTest_clockKept (s : State) (t : TestUnit) : ClockKept s (s.withTest t) := rfl

theorem tenantGives_clockKept (g : Quad TenantGiven) (s : State) (x : Tenant) : ClockKept s (tenantGives g s x) :=
  ClockKept.trans (t := s.withTenant x _) rfl (drainIfEmpty_stepFrame x _).clockKept

theorem giveUp_clockKept (p : Plan) (g : Quad TenantGiven) (n : Nat) (s : State) : ClockKept s (giveUp p g n s) :=
  (foldl_clockKept _ (tenantGives_clockKept g) Tenant.all s).trans (withTest_clockKept _ _)

theorem pathOccasion_clockKept (q : Quad TenantUnit) (g : Quad TenantGiven) (s : State) :
    ClockKept s (pathOccasion q g s) := by
  refine ClockKept.trans (foldl_clockKept _ (fun u x => ?_) _ s) (endPathActive_stepFrame _).clockKept
  unfold tenantTests
  dsimp only
  split
  · exact ((countPathEntries_stepFrame _ _ u).trans (inject_stepFrame x _)).clockKept
  · exact (countPathEntries_stepFrame _ _ u).clockKept

/-- A frame handed over uses the boundary it starts on and moves no clock (R3). -/
theorem sendFrame_clock (s : State) :
    (sendFrame s).clock = (s.role, s.timing.base.now, false, s.timing.base.secondHere) := by
  have h := (handOver_clockKept s.plan (s.given s.plan.1) s).trans
    (giveUp_clockKept s.plan.1 (s.given s.plan.1) s.nextTxProfile _)
  simp only [ClockKept, State.clock, Prod.mk.injEq] at h
  obtain ⟨hr, hn, -, hs⟩ := h
  refine Eq.trans (pathOccasion_clockKept _ _ _) ?_
  simp only [State.clock, frameDone, State.withBase, State.withTiming, State.withLink, hr, hn, hs]

/-! ## Where the event of a boundary leaves local time -/

/-- Local time stands at least a frame period before the boundary whose event comes next. -/
structure Rested (s : State) : Prop where
  second : s.timing.base.secondHere = false
  aligned : s.timing.base.now.half % 250000 = 0
  within : s.timing.base.now.half < 2000000000
  frame : s.role ≠ none → s.timing.base.frameHere = false

theorem Rested.timeInv {s : State} (h : Rested s) : s.timeInv :=
  ⟨h.within, fun _ => h.aligned, fun k => absurd (h.second.symm.trans k) (by decide)⟩

theorem Rested.period {s : State} (h : Rested s) : 250000 ≤ s.toBoundary := by
  have ha := h.aligned
  have hw := h.within
  unfold State.toBoundary TimeBase.toSecond TimeBase.toFrame
  rw [h.second]
  simp only [Config.halfPerSecond, Config.halfPerFrame, Bool.false_eq_true, if_false]
  split
  · omega
  · next hr => rw [h.frame hr]; simp only [Bool.false_eq_true, if_false]; omega

/-- An advance that is one moves local time and notes the boundaries it ends on (R98). -/
theorem advanceBy_moves (dt : Nat) (b : TimeBase) (h : 0 < dt) :
    (b.advanceBy dt).now.half = (b.now.half + dt) % 2000000000 ∧
      (b.advanceBy dt).frameHere = ((b.now.half + dt) % 250000 == 0) ∧
      (b.advanceBy dt).secondHere = ((b.now.half + dt) % 2000000000 == 0) := by
  rw [TimeBase.advanceBy, if_neg (Nat.ne_of_gt h)]
  exact ⟨rfl, rfl, rfl⟩

theorem advanceBy_zero (b : TimeBase) : b.advanceBy 0 = b := rfl

theorem toSecond_here {b : TimeBase} (h : b.secondHere = true) : b.toSecond = 0 := by rw [TimeBase.toSecond, if_pos h]

theorem toSecond_ahead {b : TimeBase} (h : b.secondHere = false) : b.toSecond = 2000000000 - b.now.half := by
  rw [TimeBase.toSecond, h]; rfl

theorem toFrame_here {b : TimeBase} (h : b.frameHere = true) : b.toFrame = 0 := by rw [TimeBase.toFrame, if_pos h]

theorem toFrame_ahead {b : TimeBase} (h : b.frameHere = false) : b.toFrame = 250000 - b.now.half % 250000 := by
  rw [TimeBase.toFrame, h]; rfl

/-- A second boundary taken leaves local time at the start of the second, its event taken (R98). -/
theorem reachSecond_clock (b : TimeBase) (h : b.now.half < 2000000000) (k : b.secondHere = true → b.now.half = 0) :
    b.reachSecond.now.half = 0 ∧ b.reachSecond.secondHere = false ∧
      (b.secondHere = false → b.reachSecond.frameHere = true) := by
  cases hs : b.secondHere with
  | true =>
    refine ⟨?_, rfl, nofun⟩
    show (b.advanceBy b.toSecond).now.half = 0
    rw [toSecond_here hs]
    exact k hs
  | false =>
    obtain ⟨x, y, -⟩ := advanceBy_moves (2000000000 - b.now.half) b (by omega)
    refine ⟨?_, rfl, fun _ => ?_⟩
    · show (b.advanceBy b.toSecond).now.half = 0
      rw [toSecond_ahead hs, x]
      omega
    · show (b.advanceBy b.toSecond).frameHere = true
      rw [toSecond_ahead hs, y, beq_iff_eq]
      omega

/-- See `reachSecond_clock`. -/
theorem secondEvent_clock (s : State) (h : s.timeInv) :
    (secondEvent s).role = s.role ∧ (secondEvent s).timing.base.now.half = 0 ∧
      (secondEvent s).timing.base.secondHere = false ∧
      (s.timing.base.secondHere = false → (secondEvent s).timing.base.frameHere = true) := by
  have k := secondEvent_clockKept s
  simp only [ClockKept, State.clock, Prod.mk.injEq] at k
  rw [k.1, k.2.1, k.2.2.1, k.2.2.2]
  exact ⟨rfl, reachSecond_clock _ h.1 h.2.2⟩

theorem frameTick_base (t : Timing) (r : Option Role) (n : BitVec 32) : (t.frameTick r n).base = t.base := by
  unfold Timing.frameTick
  split <;> rfl

/-- Reaching a frame boundary on which local time does not stand yet, or stands with its frame to start (R3). -/
theorem advanceToFrame_clock (b : TimeBase) (h : b.now.half < 2000000000)
    (k : b.frameHere = true → b.now.half % 250000 = 0) (n : b.secondFirst = false) :
    (b.advanceBy b.toFrame).now.half % 250000 = 0 ∧ (b.advanceBy b.toFrame).now.half < 2000000000 ∧
      (b.advanceBy b.toFrame).secondHere = false := by
  unfold TimeBase.secondFirst at n
  cases hf : b.frameHere with
  | true =>
    rw [hf, Bool.not_true, Bool.false_and, Bool.or_false] at n
    rw [toFrame_here hf, advanceBy_zero]
    exact ⟨k hf, h, n⟩
  | false =>
    rw [hf, toFrame_ahead hf] at n
    simp only [Config.halfPerSecond, Bool.not_false, Bool.true_and, Bool.or_eq_false_iff, beq_eq_false_iff_ne] at n
    obtain ⟨x, -, z⟩ := advanceBy_moves (250000 - b.now.half % 250000) b (by omega)
    rw [toFrame_ahead hf, x, z, beq_eq_false_iff_ne]
    exact ⟨by omega, by omega, by omega⟩

theorem reachFrame_clock (s : State) (h : s.timeInv) (hs : s.timing.base.secondHere = false) :
    (reachFrame s).role = s.role ∧ (reachFrame s).timing.base.now.half % 250000 = 0 ∧
      (reachFrame s).timing.base.now.half < 2000000000 ∧ (reachFrame s).timing.base.secondHere = false := by
  have settled (u : State) : (settle u).role = u.role ∧ (settle u).timing.base.now = u.timing.base.now ∧
      (settle u).timing.base.secondHere = u.timing.base.secondHere := by
    have k := settle_clockKept u
    simp only [ClockKept, State.clock, Prod.mk.injEq] at k
    exact ⟨k.1, k.2.1, k.2.2.2⟩
  unfold reachFrame
  dsimp only [State.withTiming]
  rw [frameTick_base, (settled _).1, (settled _).2.1, (settled _).2.2]
  cases hf : s.timing.base.secondFirst with
  | true =>
    obtain ⟨hr, hh, hn, hb⟩ := secondEvent_clock s h
    rw [if_pos rfl]
    have z : (secondEvent s).timing.base.toFrame = 0 := by rw [TimeBase.toFrame, hb hs, if_pos rfl]
    simp only [State.withBase, State.withTiming, z, TimeBase.advanceBy, if_true, hr, hh, hn]
    decide
  | false =>
    rw [if_neg Bool.false_ne_true]
    exact ⟨rfl, advanceToFrame_clock _ h.1 h.2.1 hf⟩

/-- The event of a boundary leaves local time on it, its frame started and its second taken; only a second boundary that
was stood on with a role set leaves its frame still to start (R3, R98). -/
theorem boundaryEvent_rested (s : State) (h : s.timeInv) (k : s.timing.base.secondHere = false ∨ s.role = none) :
    Rested (boundaryEvent s) := by
  unfold boundaryEvent
  by_cases hr : s.role = none
  · rw [if_pos (.inr hr)]
    obtain ⟨a, b, c, -⟩ := secondEvent_clock s h
    exact ⟨c, by rw [b], by rw [b]; decide, fun n => absurd (a.trans hr) n⟩
  · have hs := k.resolve_right hr
    rw [if_neg (by rw [hs]; exact fun e => e.elim Bool.false_ne_true hr), frameStart, if_neg hr]
    obtain ⟨-, b, c, d⟩ := reachFrame_clock s h hs
    have e := sendFrame_clock (reachFrame s)
    simp only [State.clock, Prod.mk.injEq] at e
    exact ⟨by rw [e.2.2.2, d], by rw [e.2.1, b], by rw [e.2.1]; exact c, fun _ => e.2.2.1⟩

/-- A second boundary stood on with a role set is taken, and its frame may still be to start (R98). -/
theorem boundaryEvent_second (s : State) (h : s.timeInv) (k : s.timing.base.secondHere = true) :
    (boundaryEvent s).timeInv ∧ (boundaryEvent s).timing.base.secondHere = false := by
  obtain ⟨-, b, c, -⟩ := secondEvent_clock s h
  rw [boundaryEvent, if_pos (.inl k)]
  exact ⟨⟨by rw [b]; decide, fun _ => by rw [b], fun e => absurd (c.symm.trans e) (by decide)⟩, c⟩

/-! ## What a frame start does to the port -/

theorem placeControl_port (s : State) (k : ControlKind) : (placeControl s k).port = s.port := by cases k <;> rfl

theorem foldl_port {α : Type} (f : State → α → State) (h : ∀ s a, PortNoticed s.port (f s a).port) (l : List α) :
    ∀ s, PortNoticed s.port (l.foldl f s).port := by
  induction l with
  | nil => intro s; exact .refl _
  | cons a l ih => intro s; exact (h s a).trans (ih _)

theorem raiseTxChange_port (n : Nat) (s : State) : PortNoticed s.port (raiseTxChange n s).port := by
  unfold raiseTxChange
  split
  · exact .refl _
  · exact (raiseProfile_onlyNotices _ _).port

theorem handOver_port (p : Plan × Vector Tenant 8) (g : Quad TenantGiven) (s : State) :
    PortNoticed s.port (handOver p g s).port := by
  have h := foldl_port placeControl (fun u k => placeControl_port u k ▸ .refl _) p.1.controls s
  rw [handOver, State.withLadder_port, State.withPlanner_port]
  have k (n : Nat) (u : State) (l : LinkUnit) : PortNoticed u.port (raiseTxChange n (u.withLink l)).port :=
    raiseTxChange_port n (u.withLink l)
  exact h.trans (k _ _ _)

theorem tenantGives_port (g : Quad TenantGiven) (s : State) (x : Tenant) :
    PortNoticed s.port (tenantGives g s x).port :=
  PortNoticed.trans (q := (s.withTenant x _).port) (.refl _) (drainIfEmpty_stepFrame x _).port

theorem pathOccasion_port (q : Quad TenantUnit) (g : Quad TenantGiven) (s : State) :
    PortNoticed s.port (pathOccasion q g s).port := by
  refine PortNoticed.trans (foldl_port _ (fun u x => ?_) _ s) (endPathActive_stepFrame _).port
  unfold tenantTests
  dsimp only
  split
  · exact ((countPathEntries_stepFrame _ _ u).trans (inject_stepFrame x _)).port
  · exact (countPathEntries_stepFrame _ _ u).port

theorem giveUp_port (p : Plan) (g : Quad TenantGiven) (n : Nat) (s : State) :
    PortNoticed s.port (giveUp p g n s).port := by
  rw [giveUp, State.withTest_port]
  exact foldl_port _ (tenantGives_port g) Tenant.all s

theorem sendFrame_port (s : State) : PortNoticed s.port (sendFrame s).port := by
  refine PortNoticed.trans ?_ (pathOccasion_port _ _ _)
  exact (handOver_port s.plan (s.given s.plan.1) s).trans (giveUp_port s.plan.1 _ s.nextTxProfile _)

theorem reachFrame_port (s : State) : PortNoticed s.port (reachFrame s).port := by
  have h (u : State) (n : Nat) (k : PortNoticed s.port u.port) :
      PortNoticed s.port (settle (u.withBase (u.timing.base.advanceBy n))).port :=
    PortNoticed.trans (q := (u.withBase (u.timing.base.advanceBy n)).port) k (settle_eventFrame _).port
  rw [reachFrame, State.withTiming_port]
  refine h _ _ ?_
  split
  · exact (secondEvent_eventFrame s).port
  · exact .refl _

/-- A frame start raises notices at most (R172). -/
theorem frameStart_port (s : State) : PortNoticed s.port (frameStart s).port := by
  unfold frameStart
  split
  · exact .refl _
  · exact (reachFrame_port s).trans (sendFrame_port _)

/-! ## An advance over a boundary -/

theorem passOver_succ (n d : Nat) (s : State) : passOver (n + 1) d s =
    if s.toBoundary < d then passOver n (d - s.toBoundary) (boundaryEvent s)
    else s.withBase (s.timing.base.advanceBy d) := rfl

/-- From rest every boundary takes a frame period of the advance. -/
theorem passOver_rested (n : Nat) : ∀ d s, Rested s → d ≤ 250000 * (n + 1) → passOver (n + 1) d s = passOver n d s := by
  induction n with
  | zero =>
    intro d s h e
    rw [passOver, passOver, if_neg (by have := h.period; omega)]
  | succ n ih =>
    intro d s h e
    rw [passOver_succ (n + 1) d s, passOver_succ n d s]
    split
    · exact ih _ _ (boundaryEvent_rested s h.timeInv (.inl h.second)) (by have := h.period; omega)
    · rfl

/-- Where no second boundary is stood on, one more boundary may come first. -/
theorem passOver_aligned (n d : Nat) (s : State) (h : s.timeInv) (k : s.timing.base.secondHere = false ∨ s.role = none)
    (e : d ≤ 250000 * n) : passOver (n + 1) d s = passOver n d s := by
  cases n with
  | zero => rw [passOver, passOver, if_neg (by omega)]
  | succ n =>
    rw [passOver_succ (n + 1) d s, passOver_succ n d s]
    split
    · exact passOver_rested n _ _ (boundaryEvent_rested s h k) (by omega)
    · rfl

/-- More boundaries allowed than an advance can cross change nothing. -/
theorem passOver_more (n d : Nat) (s : State) (h : s.timeInv) (e : d + 250000 ≤ 250000 * n) :
    ∀ m, passOver (n + m) d s = passOver n d s := by
  have step (n : Nat) (e : d + 250000 ≤ 250000 * n) : passOver (n + 1) d s = passOver n d s := by
    by_cases k : s.timing.base.secondHere = false ∨ s.role = none
    · exact passOver_aligned n d s h k (by omega)
    · cases n with
      | zero => omega
      | succ n =>
        have hs : s.timing.base.secondHere = true := by
          cases hb : s.timing.base.secondHere with
          | true => rfl
          | false => exact absurd (.inl hb) k
        obtain ⟨a, b⟩ := boundaryEvent_second s h hs
        rw [passOver_succ (n + 1) d s, passOver_succ n d s]
        split
        · exact passOver_aligned n _ _ a (.inl b) (by omega)
        · rfl
  intro m
  induction m with
  | zero => rfl
  | succ m ih => exact (step (n + m) (by omega)).trans ih

/-- An advance over a boundary is the event of that boundary and then the rest of the advance (R98). -/
theorem passTime_crossing (dt : Nat) (s : State) (h : s.timeInv) (k : s.toBoundary < dt) :
    passTime dt s = passTime (dt - s.toBoundary) (boundaryEvent s) := by
  have hb : (boundaryEvent s).timeInv := by
    cases hs : s.timing.base.secondHere with
    | true => exact (boundaryEvent_second s h hs).1
    | false => exact (boundaryEvent_rested s h (.inl hs)).timeInv
  generalize hd : dt - s.toBoundary = d
  have e : d + 250000 ≤ 250000 * (d / 250000 + 2) := by omega
  obtain ⟨m, hm⟩ := Nat.le.dest (show d / 250000 + 2 ≤ dt / 250000 + 2 by omega)
  rw [passTime, passTime, passOver, if_pos k, hd]
  simp only [Config.halfPerFrame]
  rw [← hm, passOver_more _ d _ hb e m, passOver_more _ d _ hb e 1]

end Sys2Proof.Machine
end

