-- ==== Sys2Proof/Laws/Requests.lean ====
section
/-! SUPPORT. What a request can touch of the Management Port, and how a request is answered: at once when no request and
no reply waits, and in its turn otherwise (R170 to R172). -/

namespace Sys2Proof.Machine

/-- `t` has the port of `s` but for notices raised and a RESET answered OK. -/
structure PortKept (s t : State) : Prop where
  rx : t.port.rx = s.port.rx
  buffer : t.port.buffer = s.port.buffer
  reply : t.port.reply = s.port.reply
  counters : t.port.counters = s.port.counters
  lastCause : t.port.lastCause = s.port.lastCause
  line : s.port.freeForNotice = false → t.port.line = s.port.line

/-- A port that was not free for a notice is not free after a request. -/
theorem PortKept.busy {s t : State} (h : PortKept s t) (b : s.port.freeForNotice = false) :
    t.port.freeForNotice = false := by
  rw [Port.freeForNotice, h.reply, h.line b]
  exact b

theorem PortKept.refl (s : State) : PortKept s s := ⟨rfl, rfl, rfl, rfl, rfl, fun _ => rfl⟩

theorem PortKept.trans {s t u : State} (h : PortKept s t) (k : PortKept t u) : PortKept s u :=
  ⟨k.rx.trans h.rx, k.buffer.trans h.buffer, k.reply.trans h.reply, k.counters.trans h.counters,
    k.lastCause.trans h.lastCause, fun b => (k.line (h.busy b)).trans (h.line b)⟩

theorem portKept_of_noticed {s t : State} (h : PortNoticed s.port t.port) : PortKept s t :=
  ⟨by rw [h.eq], by rw [h.eq], by rw [h.eq], by rw [h.eq], by rw [h.eq], h.held⟩

theorem portKept_of_eq {s t : State} (h : t.port = s.port) : PortKept s t :=
  portKept_of_noticed (h ▸ PortNoticed.refl _)

theorem withTenant_portKept (s : State) (x : Tenant) (u : TenantUnit) : PortKept s (s.withTenant x u) := portKept_of_eq rfl

theorem withTest_portKept (s : State) (u : TestUnit) : PortKept s (s.withTest u) := portKept_of_eq rfl

theorem withTiming_portKept (s : State) (u : Timing) : PortKept s (s.withTiming u) := portKept_of_eq rfl

theorem StepFrame.portKept {s t : State} (h : StepFrame s t) : PortKept s t := portKept_of_noticed h.port

theorem EventFrame.portKept {s t : State} (h : EventFrame s t) : PortKept s t := portKept_of_noticed h.port

theorem OnlyNotices.portKept {s t : State} (h : OnlyNotices s t) : PortKept s t := portKept_of_noticed h.port

theorem takeTenantRecord_portKept (x : Tenant) (r : TenantRecord) (c : TenantCause) (s : State) :
    PortKept s (takeTenantRecord x r c s) := by
  unfold takeTenantRecord
  dsimp only
  split
  · exact (withTenant_portKept s _ _).trans (raiseTenant_onlyNotices _ _ _ _ _).portKept
  · exact portKept_of_eq rfl

theorem drain_portKept (x : Tenant) (s : State) : PortKept s (drain x s) := by
  unfold drain
  dsimp only
  split <;>
    exact ((withTenant_portKept s _ _).trans (raiseTenant_onlyNotices _ _ _ _ _).portKept).trans
      (stepTenantLeft_stepFrame x _).portKept

theorem switchOff_portKept (x : Tenant) (s : State) : PortKept s (switchOff x s) := by
  unfold switchOff
  dsimp only
  split
  · exact portKept_of_eq rfl
  · exact ((withTenant_portKept s _ _).trans (raiseTenant_onlyNotices _ _ _ _ _).portKept).trans
      (stepTenantLeft_stepFrame x _).portKept

theorem takeTimingRecord_eventFrame (r : TimingRecord) (s : State) : EventFrame s (takeTimingRecord r s) :=
  timingEvent_eventFrame _ s

theorem foldl_portKept {α : Type} (f : State → α → State) (h : ∀ s a, PortKept s (f s a)) (l : List α) :
    ∀ s, PortKept s (l.foldl f s) := by
  induction l with
  | nil => exact PortKept.refl
  | cons a l ih => exact fun s => (h s a).trans (ih (f s a))

theorem applySettings_portKept (v : Settings) (s : State) : PortKept s (applySettings v s) := by
  unfold applySettings loadTenants
  refine PortKept.trans ?_ (foldl_portKept _ (fun s x => takeTenantRecord_portKept x _ _ s) _ _)
  refine PortKept.trans ?_ (withTest_portKept _ _)
  refine PortKept.trans ?_ (takeTimingRecord_eventFrame _ _).portKept
  exact portKept_of_eq rfl

/-- A request leaves the buffer, the waiting reply, the line counters and a line that is not free for a notice alone
(R171). -/
theorem perform_portKept (r : Request) (s : State) : PortKept s (perform r s).1 := by
  cases r
  case getId =>
    change PortKept s (doGetId s).1
    exact .refl s
  case setRole r =>
    change PortKept s (doSetRole r s).1
    unfold doSetRole
    repeat' split
    all_goals first | exact .refl s | exact portKept_of_eq rfl
  case reset o =>
    change PortKept s (doReset o s).1
    unfold doReset
    split <;> exact ⟨rfl, rfl, rfl, rfl, rfl, fun _ => rfl⟩
  case getStatus p =>
    change PortKept s (doGetStatus p s).1
    unfold doGetStatus
    split <;> exact .refl s
  case setLink r =>
    change PortKept s (doSetLink r s).1
    unfold doSetLink
    split <;> exact portKept_of_eq rfl
  case setTenant i r =>
    change PortKept s (doSetTenant i r s).1
    unfold doSetTenant setTenantOf
    dsimp only
    repeat' split
    all_goals first | exact .refl s | exact takeTenantRecord_portKept _ _ _ s
  case setShares t =>
    change PortKept s (doSetShares t s).1
    unfold doSetShares
    split <;> exact portKept_of_eq rfl
  case tenantActivate i =>
    change PortKept s (doTenantActivate i s).1
    unfold doTenantActivate
    repeat' split
    all_goals first
      | exact .refl s
      | exact (withTenant_portKept s _ _).trans (raiseTenant_onlyNotices _ _ _ _ _).portKept
  case tenantDrain i =>
    change PortKept s (doTenantDrain i s).1
    unfold doTenantDrain
    repeat' split
    all_goals first | exact .refl s | exact drain_portKept _ s
  case tenantOff i =>
    change PortKept s (doTenantOff i s).1
    unfold doTenantOff
    split
    · exact .refl s
    · exact switchOff_portKept _ s
  case getCounters i c =>
    change PortKept s (doGetCounters i c s).1
    unfold doGetCounters
    split
    · exact .refl s
    · dsimp only; split <;> exact portKept_of_eq rfl
  case setTiming r =>
    change PortKept s (doSetTiming r s).1
    unfold doSetTiming
    split
    · exact (takeTimingRecord_eventFrame r s).portKept
    · exact .refl s
  case timeSet x =>
    change PortKept s (doTimeSet x s).1
    unfold doTimeSet
    split <;> exact portKept_of_eq rfl
  case timingRestart =>
    change PortKept s (doTimingRestart s).1
    exact ((withTiming_portKept s _).trans (raiseTiming_onlyNotices _ _ _).portKept).trans (stepWatch_stepFrame _).portKept
  case setPattern i p =>
    change PortKept s (doSetPattern i p s).1
    unfold doSetPattern
    repeat' split
    all_goals exact portKept_of_eq rfl
  case setStep i a =>
    change PortKept s (doSetStep i a s).1
    unfold doSetStep
    repeat' split
    all_goals exact portKept_of_eq rfl
  case testStart n f =>
    change PortKept s (doTestStart n f s).1
    unfold doTestStart
    repeat' split
    all_goals first
      | exact .refl s
      | exact ((withTest_stepFrame s _).trans (runFirstStep_stepFrame _)).portKept
  case testAbort =>
    change PortKept s (doTestAbort s).1
    unfold doTestAbort
    split
    · exact (abortRun_stepFrame _ s).portKept
    · exact .refl s
  case getResults =>
    change PortKept s (doGetResults s).1
    exact .refl s
  case acceptWaive =>
    change PortKept s (doAcceptWaive s).1
    unfold doAcceptWaive
    split
    · exact .refl s
    · exact (withTest_portKept s _).trans (raiseTest_onlyNotices _ _).portKept
  case storeSave i =>
    change PortKept s (doStoreSave i s).1
    unfold doStoreSave takeOp
    repeat' split
    all_goals exact portKept_of_eq rfl
  case storeLoad i =>
    change PortKept s (doStoreLoad i s).1
    unfold doStoreLoad
    split
    · exact .refl s
    split
    · exact .refl s
    split
    · exact .refl s
    split
    · exact .refl s
    · dsimp only
      exact PortKept.trans (applySettings_portKept _ s) (raiseStore_onlyNotices _ _ _).portKept
  case storeErase i =>
    change PortKept s (doStoreErase i s).1
    unfold doStoreErase takeOp
    repeat' split
    all_goals exact portKept_of_eq rfl
  case storeBoot i =>
    change PortKept s (doStoreBoot i s).1
    unfold doStoreBoot takeOp
    repeat' split
    all_goals exact portKept_of_eq rfl
  case storeCal a =>
    change PortKept s (doStoreCal a s).1
    unfold doStoreCal takeOp
    repeat' split
    all_goals exact portKept_of_eq rfl

theorem answer_portKept (w : Incoming) (s : State) : PortKept s (answer w s).1 := by
  cases w
  · exact .refl s
  · exact .refl s
  · exact perform_portKept _ s

/-- A port written back as it stands. -/
theorem State.withPort_same (s : State) (p : Port) (h : p = s.port) : s.withPort p = s := by rw [h]; rfl

/-- The only frame of the buffer is taken when no reply waits and no RESET is under way (R170). -/
theorem takeRequest_one (s : State) (b : Buffered) (hr : s.port.reply = none) (hp : s.port.resetPending = none)
    (hb : s.port.buffer = [b]) : takeRequest s = completeRequest b (s.withPort { s.port with buffer := [] }) := by
  unfold takeRequest
  rw [hr, hp, hb]
  rfl

/-- A reply put on a free line, or left in waiting for a busy one, and nothing to take or to announce after it. -/
theorem serve_answered (u : State) (r : Reply) (hb : u.port.buffer = []) :
    announce (takeRequest ((u.withPort { u.port with reply := some r }).withPort
      (u.withPort { u.port with reply := some r }).port.beginReply)) =
    match u.port.line with
    | none => u.withPort { u.port with line := some (.reply r), reply := none }
    | some _ => u.withPort { u.port with reply := some r } := by
  cases hl : u.port.line with
  | none =>
    have e : ({ u.port with reply := some r } : Port).beginReply = { u.port with line := some (.reply r), reply := none } := by
      simp [Port.beginReply, hl]
    have f : takeRequest (u.withPort { u.port with line := some (.reply r), reply := none }) =
        u.withPort { u.port with line := some (.reply r), reply := none } := by
      simp [takeRequest, hb]
    simp only [State.withPort_port, State.withPort_twice, e, f]
    exact announce_busy _ (by simp [Port.freeForNotice])
  | some l =>
    have e : ({ u.port with reply := some r } : Port).beginReply = { u.port with reply := some r } := by
      simp [Port.beginReply, hl]
    have f : takeRequest (u.withPort { u.port with reply := some r }) = u.withPort { u.port with reply := some r } := by
      simp [takeRequest]
    simp only [State.withPort_port, State.withPort_twice, e, f]
    exact announce_busy _ (by simp [Port.freeForNotice])

/-- The state in which a request taken at once runs: the place of its reply is held, so its notices wait. -/
def State.serving (s : State) (kind tag : Byte) : State := s.withPort (s.port.reserve kind tag)

@[simp] theorem Port.reserve_busy (p : Port) (kind tag : Byte) : (p.reserve kind tag).freeForNotice = false := by
  simp [Port.reserve, Port.freeForNotice]

/-- A reply given in place of the one held is the reply given at once. -/
@[simp] theorem State.serving_replied (s : State) (k : Byte) (kind : Nat) (tag tag' : Byte) (st : Status)
    (body : ReplyBody) : (s.serving k tag').replied kind tag st body = s.replied kind tag st body := by
  cases h : s.port.line <;> simp [State.serving, State.replied, Port.reserve, h]

/-- A complete frame at a port where no request and no reply waits is taken and answered at once (R170, R172). -/
theorem offerFrame_free (b : Buffered) (s : State) (h : s.requestFree) :
    announce (offerFrame b s) =
      let x := answer b.what (s.serving b.kind b.tag)
      let r : Reply := { kind := b.kind, tag := b.tag, status := x.2.1, body := x.2.2 }
      match s.port.line with
      | none => x.1.withPort { x.1.port with line := some (.reply r), reply := none }
      | some _ => x.1.withPort { x.1.port with reply := some r } := by
  obtain ⟨hr, hp, hb⟩ := h
  have k := answer_portKept b.what (s.serving b.kind b.tag)
  have ho : s.port.offer b = { s.port with buffer := [b] } := by simp [Port.offer, hb]
  have h0 : s.withPort { s.port.offer b with buffer := [] } = s :=
    State.withPort_same s _ (by rw [ho]; exact congrArg (fun l => { s.port with buffer := l }) hb.symm)
  have e : takeRequest (s.withPort (s.port.offer b)) = completeRequest b s := by
    rw [takeRequest_one (s.withPort (s.port.offer b)) b (by rw [ho]; exact hr) (by rw [ho]; exact hp) (by rw [ho]; rfl)]
    exact congrArg (completeRequest b) h0
  unfold offerFrame serve
  dsimp only
  rw [e, ← show _ = s.port.line from k.line (Port.reserve_busy _ _ _)]
  exact serve_answered _ _ (k.buffer.trans hb)

/-- A request frame at a port where no request and no reply waits: the request's effects, and its reply (R170 to R172). -/
theorem requestFrame_free (tag : Byte) (r : Request) (s : State) (h : s.requestFree) :
    requestFrame tag r s =
      let x := perform r (s.serving (BitVec.ofNat 8 r.kind) tag)
      x.1.replied r.kind tag x.2.1 x.2.2 := by
  have k := perform_portKept r (s.serving (BitVec.ofNat 8 r.kind) tag)
  unfold requestFrame
  rw [offerFrame_free _ s h]
  dsimp only [State.replied, answer]
  rw [k.line (Port.reserve_busy _ _ _)]
  rfl

/-- A frame of an unknown kind at such a port (R171). -/
theorem unknownKind_free (tag kind : Byte) (s : State) (h : s.requestFree) :
    announce (offerFrame { kind := kind, tag := tag, what := .unknownKind } s) =
      s.replied kind.toNat tag .unknownKind .empty := by
  rw [offerFrame_free _ s h]
  simp only [answer, State.replied, BitVec.ofNat_toNat, BitVec.setWidth_eq]
  cases h : s.port.line <;> simp [State.serving, Port.reserve, h]

/-- A complete frame while a reply waits for a busy line: it waits in the buffer, or is discarded (R170). -/
theorem offerFrame_waiting (b : Buffered) (s : State) (f : LineFrame) (w : Reply) (hl : s.port.line = some f)
    (hr : s.port.reply = some w) : announce (offerFrame b s) = s.withPort (s.port.offer b) := by
  have h1 : (s.port.offer b).reply = some w := by unfold Port.offer; split <;> exact hr
  have h2 : (s.port.offer b).line = some f := by unfold Port.offer; split <;> exact hl
  have e : takeRequest (s.withPort (s.port.offer b)) = s.withPort (s.port.offer b) := by simp [takeRequest, h1]
  have e2 : (s.port.offer b).beginReply = s.port.offer b := by simp [Port.beginReply, h2]
  unfold offerFrame serve
  dsimp only
  rw [e]
  simp only [State.withPort_port, State.withPort_twice, e2]
  rw [e]
  exact announce_busy _ (by simp [Port.freeForNotice, h2])

end Sys2Proof.Machine
end

