-- ==== Sys2Proof/WellFormed.lean ====
section
/-! DEFINITION. The well-formed commands: what the outside world can hand the part. A value that the spec itself
judges (a refused field, a length error, a bad header) is well formed; what is not is a block of another size than 128
bytes, an SNR sample above 255, and so on. -/

namespace Sys2Proof

/-- A position of a received frame record holds 128 bytes (R2). -/
def Position.wf (p : Position) : Bool := p.bytes.length == 128

/-- A received frame record (R2): at most 120 positions and an SNR sample of 0 to 255. -/
def FrameRecord.wf (r : FrameRecord) : Bool :=
  r.positions.length ≤ 120 && r.positions.all Position.wf && r.snr ≤ 255

/-- The fill table of a pattern is 16 bytes (R151). -/
def Pattern.wf (p : Pattern) : Bool := p.fill.length == 16

/-- The well-formed commands. -/
def Instr.wf : Instr → Bool
  | .receivedFrameRecord r => r.wf
  | .managementFrame bytes => bytes.head? == some 0x5A
  | .strayByte b => b != 0x5A
  | .unknownKind _ kind => !kindListed kind.toNat
  | .setPattern _ _ (some p) => p.wf
  | .powerReset => true
  | .pinReset => true
  | .commandFullReset => true
  | .commandWarmReset => true
  | .frameStart => true
  | .receiveMarkerCapture _ => true
  | .absentFrame => true
  | .tenantPacketArrival _ _ _ => true
  | .holdInput _ _ => true
  | .deliveryEnd _ => true
  | .secondBoundary => true
  | .pulse _ _ => true
  | .absenceExpiry _ => true
  | .staleRemoval _ => true
  | .syncDue => true
  | .exchangeTimeout => true
  | .linkSupervisionExpiry => true
  | .holdoverLimit => true
  | .holdoverAging => true
  | .leadEnd => true
  | .activeEnd => true
  | .tailEnd => true
  | .reportWaitExpiry => true
  | .waitTimeout => true
  | .timingCrossTimeout => true
  | .gapExpiry => true
  | .outgoingFrameEnd => true
  | .erasingEnd => true
  | .storeOperationEnd => true
  | .getId _ => true
  | .setRole _ _ => true
  | .resetFull _ => true
  | .resetWarm _ => true
  | .getStatusLink _ => true
  | .getStatusTiming _ => true
  | .getStatusTenant _ _ => true
  | .getStatusTest _ => true
  | .getStatusStore _ => true
  | .setLink _ _ => true
  | .setTenant _ _ _ => true
  | .tenantActivate _ _ => true
  | .tenantDrain _ _ => true
  | .tenantOff _ _ => true
  | .setShares _ _ => true
  | .getCounters _ _ _ => true
  | .setTiming _ _ => true
  | .timeSet _ _ => true
  | .timingRestart _ => true
  | .setPattern _ _ none => true
  | .setStep _ _ _ => true
  | .testStart _ _ _ => true
  | .testAbort _ => true
  | .getResults _ => true
  | .acceptWaive _ => true
  | .storeSave _ _ => true
  | .storeLoad _ _ => true
  | .storeErase _ _ => true
  | .storeBoot _ _ => true
  | .storeCal _ _ => true

end Sys2Proof
end

