-- ==== Sys2Proof/Tests/Slice0.lean ====
section
/-! SUPPORT. This row's own tests: the ill-formed commands that WellFormed refuses, the spec's worked examples with the
values the spec prints, and for each statement with hypotheses a state and operands that meet them. -/

namespace Sys2Proof.Tests

set_option Elab.async false

open Sys2Proof Sys2Proof.Machine

/-! ## States to test on -/

/-- The state after a command. -/
def after (c : Instr) (s : State) : State :=
  match exec c s with
  | .next t => t
  | .fault _ => s
  | .refused _ => s

/-- A HUB after reset. -/
def hub : State := State.reset.withRole (some .hub)

/-- A TRAILER after reset. -/
def trailer : State := State.reset.withRole (some .trailer)

/-- The link in a state, with a number of good headers and lost frames counted. -/
def linked (l : LinkState) (good lost : Nat) (s : State) : State :=
  s.withLink { s.link with state := l, good := good, lost := lost }

/-- The outgoing line free. -/
def lineFree (s : State) : State := s.withPort { s.port with line := none }

/-- Local time standing on a frame boundary whose frame has not started. -/
def onBoundary (s : State) : State := s.withBase { s.timing.base with frameHere := true }

/-- Local time later by so many half nanoseconds, no event taken on the way. -/
def later (dt : Nat) (s : State) : State := s.withBase (s.timing.base.advanceBy dt)

/-- A RESET of an option answered OK, its reply begun. -/
def resetAnswered (o : ResetOption) (s : State) : State :=
  s.withPort { s.port with resetPending := some o, reply := none }

/-- A tenant in a state. -/
def tenantIn (x : Tenant) (st : TenantState) (s : State) : State := s.withTenant x { s.tenant x with state := st }

/-- An entry of `n` bytes. -/
def entryOf (n sent : Nat) (o : Origin) : Entry :=
  { seq := 0, length := n, total := blocksFor n, sent := sent, arrival := 0, origin := o, run := none, step := none,
    data := List.replicate n 7 }

/-- A run in progress whose only step is the one given, in a phase. -/
def runOf (b : StepBody) (phase : Phase) (report : Option Report) (s : State) : State :=
  let step : Sys2Proof.Step := { body := b, mandatory := true }
  s.withTest { s.test with
    runState := .running, runId := 1, count := 1, steps := s.test.steps.set 0 (some step),
    work := some { Working.fresh 0 step Config.clearedPattern with phase := phase, report := report } }

/-- A run whose current step has frame starts left. -/
def remaining (n : Nat) (s : State) : State :=
  s.withTest { s.test with work := s.test.work.map fun w => { w with remaining := n } }

/-- A WAIT step for the link. -/
def waitLink : StepBody := .wait .linkUp 1

/-- A LINK_PATTERN step at the lowest limits. -/
def pathStep : StepBody := .linkPattern (some 7) 0 8 .reserved 1 1 4 0 0

/-- A TENANT_PATH step of T0 at the lowest limits. -/
def tenantStep : StepBody := .tenantPath .t0 0 1 64 0 0

/-- A report that counts `n` blocks and packets without an error. -/
def cleanReport (n : Nat) : Report :=
  { run := 1, step := 0, blocks := n, erroredBlocks := 0, erroredBytes := 0, missing := 0, packets := n,
    erroredPackets := 0 }

/-- GNSS qualified and selected, its last pulse a second before an advance reading, the Servo in a state. -/
def onGnss (st : TimingState) (cls : QClass) (s : State) : State :=
  s.withTiming { s.timing with
    base := { s.timing.base with
      advance := 4000000000,
      gnss := { s.timing.base.gnss with state := .qualified, reference := some 4000000000,
                                        lastPulse := some 4000000000 } },
    servo := { s.timing.servo with state := st, selected := some .gnss, everLocked := true, cls := cls } }

/-- In HOLDOVER for a number of seconds, at class C3. -/
def inHoldover (n : Nat) (s : State) : State :=
  s.withTiming { s.timing with
    servo := { s.timing.servo with state := .holdover, everLocked := true, elapsed := n, cls := .c3 } }

/-- A link record within R24: the defaults with the shortest up-dwell. -/
def shortDwell : LinkRecord := { Config.defaultLink with upDwell := 64 }

/-- The ladder at a profile with a held sample, under the shortest up-dwell. -/
def ladderAt (p : Nat) (h : Option Nat) (s : State) : State :=
  s.withLadder { s.ladder with record := shortDwell, rp := p, confirm := h }

/-- A position that the modem delivered, flagged bad or not. -/
def position (bad : Bool) (b : List Byte) : Position := { bytes := b, bad := bad }

/-- A record of positions at a sample. -/
def recordOf (ps : List Position) (snr : Nat) : FrameRecord := { positions := ps, snr := snr }

/-- The header of an idle P0 frame. -/
def idleHeader : Header :=
  { seq := 1, txProfile := 0, requested := 0, force := false, xoff := Quad.const false, controls := [], testBlocks := 0,
    endMark := none, tenantBlocks := Quad.const 0 }

/-! ## What is not well formed -/

theorem test_wf_takes_a_record : (Instr.receivedFrameRecord
    { positions := [position false (List.replicate 128 0)], snr := 255 }).wf =
      true := by decide +kernel

theorem test_wf_refuses_a_short_block :
    (Instr.receivedFrameRecord (recordOf [position false (List.replicate 127 0)] 0)).wf = false := by decide +kernel

theorem test_wf_refuses_121_positions :
    (Instr.receivedFrameRecord (recordOf (List.replicate 121 (position true (List.replicate 128 0))) 0)).wf = false := by
  decide +kernel

theorem test_wf_refuses_a_sample_of_256 : (Instr.receivedFrameRecord (recordOf [] 256)).wf = false := by decide +kernel

theorem test_wf_refuses_a_frame_without_start : (Instr.managementFrame [0x5B]).wf = false := by decide +kernel

theorem test_wf_refuses_a_start_byte_as_stray : (Instr.strayByte 0x5A).wf = false := by decide +kernel

theorem test_wf_refuses_a_listed_kind_as_unknown : (Instr.unknownKind 0 25).wf = false := by decide +kernel

theorem test_wf_refuses_a_fill_of_15 :
    (Instr.setPattern 0 0 (some { Config.clearedPattern with fill := List.replicate 15 0 })).wf = false := by
  decide +kernel

/-! ## The spec's worked examples -/

/-- The HEADER of the example that ends Section 11. -/
def exampleHeader : Header :=
  { seq := 1025, txProfile := 3, requested := 5, force := false, xoff := ⟨false, false, true, false⟩, controls := [.sync],
    testBlocks := 8, endMark := none, tenantBlocks := ⟨24, 5, 9, 0⟩ }

/-- Section 11, "a HEADER as sent": offsets 0 to 15. -/
theorem test_header_bytes : exampleHeader.bytes.take 16 = [4, 1, 3, 5, 4, 1, 1, 0, 8, 0, 0, 0, 24, 5, 9, 0] := by
  decide +kernel

/-- R9: the CRC-16 with polynomial 0x1021 and initial value 0xFFFF; the check value of the nine bytes "123456789" in
every catalogue of that CRC is 0x29B1. -/
theorem test_crc : crc16 [0x31, 0x32, 0x33, 0x34, 0x35, 0x36, 0x37, 0x38, 0x39] = 0x29B1#16 := by decide +kernel

/-- 11.1: GET_ID with tag 7 is start byte, length 2, kind 1, tag 7 and the check. -/
theorem test_management_bytes : (managementBytes 1 7 []).take 5 = [0x5A, 0, 2, 1, 7] := by decide +kernel

/-- The share table of Section 4's worked plans. -/
def planShares : ShareTable := ⟨⟨1, 96⟩, ⟨1, 64⟩, ⟨2, 64⟩, ⟨3, 0⟩⟩

/-- The inputs of plan A. -/
def planA : PlanInputs :=
  { blocks := 48, link := .up, timing := some .sync, report := false, request := some (.reserved, 8),
    offers := ⟨30, 5, 40, 12⟩, xoff := Quad.const false, shares := planShares, pointers := Vector.replicate 8 .t0 }

/-- The grants of a plan. -/
def grants (p : Plan) : Quad Nat := p.tenants.map TenantPlan.grant

/-- Plan A: grants 24, 5, 9, 0, no IDLE block, and the level-1 pointer at T1. -/
theorem test_plan_a : grants (planFrame planA).1 = ⟨24, 5, 9, 0⟩ ∧ (planFrame planA).1.idle = 0 ∧
    (planFrame planA).2 = #v[.t0, .t1, .t0, .t0, .t0, .t0, .t0, .t0] := by decide +kernel

/-- Plan B, on plan A's pointers: grants 17, 12, 9, 0, and the level-1 pointer at T1. -/
theorem test_plan_b :
    let b := planFrame { planA with offers := ⟨30, 20, 40, 12⟩, pointers := (planFrame planA).2 }
    grants b.1 = ⟨17, 12, 9, 0⟩ ∧ b.2 = (planFrame planA).2 := by decide +kernel

/-- The inputs of plan D, on plan B's pointers. -/
def planD : PlanInputs :=
  { blocks := 10, link := .up, timing := some .delayReq, report := true, request := some (.spare, 8),
    offers := ⟨30, 5, 40, 12⟩, xoff := Quad.const false, shares := planShares,
    pointers := #v[.t0, .t1, .t0, .t0, .t0, .t0, .t0, .t0] }

/-- Plan C: 7 TEST blocks and nothing for the tenants. -/
theorem test_plan_c :
    let c := planFrame { planD with request := some (.reserved, 8) }
    c.1.testBlocks = 7 ∧ c.1.capacity = 0 ∧ grants c.1 = Quad.const 0 ∧ c.2 = planD.pointers := by decide +kernel

/-- Plan D: grants 3, 3, 1, 0, no TEST block, and the level-1 pointer at T2. -/
theorem test_plan_d : grants (planFrame planD).1 = ⟨3, 3, 1, 0⟩ ∧ (planFrame planD).1.testBlocks = 0 ∧
    (planFrame planD).2[1] = .t2 := by decide +kernel

/-- Plan E: grants 10, 20, 6, 0, 12 TEST and 29 IDLE blocks, the level-0 pointer at T2 and the level-2 pointer at T0. -/
theorem test_plan_e :
    let e := planFrame
      { blocks := 80, link := .up, timing := some .delayResp, report := true, request := some (.spare, 12),
        offers := ⟨10, 20, 6, 25⟩, xoff := ⟨false, false, false, true⟩, shares := ⟨⟨0, 128⟩, ⟨0, 64⟩, ⟨2, 32⟩, ⟨2, 0⟩⟩,
        pointers := #v[.t0, .t2, .t0, .t0, .t0, .t0, .t0, .t0] }
    grants e.1 = ⟨10, 20, 6, 0⟩ ∧ e.1.testBlocks = 12 ∧ e.1.idle = 29 ∧ e.2[0] = .t2 ∧ e.2[2] = .t0 := by
  decide +kernel

/-- Plan F: grants 5, 2, 6, 5, and the level-3 pointer at T3. -/
theorem test_plan_f :
    let f := planFrame
      { blocks := 20, link := .up, timing := some .sync, report := false, request := none, offers := ⟨9, 2, 9, 9⟩,
        xoff := Quad.const false, shares := Quad.const ⟨3, 0⟩,
        pointers := #v[.t0, .t0, .t0, .t2, .t0, .t0, .t0, .t0] }
    grants f.1 = ⟨5, 2, 6, 5⟩ ∧ f.1.idle = 0 ∧ f.2[3] = .t3 := by decide +kernel

/-- 6.3, the examples of phase measurement: the half nanoseconds of each capture and its m. -/
theorem test_phase_examples :
    phaseMeasurement 1999999747 = 128 ∧ phaseMeasurement 1999999996 = 4 ∧ phaseMeasurement 3 = 0 ∧
      phaseMeasurement 12 = -8 ∧ phaseMeasurement 500 = -252 ∧ phaseMeasurement 999999999 = -500000000 ∧
      phaseMeasurement 1000000000 = 500000000 := by decide +kernel

/-- Section 8, first acquisition: measurement 5, -8 ns with F 1,513, gives F 1,512 and S 1,496. -/
theorem test_steer_measurement_5 :
    let t := (Timing.initial Config.defaultTiming 1513).steerStage (-8) (512, 16)
    t.servo.f = 1512 ∧ t.base.steer = 1496 := by decide +kernel

/-- Section 8, a phase jump after lock, first row: F 2,762, S 42,762, F_hold 1,586, unlock count 1. -/
theorem test_locked_measurement :
    let s := onGnss .locked .c1 hub
    let t := ({ s.timing with servo := { s.timing.servo with f := 1512, fHold := 1508 } } : Timing).measure .gnss 20000 0
    t.1.servo.f = 2762 ∧ t.1.base.steer = 42762 ∧ t.1.servo.fHold = 1586 ∧ t.1.servo.unlock = 1 := by decide +kernel

/-- Section 8, a TRAILER takes the HUB's time: 37 s 5,400,000 ns with m -120 and W -963 becomes 1,000 s 5,399,880 ns. -/
theorem test_full_set : LocalTime.shift { sec := 37, half := 10800000 } (-120) 963 = { sec := 1000, half := 10799760 } := by
  decide +kernel

/-- 9.1, the generated payloads: the fourth bar of 4 x 30, and COUNT at sequence 5. -/
theorem test_pattern_examples :
    let p : Pattern := { mode := .bars, bars := 4, barSize := 30, repeatSize := 1, fill := [0, 255, 0x55, 0xAA] }
    p.byteOf 0 29 = 0 ∧ p.byteOf 0 30 = 255 ∧ p.byteOf 0 89 = 0x55 ∧ p.byteOf 0 975 = 0xAA ∧
      ({ p with mode := .count } : Pattern).byteOf 5 0 = 224 ∧ ({ p with mode := .count } : Pattern).byteOf 5 32 = 0 ∧
      ({ p with mode := .count } : Pattern).byteOf 6 0 = 64 := by decide +kernel

/-- Section 4, one packet across three frames: 1,000 bytes at block sequence 250 end with 40 bytes at sequence 2. -/
theorem test_packet_across_frames :
    let g := giveBlocks 9 [entryOf 1000 0 .tenant] 250
    g.segments.map Segment.seq = [250, 251, 252, 253, 254, 255, 0, 1, 2] ∧ g.seq = 3 ∧
      (g.segments.getLast?.map fun x => (x.last, x.data.length)) = some (true, 40) := by decide +kernel

/-- 2.9: two poor samples 95 and 101 below P7 take R_p to P5. -/
theorem test_fade : (giveSample 101 (giveSample 95 (ladderAt 7 none hub))).ladder.rp = 5 := by decide +kernel

/-- The part after a POWER reset is the model's reset state, from any state with a blank store. -/
theorem test_power_reset : after .powerReset (inHoldover 5 (linked .up 0 9 hub)) = State.reset := by decide +kernel

/-! ## A state in the middle of its work, which meets every invariant -/

/-- The tenant T0 of `live`: ACTIVE, with a started head in its queue and a delivery in progress. -/
def liveTenant : TenantUnit :=
  { TenantUnit.initial Config.defaultTenant .active false with
    queue := [entryOf 1536 12 .tenant, entryOf 64 0 .tenant], delivering := true,
    egress := [{ length := 64, blocks := 1, errored := false, data := List.replicate 64 1 }] }

/-- A HUB in UP with 63 lost frames, LOCKED to GNSS at class C1, two responses waiting, R_p at P3, T0 in service after
acceptance PASSED, and a store operation in flight. -/
def live : State :=
  let s := onGnss .locked .c1 (ladderAt 3 (some 61) (linked .up 16 63 hub))
  let t := (s.withTenant .t0 liveTenant).withTest { s.test with acceptance := .passed }
  let u := t.withTiming { t.timing with
    xfer := { t.timing.xfer with responses := [{ seq := 1, t4 := { sec := 0, ns := 4 } }, { seq := 2, t4 := { sec := 0, ns := 8 } }] } }
  u.withStore { u.store with op := some { kind := .cal 2000000 100000, stage := .programming, taken := 0 } }

theorem live_acceptance : live.acceptanceInv := ⟨fun _ => by decide +kernel, fun h => absurd h (by decide +kernel)⟩

theorem live_time_and_steer : live.timeInv ∧ live.steerInv := by
  refine ⟨by unfold State.timeInv; decide +kernel, ?_⟩
  refine ⟨by unfold inSteer; decide +kernel, by unfold inSteer; decide +kernel, by unfold inSteer; decide +kernel,
    by unfold inSteer; decide +kernel, ?_⟩
  intro o h
  have : o = { kind := .cal 2000000 100000, stage := .programming, taken := 0 } := (Option.some.inj h).symm
  subst this
  exact show inSteer 2000000 by unfold inSteer; decide

theorem live_selection : live.timingInv := by unfold State.timingInv; decide +kernel

theorem live_transfer : live.transferInv := by unfold State.transferInv; decide +kernel

theorem live_queues : live.queueInv := by
  refine ⟨?_, ?_, fun w h => absurd h (by have : live.test.work = none := rfl; rw [this]; nofun)⟩
  · intro t
    cases t <;> unfold TenantUnit.queueInv Entry.sound <;> decide +kernel
  · intro i e h
    have : live.test.steps.toList.getD i none = none := by
      have hs : live.test.steps.toList = List.replicate 16 none := by decide +kernel
      rw [hs, List.getD_eq_getElem?_getD, List.getElem?_replicate]
      split <;> rfl
    rw [this] at h
    exact absurd h (by nofun)

theorem live_run : live.runInv :=
  ⟨by decide +kernel, fun h => absurd h (by decide +kernel), fun _ => ⟨by decide +kernel, by decide +kernel⟩⟩

theorem live_link : live.linkInv := by unfold State.linkInv; decide +kernel

theorem live_port : live.portInv := by unfold State.portInv; decide +kernel

theorem default_settings_in_range : Settings.default.inRange := by
  refine ⟨by decide +kernel, ?_, by decide +kernel, by decide +kernel, ?_⟩ <;> intro t <;> cases t <;> decide +kernel

theorem live_records : live.recordsInv := by
  refine ⟨⟨by decide +kernel, ?_, by decide +kernel, by decide +kernel, ?_⟩, ?_, ?_⟩
  · intro t; cases t <;> decide +kernel
  · intro t; cases t <;> decide +kernel
  · intro t; cases t <;> exact default_settings_in_range
  · intro o h
    have : o = { kind := .cal 2000000 100000, stage := .programming, taken := 0 } := (Option.some.inj h).symm
    subst this
    exact trivial

theorem live_ladder : live.ladderInv := by
  refine ⟨by decide +kernel, by decide +kernel, ?_⟩
  intro h e
  have : h = 61 := (Option.some.inj e).symm
  subst this
  decide +kernel

/-- A state that meets every invariant, with a frame start in front of its queue: the hypotheses of the statements
that every step keeps an invariant. -/
def moving : State := live.withPending [.frameStart]

/-- The step at that state answers a next state. -/
theorem moving_step : ∃ t, step moving = .next t := ⟨_, rfl⟩

theorem witness_every_step_keeps_acceptance : moving.acceptanceInv ∧ ∃ t, step moving = .next t :=
  ⟨live_acceptance, moving_step⟩

theorem witness_every_step_keeps_time_and_steer : (moving.timeInv ∧ moving.steerInv) ∧ ∃ t, step moving = .next t :=
  ⟨live_time_and_steer, moving_step⟩

theorem witness_every_step_keeps_selection : moving.timingInv ∧ ∃ t, step moving = .next t :=
  ⟨live_selection, moving_step⟩

theorem witness_every_step_keeps_transfer_lists : moving.transferInv ∧ ∃ t, step moving = .next t :=
  ⟨live_transfer, moving_step⟩

theorem live_ingress : live.ingressInv := by
  intro t
  unfold IngressCounters.inRange
  cases t <;> decide +kernel

theorem witness_every_step_keeps_queues :
    (moving.queueInv ∧ moving.runInv ∧ moving.ingressInv) ∧ ∃ t, step moving = .next t :=
  ⟨⟨live_queues, live_run, live_ingress⟩, moving_step⟩

theorem witness_every_step_keeps_link_counts : moving.linkInv ∧ ∃ t, step moving = .next t :=
  ⟨live_link, moving_step⟩

theorem witness_every_step_keeps_the_port : moving.portInv ∧ ∃ t, step moving = .next t :=
  ⟨live_port, moving_step⟩

theorem witness_every_step_keeps_records_in_range : (moving.recordsInv ∧ moving.ladderInv) ∧ ∃ t, step moving = .next t :=
  ⟨⟨live_records, live_ladder⟩, moving_step⟩

/-! ## The hypotheses of the statements are met -/

/-- StepTakesOldestCommand: a queue with a command waiting, and an empty one. -/
theorem witness_step : (hub.withPending [.deliveryEnd .t0, .getId 3]).pending = [.deliveryEnd .t0, .getId 3] ∧
    hub.pending = [] := by decide +kernel

/-- The boot-slot mark on slot 3, which is not valid. -/
def markedInvalid : State := hub.withStore { Store.blank with bootMark := some 3 }

/-- The boot-slot mark on slot 3, which holds the TRAILER role. -/
def markedValid : State :=
  hub.withStore { Store.blank with
    bootMark := some 3,
    plan := Store.blank.plan.put 3 { valid := true, settings := { Settings.default with role := some .trailer } } }

/-- FullResetWithoutBootSlot: no mark, and a mark on the last slot, which is not valid. -/
theorem witness_full_reset_without_boot_slot : hub.store.bootMark = none ∧ markedInvalid.store.bootMark = some 3 ∧
    (markedInvalid.store.plan.at 3).valid = false ∧ (after .pinReset markedInvalid).port.lastCause = .pin ∧
    (resetAnswered .full markedInvalid).port.resetPending = some .full ∧
    (resetAnswered .full markedInvalid).port.reply = none ∧
    (after .commandFullReset (resetAnswered .full markedInvalid)).port.lastCause = .commandFull := by decide +kernel

/-- FullResetAppliesBootSlot: a mark on the last slot, which is valid. -/
theorem witness_full_reset_applies_boot_slot : markedValid.store.bootMark = some 3 ∧
    (markedValid.store.plan.at 3).valid = true ∧ (after .powerReset markedValid).role = some .trailer ∧
    (resetAnswered .full markedValid).port.resetPending = some .full ∧
    (after .commandFullReset (resetAnswered .full markedValid)).role = some .trailer := by decide +kernel

/-- `live` with T1 draining, a run in progress, and a RESET WARM answered. -/
def beforeWarm : State := resetAnswered .warm (runOf waitLink .waiting none (tenantIn .t1 .draining live))

/-- A TRAILER timed from LINK, whose supervision has run out or not. -/
def onLink (due : Bool) : State :=
  trailer.withTiming { trailer.timing with
    xfer := { trailer.timing.xfer with
      link := { trailer.timing.xfer.link with state := .qualified, hubClass := some .c1, expiryDue := due } },
    servo := { trailer.timing.servo with state := .locked, selected := some .link, everLocked := true, cls := .c2 } }

/-- The same with the ever-locked mark clear. -/
def neverLocked : State :=
  let s := onLink false
  s.withTiming { s.timing with servo := { s.timing.servo with state := .acquiring, everLocked := false, cls := .c5 } }

/-- The same with EXT QUALIFIED as well. -/
def onLinkWithExt : State :=
  let s := onLink false
  s.withBase { s.timing.base with ext := { s.timing.base.ext with state := .qualified } }

/-- WarmResetKeepsSettingsAndEmptiesQueues: `live`, its records in range, with T1 draining and a run in progress; GNSS
selected; LINK selected, alone with the ever-locked mark set and clear, and with another candidate. -/
theorem witness_warm_reset : beforeWarm.recordsInv ∧ beforeWarm.port.resetPending = some .warm ∧
    beforeWarm.port.reply = none ∧ (beforeWarm.tenant .t1).state = .draining ∧ beforeWarm.test.runState = .running ∧
    beforeWarm.timing.servo.selected ≠ some .link ∧ beforeWarm.timingInv ∧ beforeWarm.timing.limitReached = false ∧
    (onLink false).timing.servo.selected = some .link ∧ (onLink false).timing.servo.everLocked = true ∧
    (∀ y : Source, y ≠ .link → (onLink false).timing.candidate y = none) ∧ neverLocked.timing.servo.everLocked = false ∧
    (after .commandWarmReset (resetAnswered .warm (onLink false))).timing.servo.state = .holdover ∧
    (after .commandWarmReset (resetAnswered .warm neverLocked)).timing.servo.state = .freerun ∧
    (after .commandWarmReset (resetAnswered .warm onLinkWithExt)).timing.servo.selected = some .ext := by
  refine ⟨?_, by decide +kernel, by decide +kernel, by decide +kernel, by decide +kernel, by decide +kernel,
    by unfold State.timingInv; decide +kernel, by decide +kernel, by decide +kernel, by decide +kernel, ?_,
    by decide +kernel⟩
  · refine ⟨⟨by decide +kernel, ?_, by decide +kernel, by decide +kernel, ?_⟩, ?_, live_records.2.2⟩
    · intro t; cases t <;> decide +kernel
    · intro t; cases t <;> decide +kernel
    · intro t; cases t <;> exact default_settings_in_range
  · intro y h
    cases y <;> first | exact absurd rfl h | decide +kernel

/-- FrameStartCountsOneFrame: a HUB within R98, and a part without a role. -/
theorem witness_frame_start : live.role ≠ none ∧ live.timeInv ∧ State.reset.role = none :=
  ⟨by decide +kernel, live_time_and_steer.1, rfl⟩

/-- FrameStartCountsOneFrame, the plan: on its boundary in UP a HUB whose tenant T0 is ACTIVE with a packet of three
blocks, outside a run; the same with a stale head before it; and with 8 TEST blocks asked in a run at P0. -/
def givesBlocks (e : List Entry) : State :=
  onBoundary ((tenantIn .t0 .active (linked .up 16 0 hub)).withTenant .t0
    { hub.tenant .t0 with state := .active, queue := e ++ [{ entryOf 300 0 .tenant with arrival := 0xFFFFFFFF }] })

theorem witness_frame_plan :
    (∀ s ∈ [givesBlocks [], givesBlocks [{ entryOf 64 0 .tenant with arrival := 2 }],
        onBoundary (remaining 2 (runOf pathStep .active none (linked .up 16 0 hub)))],
      s.role ≠ none ∧ s.timing.base.frameHere = true ∧ s.timing.base.secondHere = false ∧ s.quiet = true) ∧
    (givesBlocks []).test.runState ≠ .running ∧
    ((after .frameStart (givesBlocks [])).tenant .t0).ingress.blocksSent = 3 ∧
    ((after .frameStart (givesBlocks [])).tenant .t0).blockSeq = 3 ∧
    (after .frameStart (givesBlocks [])).planner.last.map Prod.fst = some 0 ∧
    ((after .frameStart (givesBlocks [{ entryOf 64 0 .tenant with arrival := 2 }])).tenant .t0).ingress.staleRemovals = 1 ∧
    (after .frameStart (onBoundary (remaining 2 (runOf pathStep .active none (linked .up 16 0 hub))))).planner.last.map
      (fun p => p.2.testBlocks) = some 8 := by decide +kernel

/-- `givesBlocks` with its T0 paused, in a run whose TENANT_PATH step offers packets to a tenant. -/
def givesInRun (x : Tenant) : State :=
  let s := runOf (.tenantPath x 0 2 64 0 0) .active none (givesBlocks [])
  s.withTenant .t0 { s.tenant .t0 with paused := true }

theorem witness_injects : (givesInRun .t0).injectsAt .t0 ∧ ¬ (givesInRun .t1).injectsAt .t0 ∧
    ¬ (givesBlocks []).injectsAt .t0 := by
  refine ⟨⟨rfl, _, _, _, _, _, _, rfl, rfl, rfl⟩, ?_, fun h => absurd h.1 (by decide +kernel)⟩
  rintro ⟨-, w, k, n, l, e, m, hw, -, hb⟩
  obtain rfl := Option.some.inj hw
  cases hb

/-- FrameStartCountsOneFrame, in a run: the data path of T0 while the step offers T1 its packets; the levels of pause that
hold (a halt of 1 block left, a resume above it). -/
theorem witness_frame_plan_in_a_run :
    (givesInRun .t1).quiet = true ∧ (givesInRun .t1).role ≠ none ∧ (givesInRun .t1).timing.base.frameHere = true ∧
    (givesInRun .t1).timing.base.secondHere = false ∧ (givesInRun .t1).test.runState = .running ∧
    ((after .frameStart (givesInRun .t1)).tenant .t0).ingress.blocksSent = 3 ∧
    ((after .frameStart (givesInRun .t1)).tenant .t0).queue = [] ∧
    ((after .frameStart (givesInRun .t1)).tenant .t0).paused = false ∧
    ((after .frameStart (givesInRun .t0)).tenant .t0).queue.map Entry.origin = [.test, .test] := by decide +kernel

/-- EveryFrameFillsItsProfile: `live`; on its boundary in UP with a forced profile and in TAIL, and in DOWN. -/
theorem witness_frame_fills : live.queueInv ∧ live.recordsInv ∧ live.role ≠ none ∧
    (∀ s ∈ [live, remaining 4 (runOf pathStep .tail none live), hub,
        live.withLadder { live.ladder with forced := some 7 }],
      (onBoundary s).timing.base.frameHere = true ∧ (onBoundary s).timing.base.secondHere = false ∧
        (onBoundary s).quiet = true) ∧
    live.link.state = .up ∧ live.ladder.forced = none ∧ hub.link.state ≠ .up :=
  ⟨live_queues, live_records, by decide +kernel⟩

/-- `live` on its boundary at P1 with a report pending, in a run whose step asks for 8 TEST blocks and has sent 5. -/
def fullFrame : State :=
  let s := onBoundary (remaining 2 (runOf (.linkPattern none 0 8 .reserved 1 1 4 0 0) .active none live))
  let u := s.withLink { s.link with farReq := 1 }
  u.withTest { u.test with report := some (cleanReport 4), work := u.test.work.map fun w => { w with blocksSent := 5 } }

theorem full_frame_queues : fullFrame.queueInv := by
  refine ⟨?_, ?_, ?_⟩
  · intro t
    cases t <;> unfold TenantUnit.queueInv Entry.sound <;> decide +kernel
  · intro i e h
    have hs : fullFrame.test.steps.toList =
        some { body := .linkPattern none 0 8 .reserved 1 1 4 0 0, mandatory := true } :: List.replicate 15 none := by
      decide +kernel
    rw [hs] at h
    rcases i with _ | i
    · obtain rfl := Option.some.inj h
      unfold StepBody.inRange
      decide +kernel
    · rw [List.getD_cons_succ, List.getD_eq_getElem?_getD, List.getElem?_replicate] at h
      split at h <;> exact absurd h (by nofun)
  · intro w h
    obtain rfl := Option.some.inj h
    unfold StepBody.inRange
    decide +kernel

theorem full_frame_records : fullFrame.recordsInv := live_records

/-- EveryFrameFillsItsProfile, the blocks behind the header: a DELAY_RESP and a TEST_REPORT, 8 TEST blocks from sequence 5
on, the started packet's last block and the next packet's one of T0, and IDLE blocks to the end; a SYNC and a DELAY_REQ. -/
theorem witness_frame_blocks :
    fullFrame.role ≠ none ∧ fullFrame.quiet = true ∧ fullFrame.timing.base.frameHere = true ∧
    fullFrame.timing.base.secondHere = false ∧ fullFrame.link.state = .up ∧
    (let f := ((after .frameStart fullFrame).link.frame.map TxFrame.blocks).getD []
     f.length = 20 ∧ f[1]? = some (delayRespBytes 1 { sec := 0, ns := 4 }) ∧ f[2]? = some (cleanReport 4).bytes ∧
     f[3]? = some (testBlockBytes 1 0 Config.clearedPattern 5) ∧ f[10]? = some (testBlockBytes 1 0 Config.clearedPattern 12) ∧
     f[11]?.map (fun b => (segmentAt b).last) = some true ∧ f[12]?.map (fun b => (segmentAt b).length) = some 64 ∧
     f.drop 13 = List.replicate 7 idleBytes) ∧
    (after .frameStart fullFrame).test.report = none ∧
    (after .frameStart fullFrame).planner.last.map (fun p => (p.2.controls, p.2.testBlocks)) =
      some ([.delayResp, .testReport], 8) ∧
    ((after .frameStart (onBoundary (linked .acquire 1 0 hub))).link.frame.map fun f => f.blocks[1]?) =
      some (some (syncBytes 0 { sec := 0, ns := 0 } .c5)) := by decide +kernel

/-- FrameInDownIsHeaderAndIdle: a HUB in DOWN on a frame boundary. -/
theorem witness_frame_in_down : (onBoundary hub).role ≠ none ∧ (onBoundary hub).link.state = .down ∧
    (onBoundary hub).timing.base.frameHere = true ∧ (onBoundary hub).timing.base.secondHere = false ∧
    (onBoundary hub).quiet = true := by decide +kernel

/-- PlannerGivesCommittedShare: shares that sum to 256, one tenant with all of them and the others with none. -/
theorem witness_committed_share :
    let i := { planA with shares := ⟨⟨0, 256⟩, ⟨7, 0⟩, ⟨7, 0⟩, ⟨7, 0⟩⟩ }
    (i.shares.map Share.share).sum ≤ 256 ∧ (i.shares.get .t0).share = 256 ∧ (i.shares.get .t1).share = 0 ∧
      planA.link = .up ∧ planA.request = some (.reserved, 8) ∧ (∀ n, planD.request ≠ some (.reserved, n)) :=
  ⟨by decide +kernel, by decide +kernel, by decide +kernel, rfl, rfl, nofun⟩

/-- PlanUsesEveryBlockOnce: plan D, of 10 blocks. -/
theorem witness_plan_blocks : (planD.shares.map Share.share).sum ≤ 256 ∧ 10 ≤ planD.blocks := by decide +kernel

/-- SpareGoesStrictlyByLevel: in plan E, T1 at level 0 gets spare while T3 is at level 7. -/
theorem witness_spare_by_level :
    let i := { planA with shares := ⟨⟨0, 0⟩, ⟨7, 0⟩, ⟨7, 0⟩, ⟨7, 0⟩⟩ }
    (∀ z, (i.shares.get z).level ≤ 7) ∧ (i.shares.get .t0).level < (i.shares.get .t1).level ∧
      ((planFrame i).1.tenants.get .t1).committed < (planFrame i).1.grant .t1 := by
  refine ⟨?_, by decide +kernel, by decide +kernel⟩
  intro z
  cases z <;> decide +kernel

/-- HeaderRoundTrip: the example of Section 11, which fills its frame. -/
theorem witness_header : exampleHeader.wf = true := by decide +kernel

/-- BlocksRoundTrip: a segment at the greatest length field, a timestamp at the last nanosecond, a report at the greatest
counts. -/
theorem witness_blocks :
    let g : Segment := { first := true, last := true, origin := .test, seq := 255, length := 65535,
                         data := List.replicate 120 9 }
    let t : Stamp := { sec := 281474976710655, ns := 999999999 }
    let r : Report := { run := 65535, step := 255, blocks := 4294967295, erroredBlocks := 4294967295,
                        erroredBytes := 4294967295, missing := 4294967295, packets := 4294967295,
                        erroredPackets := 4294967295 }
    (g.data.length = 120 ∧ g.length < 65536) ∧ t.ns < 1000000000 ∧ r.step < 256 ∧ r.blocks < 4294967296 ∧
      r.erroredBlocks < 4294967296 ∧ r.erroredBytes < 4294967296 ∧ r.missing < 4294967296 ∧ r.packets < 4294967296 ∧
      r.erroredPackets < 4294967296 := by decide +kernel

/-- CutPacketIsReassembled: packets of 64 and of 1,536 bytes, with no sequence expected and with the next one. -/
theorem witness_cut_packet :
    let e := entryOf 64 0 .tenant
    let f := entryOf 1536 0 .tenant
    (64 ≤ e.data.length ∧ e.length = e.data.length ∧ e.total = blocksFor e.length ∧ e.sent = 0 ∧ e.origin = .tenant) ∧
      (f.data.length ≤ 1536 ∧ f.length = f.data.length ∧ f.total = blocksFor f.length ∧ f.sent = 0) ∧
      (hub.tenant .t0).packet = none ∧ (hub.tenant .t0).expected = none ∧
      ({ hub.tenant .t0 with expected := some 255 } : TenantUnit).expected = some 255 := by decide +kernel

/-- OwnTestBlocksCheckClean: the cleared pattern, one block, step 255, and no check record. -/
theorem witness_own_test_blocks : Config.clearedPattern.inRange = true ∧
    CheckRecord.matchesTraffic hub.test.check 1 255 = false := by decide +kernel

/-- A P0 header that names ten tenant blocks, one more than its frame has. -/
def crowdedHeader : Header := { idleHeader with tenantBlocks := ⟨10, 0, 0, 0⟩ }

/-- A TRAILER whose LINK is QUALIFYING with three exchanges accepted. -/
def crossingLink : State :=
  trailer.withTiming { trailer.timing with xfer := { trailer.timing.xfer with
    link := { trailer.timing.xfer.link with state := .qualifying, accepted := 3, previous := some 500 } } }

/-- LostFrameEffect: each link state at its boundary of lost frames; a record with no block, one with block 0 bad, one
whose header check fails, and one with a block too many. -/
theorem witness_lost_frame :
    (∀ s ∈ [linked .down 0 0 hub, linked .acquire 15 0 hub, linked .up 16 62 hub, linked .up 16 63 hub],
      s.role ≠ none ∧ s.quiet = true ∧ s.test.runState ≠ .running) ∧
    (recordOf [] 0).positions = [] ∧
    (recordOf [position true (List.replicate 128 0)] 0).positions = [position true (List.replicate 128 0)] ∧
    headerCheckPasses (List.replicate 128 0) = false ∧
    headerCheckPasses crowdedHeader.bytes = true ∧ Config.blocksOf 0 < 1 + (byteAt crowdedHeader.bytes 12).toNat ∧
    (after (.receivedFrameRecord (recordOf [position false crowdedHeader.bytes] 9)) hub).link.counters.lostInconsistent =
      1 ∧ State.reset.role = none := by decide +kernel

/-- LostFrameEffect and AbsentFrameEffect in a run: the 63rd lost frame leaves the run alone; at the entry to DOWN a
LINK_PATTERN step ends, and LINK goes with what it holds. -/
theorem witness_lost_in_a_run :
    let s (lost : Nat) := remaining 2 (runOf pathStep .active none (linked .up 16 lost crossingLink))
    (s 62).quiet = true ∧ (s 63).timing.xfer.link.state ≠ .absent ∧ (s 62).test.runState = .running ∧
    (after (.receivedFrameRecord (recordOf [] 0)) (s 62)).test = (s 62).test ∧
    (after (.receivedFrameRecord (recordOf [] 0)) (s 63)).test.results.map ResultRecord.reason = [.linkLost] ∧
    (after (.receivedFrameRecord (recordOf [] 0)) (s 63)).timing.xfer.link.accepted = 0 ∧
    (after .absentFrame ((s 63).withLink { (s 63).link with absenceDue := true })).test.results.map
      ResultRecord.reason = [.linkLost] := by decide +kernel

/-- GoodHeaderEffect: DOWN; ACQUIRE at 14 and at 15 good headers, the last as a TRAILER with LINK absent; UP. -/
theorem witness_good_header :
    (∀ s ∈ [linked .down 0 0 hub, linked .acquire 14 0 hub, linked .acquire 15 0 trailer, linked .up 16 63 hub],
      s.role ≠ none ∧ s.quiet = true) ∧
    idleHeader.wf = true ∧ idleHeader.controls = [] ∧ (linked .acquire 15 0 trailer).role = some .trailer ∧
    (linked .acquire 15 0 trailer).timing.xfer.link.state = .absent ∧
    (linked .acquire 15 0 trailer).timing.xfer.link.hubClass = none ∧
    (after (.receivedFrameRecord (recordOf [position false idleHeader.bytes] 9)) (linked .acquire 15 0 trailer)).link.state =
      .up ∧
    (after (.receivedFrameRecord (recordOf [position false idleHeader.bytes] 9)) (linked .down 0 0 hub)).link.state ≠
      .up := by decide +kernel

/-- A header with one control block. -/
def controlHeader (k : ControlKind) : Header := { idleHeader with controls := [k] }

/-- A record of a control block behind its header. -/
def controlRecord (k : ControlKind) (bad : Bool) (b : List Byte) : FrameRecord :=
  recordOf [position false (controlHeader k).bytes, position bad b] 9

/-- A part with one capture waiting for its record. -/
def captured (s : State) : State := s.withBase { s.timing.base with markers := [{ sec := 5, ns := 400 }] }

/-- A TRAILER with an exchange that has its t3. -/
def awaitsResponse : State :=
  trailer.withTiming { trailer.timing with
    xfer := { trailer.timing.xfer with exchanges := [
      { seq := 3, t1 := { sec := 1, ns := 0 }, t2 := { sec := 1, ns := 500 }, t3 := some { sec := 1, ns := 900 },
        t4 := none, frame := 0 }] } }

/-- GoodHeaderEffect, the blocks behind the header: a whole frame in UP without a control block; each control block at
the role that takes it and at the other; the capture that goes with the record as t4 and t2 (less the receive latency). -/
theorem witness_good_header_blocks :
    (linked .up 16 0 hub).test.runState ≠ .running ∧ (linked .up 16 0 hub).quiet = true ∧
    Config.blocksOf idleHeader.txProfile ≤ (List.replicate 10 (position false idleHeader.bytes)).length ∧
    (∀ k ∈ [ControlKind.sync, .delayReq, .delayResp, .testReport], (controlHeader k).wf = true) ∧
    ((after (.receivedFrameRecord (controlRecord .delayReq false (delayReqBytes 3))) (captured hub)).timing.xfer.responses) =
      [{ seq := 3, t4 := { sec := 5, ns := 400 } }] ∧
    ((after (.receivedFrameRecord (controlRecord .delayReq false (delayReqBytes 3))) (captured hub)).timing.base.markers) =
      [] ∧
    (after (.receivedFrameRecord (controlRecord .delayReq true (delayReqBytes 3))) (captured hub)).link.counters.controlDiscarded =
      1 ∧
    ((after (.receivedFrameRecord (controlRecord .sync false (syncBytes 3 { sec := 4, ns := 0 } .c1)))
      (captured trailer)).timing.xfer.exchanges.map Exchange.t2) = [{ sec := 5, ns := 400 }] ∧
    (after (.receivedFrameRecord (controlRecord .delayResp false (delayRespBytes 3 { sec := 1, ns := 1400 })))
      awaitsResponse).timing.xfer.counters.completed = 1 ∧
    (after (.receivedFrameRecord (controlRecord .delayResp false (delayRespBytes 4 { sec := 1, ns := 1400 })))
      awaitsResponse).timing.xfer.counters.unmatched = 1 := by decide +kernel

/-- A header with a DELAY_REQ and a TEST_REPORT. -/
def twoControls : Header := { idleHeader with controls := [.delayReq, .testReport] }

/-- What that header leaves, its two control blocks on time and the seven positions behind them missing. -/
def twoControlsReceived : State :=
  after (.receivedFrameRecord (recordOf [position false twoControls.bytes, position true (delayReqBytes 3),
    position false (cleanReport 0).bytes] 9)) (linked .up 16 0 hub)

/-- A run whose step of 8 TEST blocks is in a phase in UP. -/
def reporting (phase : Phase) : State := remaining 4 (runOf pathStep phase none (linked .up 16 0 hub))

/-- GoodHeaderEffect, what R20, R163 and R164 give: two control blocks outside a run, the positions behind them missing; a
report that a step in TAIL holds, one that ends a step in AWAIT_REPORT, one of another run; a TEST block during a run. -/
theorem witness_good_header_report :
    twoControls.wf = true ∧ (linked .up 16 0 hub).test.runState ≠ .running ∧
    twoControlsReceived.link.counters.controlDiscarded = 1 ∧ twoControlsReceived.test.counters.unmatchedReports = 1 ∧
    twoControlsReceived.freeIndex = 8 ∧
    (reporting .tail).quiet = true ∧ (reporting .tail).test.runState = .running ∧
    (after (.receivedFrameRecord (controlRecord .testReport false (cleanReport 0).bytes)) (reporting .tail)).test.work.map
      Working.report = some (some (cleanReport 0)) ∧
    (after (.receivedFrameRecord (controlRecord .testReport false (cleanReport 0).bytes))
      (reporting .awaitReport)).test.results.map ResultRecord.verdict = [.pass] ∧
    (after (.receivedFrameRecord (controlRecord .testReport false { cleanReport 0 with erroredBlocks := 1 }.bytes))
      (reporting .awaitReport)).test.results.map ResultRecord.verdict = [.fail] ∧
    (after (.receivedFrameRecord (controlRecord .testReport false { cleanReport 0 with run := 2 }.bytes))
      (reporting .tail)).test.counters.unmatchedReports = 1 ∧
    (after (.receivedFrameRecord (recordOf [position false { idleHeader with testBlocks := 1 }.bytes,
      position false (testBlockBytes 1 0 Config.clearedPattern 0)] 9)) (reporting .tail)).test.check.map
        CheckRecord.blocks = some 1 := by decide +kernel

/-- GoodHeaderEffect: a control block during a LINK_PATTERN step leaves the run alone, and the TEST block behind it is
checked. -/
theorem witness_good_header_in_a_run :
    let h : Header := { controlHeader .delayReq with testBlocks := 1 }
    let r := recordOf [position false h.bytes, position false (delayReqBytes 3),
      position false (testBlockBytes 1 0 Config.clearedPattern 0)] 9
    h.wf = true ∧ (reporting .active).quiet = true ∧ (reporting .active).link.state = .up ∧
    (reporting .active).test.work.map (fun w => w.step.body.kind) = some .linkPattern ∧
    (after (.receivedFrameRecord r) (reporting .active)).test.check.map CheckRecord.blocks = some 1 ∧
    (after (.receivedFrameRecord r) (reporting .active)).test.work = (reporting .active).test.work := by decide +kernel

/-- The one TENANT block of a test packet of 64 bytes, of run 1 and step 0, as its sender cuts it. -/
def testPacketBlock : List Byte :=
  ({ first := true, last := true, origin := .test, seq := 0, length := 64,
     data := testPacketBytes 1 0 Config.clearedPattern 64 } : Segment).bytes

/-- GoodHeaderEffect, R164: a test packet makes a record, the next one is taken into it; behind an end mark of the same
frame, whose report leaves it out, it makes a new one; one flagged bad counts as errored. -/
theorem witness_good_header_test_packets :
    let h (mark : Option (BitVec 16)) : Header := { idleHeader with tenantBlocks := ⟨1, 0, 0, 1⟩, endMark := mark }
    let r (mark : Option (BitVec 16)) := recordOf [position false (h mark).bytes, position false testPacketBlock,
      position true testPacketBlock] 9
    let s := linked .up 16 0 hub
    (h (some 1)).wf = true ∧ s.quiet = true ∧
    (after (.receivedFrameRecord (r none)) s).test.check.map (fun c => (c.packets, c.erroredPackets)) = some (2, 1) ∧
    (after (.receivedFrameRecord (r (some 1))) (after (.receivedFrameRecord (r none)) s)).test.report.map
      Report.packets = some 2 ∧
    (after (.receivedFrameRecord (r (some 1))) (after (.receivedFrameRecord (r none)) s)).test.check.map
      CheckRecord.packets = some 2 := by decide +kernel

/-- An absent frame that stands due. -/
def absentDueIn (s : State) : State := s.withLink { s.link with absenceDue := true }

/-- AbsentFrameEffect: none due, and one due in each link state at its boundary. -/
theorem witness_absent_frame : hub.link.absenceDue = false ∧
    ∀ s ∈ [linked .down 0 0 hub, linked .acquire 15 0 hub, linked .up 16 62 hub, linked .up 16 63 hub],
      (absentDueIn s).link.absenceDue = true ∧ (absentDueIn s).test.runState ≠ .running := by decide +kernel

theorem short_dwell_records (h : Option Nat) (k : h = none ∨ h = some 61) : (ladderAt 3 h hub).recordsInv := by
  obtain rfl | rfl := k <;>
    refine ⟨⟨by decide +kernel, ?_, by decide +kernel, by decide +kernel, ?_⟩, ?_,
      fun o e => absurd (show (none : Option StoreOp) = some o from e) (by nofun)⟩
  all_goals intro t; cases t
  all_goals first | exact default_settings_in_range | decide +kernel

/-- DownStepNeedsTwoSamples: at P3 (threshold 62) a sample of 61 without and with a held one, a sample of 62, and P0. -/
theorem witness_down_step : (ladderAt 3 none hub).recordsInv ∧ (ladderAt 3 none hub).ladderInv ∧
    (ladderAt 3 (some 61) hub).recordsInv ∧ (ladderAt 3 (some 61) hub).ladderInv ∧
    61 < shortDwell.threshold 3 ∧ shortDwell.threshold 3 ≤ 62 ∧ (ladderAt 0 none hub).ladder.rp = 0 ∧
    hub.port.line.isSome = true ∧ (lineFree hub).port.line = none ∧ (lineFree hub).port.slots = NoticeSlots.clear := by
  refine ⟨short_dwell_records _ (.inl rfl), ⟨by decide +kernel, by decide +kernel, nofun⟩, short_dwell_records _ (.inr rfl),
    ⟨by decide +kernel, by decide +kernel, ?_⟩, by decide +kernel, by decide +kernel, rfl, rfl, rfl, rfl⟩
  intro h e
  have : h = 61 := (Option.some.inj e).symm
  subst this
  decide +kernel

/-- UpStepNeedsFullDwell: at P3, 63 samples and 64 samples of 84, the threshold of P4 and the hysteresis. -/
theorem witness_up_step : (ladderAt 3 none hub).recordsInv ∧ (ladderAt 3 none hub).ladderInv ∧
    (ladderAt 3 none hub).ladder.dwell = 0 ∧
    (List.replicate 63 84).length < (ladderAt 3 none hub).ladder.record.upDwell ∧
    (List.replicate 64 84).length = (ladderAt 3 none hub).ladder.record.upDwell ∧
    ∀ x ∈ List.replicate 64 84, shortDwell.threshold 4 + shortDwell.hysteresis ≤ x :=
  ⟨short_dwell_records _ (.inl rfl), ⟨by decide +kernel, by decide +kernel, nofun⟩, by decide +kernel, by decide +kernel, by decide +kernel, by decide +kernel⟩

/-- The statements about requests: the reset state takes a request at once, on a busy line and on a free one. -/
theorem witness_request_free : hub.requestFree ∧ (lineFree hub).requestFree ∧ hub.port.line.isSome = true :=
  ⟨⟨rfl, rfl, rfl⟩, ⟨rfl, rfl, rfl⟩, rfl⟩

/-- SetLinkTakesOrRefuses: an up-dwell of 64 is in range, and 63, 65,536, a hysteresis of 41 and a threshold of 256 are
not. -/
theorem witness_set_link :
    (after (.setLink 1 shortDwell) (lineFree hub)).ladder.record = shortDwell ∧
    ∀ r ∈ [{ shortDwell with upDwell := 63 }, { shortDwell with upDwell := 65536 }, { shortDwell with hysteresis := 41 },
        { shortDwell with cap := 8 }, { shortDwell with thresholds := #v[0, 36, 48, 62, 76, 92, 108, 256] }],
      (after (.setLink 1 r) (lineFree hub)).ladder.record = Config.defaultLink := by decide +kernel

/-- SetSharesTakesOrRefuses: shares that sum to 256 are taken, and to 257 refused (R77). -/
theorem witness_set_shares :
    (after (.setShares 1 ⟨⟨0, 256⟩, ⟨7, 0⟩, ⟨7, 0⟩, ⟨7, 0⟩⟩) hub).planner.shares = ⟨⟨0, 256⟩, ⟨7, 0⟩, ⟨7, 0⟩, ⟨7, 0⟩⟩ ∧
    (after (.setShares 1 ⟨⟨0, 128⟩, ⟨7, 129⟩, ⟨7, 0⟩, ⟨7, 0⟩⟩) hub).planner.shares = Config.defaultShares := by
  decide +kernel

/-- PacketAdmissionInOrder: no run in progress, for each test of R48 (bad, 63 bytes, a tenant that is OFF, a full queue,
an admitted packet). -/
theorem witness_admission :
    let a := tenantIn .t0 .active hub
    let full := a.withTenant .t0 { a.tenant .t0 with queue := List.replicate 256 (entryOf 64 0 .tenant) }
    a.test.runState ≠ .running ∧ full.test.runState ≠ .running ∧
    ((after (.tenantPacketArrival .t0 true (List.replicate 64 0)) a).tenant .t0).ingress.bad = 1 ∧
    ((after (.tenantPacketArrival .t0 false (List.replicate 63 0)) a).tenant .t0).ingress.lengthErrors = 1 ∧
    ((after (.tenantPacketArrival .t0 false (List.replicate 64 0)) hub).tenant .t0).ingress.refused = 1 ∧
    ((after (.tenantPacketArrival .t0 false (List.replicate 64 0)) full).tenant .t0).ingress.overrun = 1 ∧
    ((after (.tenantPacketArrival .t0 false (List.replicate 64 0)) a).tenant .t0).queue.length = 1 := by decide +kernel

/-- PacketAdmissionInOrder in a run: at T0 while the step offers T1 its packets, and at T0 while it offers T0 its own, with
room for an admitted packet; there the two test packets left follow it. -/
theorem witness_admission_in_a_run :
    (∀ x ∈ [Tenant.t0, .t1], (givesInRun x).test.runState = .running ∧ ((givesInRun x).tenant .t0).state = .active ∧
      (givesInRun x).test.work.map Working.phase = some .active) ∧
    ((after (.tenantPacketArrival .t0 false (List.replicate 64 0)) (givesInRun .t1)).tenant .t0).queue.map Entry.origin =
      [.tenant, .tenant] ∧
    ((after (.tenantPacketArrival .t0 false (List.replicate 64 0)) (givesInRun .t0)).tenant .t0).queue.map Entry.origin =
      [.tenant, .tenant, .test, .test] ∧
    ((after (.tenantPacketArrival .t0 false (List.replicate 63 0)) (givesInRun .t0)).tenant .t0).queue.length = 1 := by
  decide +kernel

/-- DeliveryAtPacketBoundary: a delivery in progress, and none. -/
theorem witness_delivery :
    (live.tenant .t0).egress = [{ length := 64, blocks := 1, errored := false, data := List.replicate 64 1 }] ∧
    (live.tenant .t0).delivering = true ∧ (live.tenant .t1).egress = [] := by decide +kernel

/-- The hold input as last sampled (R92): asserted during a delivery it reads released until the delivery ends with an
entry waiting; asserted on an empty buffer it is not sampled. -/
theorem test_hold_is_sampled_between_deliveries :
    let two := live.withTenant .t0 { live.tenant .t0 with
      egress := (live.tenant .t0).egress ++ (live.tenant .t0).egress, hold := false, holdSeen := false }
    let held := after (.holdInput .t0 true) two
    (held.tenant .t0).holdSeen = false ∧ ((after (.deliveryEnd .t0) held).tenant .t0).holdSeen = true ∧
    ((after (.holdInput .t0 false) (after (.deliveryEnd .t0) held)).tenant .t0).holdSeen = false ∧
    ((after (.holdInput .t1 true) live).tenant .t1).holdSeen = false := by decide +kernel

/-- A tenant whose head entry arrived 801 frames ago, with the default stale limit of 800. -/
def staleHead (age : BitVec 32) (st : TenantState) (q : List Entry) : State :=
  let s := hub.withLink { hub.link with frameCounter := age }
  s.withTenant .t0 { s.tenant .t0 with state := st, queue := q }

/-- StaleHeadIsRemoved: ages of 801 and of 800, a head of each origin, a started head, an empty queue. -/
theorem witness_stale_head :
    (∀ s ∈ [staleHead 801 .draining [entryOf 64 0 .tenant], staleHead 801 .pending [entryOf 64 0 .test]],
      s.role ≠ none ∧ s.test.runState ≠ .running ∧ (s.tenant .t0).record.staleLimit = 800 ∧
      (s.tenant .t0).queue.head?.map Entry.sent = some 0) ∧
    ((801 : BitVec 32) - 0).toNat = 801 ∧ ((800 : BitVec 32) - 0).toNat ≤ 800 ∧
    ((after (.staleRemoval .t0) (staleHead 801 .draining [entryOf 64 0 .tenant])).tenant .t0).state = .off ∧
    ((after (.staleRemoval .t0) (staleHead 800 .active [entryOf 64 0 .tenant])).tenant .t0).queue.length = 1 ∧
    ((after (.staleRemoval .t0) (staleHead 801 .active [entryOf 240 1 .tenant])).tenant .t0).queue.length = 1 ∧
    ((staleHead 801 .active []).tenant .t0).queue = [] := by decide +kernel

/-- The invariant of the ingress counters that StaleHeadIsRemoved asks for. -/
theorem witness_stale_head_counters : (staleHead 801 .draining [entryOf 64 0 .tenant]).ingressInv := by
  intro t
  unfold IngressCounters.inRange
  cases t <;> decide +kernel

/-- StaleHeadIsRemoved in a run: a test packet of the step is counted by it, and of another step is not. -/
theorem witness_stale_head_in_a_run :
    let s (k : Nat) := runOf tenantStep .active none
      (staleHead 801 .active [{ entryOf 64 0 .test with run := some 1, step := some k }])
    (∀ k ∈ [0, 1], (s k).role ≠ none ∧ (s k).test.runState = .running ∧ ((s k).tenant .t0).ingress.testAged = 0) ∧
    (after (.staleRemoval .t0) (s 0)).test.work.map Working.aged = some 1 ∧
    (after (.staleRemoval .t0) (s 1)).test.work.map Working.aged = some 0 ∧
    ((after (.staleRemoval .t0) (s 1)).tenant .t0).queue = [] := by decide +kernel

/-- SetTenantLimitsAndTakes: an index of 4; a tenant in service; a halt of 0; a stale limit of 7; levels above 1,024. -/
theorem witness_set_tenant :
    Tenant.ofIndex 3 = some .t3 ∧ Tenant.ofIndex 4 = none ∧ (live.tenant .t0).state = .active ∧
    (tenantIn .t1 .draining hub |>.tenant .t1).state = .draining ∧ (hub.tenant .t3).state = .off ∧
    ((after (.setTenant 1 3 (some { Config.defaultTenant with staleLimit := 7 })) hub).tenant .t3).state = .off ∧
    ((after (.setTenant 1 3 (some { Config.defaultTenant with ingressHalt := 2000, ingressResume := 1024 })) hub).tenant
      .t3).record = { Config.defaultTenant with ingressHalt := 1024, ingressResume := 1023 } ∧
    live.requestFree := by
  unfold State.requestFree
  decide +kernel

/-- A PENDING tenant in a part that has passed acceptance. -/
def mayActivate : State :=
  let s := tenantIn .t3 .pending hub
  s.withTest { s.test with acceptance := .waived }

/-- TenantActivateChecksFour: all four met, and an OFF tenant with acceptance NONE. -/
theorem witness_activate : mayActivate.requestFree ∧ (mayActivate.tenant .t3).state = .pending ∧
    mayActivate.test.acceptance = .waived ∧ mayActivate.test.runState = .idle ∧
    ((after (.tenantActivate 1 3) mayActivate).tenant .t3).state = .active ∧
    ((after (.tenantActivate 1 3) hub).tenant .t3).state = .off := by
  unfold State.requestFree
  decide +kernel

/-- TenantDrainKeepsTraffic and TenantOffEmptiesTheTenant: no run, an ACTIVE tenant with a queue and one without, a
tenant that is not, an aborted delivery. -/
theorem witness_drain_and_off : live.requestFree ∧ live.test.runState ≠ .running ∧ (live.tenant .t0).state = .active ∧
    (live.tenant .t1).state = .off ∧ ((live.tenant .t0).delivering && !(live.tenant .t0).egress.isEmpty) = true ∧
    ((after (.tenantDrain 1 0) live).tenant .t0).state = .draining ∧
    ((after (.tenantDrain 1 0) (tenantIn .t0 .active hub)).tenant .t0).state = .off ∧
    ((after (.tenantOff 1 0) live).tenant .t0).state = .off ∧
    ((after (.tenantOff 1 0) (live.withTenant .t0 { live.tenant .t0 with agedEarly := true })).tenant .t0).agedEarly = false ∧
    (runOf tenantStep .active none live).test.runState = .running ∧
    (runOf tenantStep .active none live).test.work.map (fun w => w.step.body) = some tenantStep ∧
    ((after (.tenantDrain 1 0) (runOf tenantStep .active none live)).test.results.map ResultRecord.reason) =
      [.tenantState] ∧
    ((after (.tenantOff 1 0) (runOf tenantStep .active none live)).test.results.map ResultRecord.verdict) = [.fail] := by
  unfold State.requestFree
  decide +kernel

/-- SecondBoundaryEffect: `live`, half a microsecond before its second boundary, and a part without a role. -/
theorem witness_second_boundary :
    (later 1999999000 live).timeInv ∧ (later 1999999000 live).timing.base.secondHere = false ∧
    (later 1999999000 live).timing.base.frameHere = false ∧
    1999750000 ≤ (later 1999999000 live).timing.base.now.half ∧
    ((later 1999999000 live).withBase (later 1999999000 live).timing.base.reachSecond).quiet = true ∧
    (after .secondBoundary (later 1999999000 live)).timing.base.now = { sec := 1, half := 0 } ∧
    State.reset.role = none ∧ (after .secondBoundary State.reset).timing.base.now = { sec := 1, half := 0 } :=
  ⟨by unfold State.timeInv; decide +kernel, by decide +kernel⟩

/-- SecondBoundaryEffect in a run: a step in WAITING counts the second, one in TAIL does not. -/
theorem witness_second_boundary_in_a_run :
    let waiting := later 1999999000 (runOf waitLink .waiting none live)
    let s := waiting.withTest { waiting.test with work := waiting.test.work.map fun w => { w with deadline := 2 } }
    (s.withBase s.timing.base.reachSecond).quiet = true ∧ s.timing.base.frameHere = false ∧
    (after .secondBoundary s).test.work.map (fun w => (w.deadline, w.waited)) = some (1, 1) ∧
    (let u := later 1999999000 (remaining 4 (runOf pathStep .tail none live))
     (u.withBase u.timing.base.reachSecond).quiet = true ∧ (after .secondBoundary u).test = u.test) := by decide +kernel

/-- The GNSS qualifier in a state with its two counts. -/
def gnssIn (st : SourceState) (good bad : Nat) : State :=
  let s := onGnss .freerun .c5 hub
  s.withTiming { s.timing with
    base := { s.timing.base with gnss := { s.timing.base.gnss with state := st, good := good, bad := bad } },
    servo := { s.timing.servo with selected := none, everLocked := false } }

/-- A pulse 500 ns after a moment that lies so much after the reference. -/
def pulseAfter (dt : Nat) (s : State) : State := after (.pulse .gnss 1000) (later (dt - 1000) s)

/-- PulseIsJudgedByItsInterval: the first pulse; the eighth good one at the shortest and a first one at the longest good
interval; the third bad one on both sides; a good and a bad one in FAULTED; a spurious one and the shortest one that is
not; a pulse beyond the next frame boundary. -/
theorem witness_pulse :
    hub.timeInv ∧ hub.timing.base.gnss.reference = none ∧ hub.timing.base.gnss.state = .absent ∧
    (∀ dt ∈ [999999999, 1000000000, 1999997999, 1999998000, 2000002000, 2000002001],
      (later (dt - 1000) (gnssIn .qualifying 7 0)).timing.base.gnss.reference = some 4000000000 ∧
      (later (dt - 1000) (gnssIn .qualifying 7 0)).timing.base.advance + 1000 = 4000000000 + dt ∧
      1000 ≤ (later (dt - 1000) (gnssIn .qualifying 7 0)).toBoundary ∧
      (later 1000 (later (dt - 1000) (gnssIn .qualifying 7 0))).quiet = true) ∧
    (pulseAfter 1999998000 (gnssIn .qualifying 7 0)).timing.base.gnss.state = .qualified ∧
    (pulseAfter 2000002000 (gnssIn .qualifying 0 0)).timing.base.gnss.good = 1 ∧
    (pulseAfter 1999997999 (gnssIn .qualifying 0 2)).timing.base.gnss.state = .faulted ∧
    (pulseAfter 2000002001 (gnssIn .qualified 0 2)).timing.base.gnss.state = .faulted ∧
    (pulseAfter 2000002001 (gnssIn .faulted 0 3)).timing.base.gnss.bad = 3 ∧
    (pulseAfter 2000002000 (gnssIn .faulted 7 3)).timing.base.gnss.state = .qualified ∧
    (pulseAfter 999999999 (gnssIn .qualified 0 2)).timing.base.gnss.counters.spurious = 1 ∧
    hub.port.line ≠ none ∧ hub.port.buffer = [] ∧ hub.timing.base.toFrame < 250001 ∧
    hub.timing.base.secondHere = false ∧ (after (.pulse .gnss 250001) hub).link.frameCounter = 1 ∧
    (after (.pulse .gnss 250000) hub).link.frameCounter = 0 := by
  refine ⟨by unfold State.timeInv; decide +kernel, by decide +kernel, by decide +kernel, ?_⟩
  decide +kernel

/-- The invariant of the port that the crossing clauses ask for. -/
theorem witness_crossing : hub.portInv ∧ State.reset.portInv ∧ State.reset.timing.base.toSecond < 2000000001 := by
  refine ⟨by unfold State.portInv; decide +kernel, by unfold State.portInv; decide +kernel, by decide +kernel⟩

/-- A HUB LOCKED to GNSS with an unlock count. -/
def lockedAt (unlock : Nat) : State :=
  let s := onGnss .locked .c1 hub
  s.withTiming { s.timing with servo := { s.timing.servo with unlock := unlock } }

/-- LockedMeasurementSteers: 0 ns, within the window; 1,000 ns outside it, as the first and as the fourth in a row. -/
theorem witness_locked_measurement :
    (∀ u ∈ [0, 2, 3], ∀ dt ∈ [1999998000, 2000000000, 2000002000],
      let s := later (dt - 1000) (lockedAt u)
      1000 ≤ s.toBoundary ∧ (later 1000 s).quiet = true ∧ s.timing.servo.state = .locked ∧
      s.timing.servo.selected = some .gnss ∧ s.timing.selection = some .gnss ∧ s.timing.base.gnss.state = .qualified ∧
      s.timing.base.gnss.reference = some 4000000000 ∧ 1999998000 ≤ s.timing.base.advance + 1000 - 4000000000 ∧
      s.timing.base.advance + 1000 - 4000000000 ≤ 2000002000) ∧
    (later 1999999000 (lockedAt 3)).timeInv ∧ (pulseAfter 2000000000 (lockedAt 3)).timing.servo.unlock = 0 ∧
    (pulseAfter 1999998000 (lockedAt 2)).timing.servo.unlock = 3 ∧
    (pulseAfter 1999998000 (lockedAt 3)).timing.servo.state = .acquiring := by
  refine ⟨by decide +kernel, by unfold State.timeInv; decide +kernel, ?_⟩
  decide +kernel

/-- A HUB in ACQUIRING on GNSS with a lock count and an ever-locked mark. -/
def acquiringAt (lock : Nat) (ever : Bool) : State :=
  let s := onGnss .acquiring .c5 hub
  s.withTiming { s.timing with servo := { s.timing.servo with lock := lock, everLocked := ever } }

/-- A TRAILER in UP on LINK, its exchange with the HUB's seconds `w` behind its own. -/
def exchanging (w : Nat) (s : State) : State :=
  (linked .up 16 0 s).withTiming { s.timing with
    xfer := { s.timing.xfer with exchanges := [
      { seq := 3, t1 := { sec := 10, ns := 0 }, t2 := { sec := BitVec.ofNat 48 (10 + w), ns := 500 },
        t3 := some { sec := BitVec.ofNat 48 (10 + w), ns := 900 }, t4 := none, frame := 0 }] } }

/-- The record that completes it. -/
def completing : FrameRecord := controlRecord .delayResp false (delayRespBytes 3 { sec := 10, ns := 1400 })

/-- LockedMeasurementSteers, the second and the third part: the 15th and the 16th measurement inside the window; a step
(2 µs above a threshold of 1 µs) and none with the mark set; the eighth good pulse, whose source is selected by it; one of a
source not selected; LINK with W of 0 and of 2, acquiring; and LINK not selected. -/
theorem witness_measurement :
    (∀ s ∈ [acquiringAt 14 true, acquiringAt 15 false, gnssIn .qualifying 7 0],
      1000 ≤ (later 1999999000 s).toBoundary ∧ (later 1000 (later 1999999000 s)).quiet = true ∧
      (later 1999999000 s).timing.base.gnss.reference = some 4000000000) ∧
    (pulseAfter 2000000000 (acquiringAt 14 true)).timing.servo.lock = 15 ∧
    (pulseAfter 2000000000 (acquiringAt 15 false)).timing.servo.state = .locked ∧
    (pulseAfter 1999998000 (acquiringAt 15 false)).timing.servo.counters.steps = 0 ∧
    (pulseAfter 2000000000 (gnssIn .qualifying 7 0)).timing.servo.counters.acted = 1 ∧
    (pulseAfter 2000000000 (gnssIn .qualifying 6 0)).timing.servo.counters.ignored = 1 ∧
    (∀ s ∈ [exchanging 0 neverLocked, exchanging 2 neverLocked],
      s.role = some .trailer ∧ s.quiet = true ∧ s.link.state = .up ∧ s.timing.servo.selected = some .link ∧
      (s.timing.xfer.takeResp 3 { sec := 10, ns := 1400 } s.timing.base.record.asymmetry).2.isSome = true) ∧
    (controlHeader .delayResp).wf = true ∧
    (after (.receivedFrameRecord completing) (exchanging 0 neverLocked)).timing.servo.lock = 1 ∧
    (after (.receivedFrameRecord completing) (exchanging 2 neverLocked)).timing.servo.counters.fullSets = 1 ∧
    (after (.receivedFrameRecord completing) (exchanging 2 neverLocked)).timing.base.now =
      { sec := BitVec.ofInt 48 (-2), half := 0 } := by decide +kernel

/-- A good pulse that brings QUALIFIED raises its TIMING notices before the hand-on (R109, R132): on a free line the first
frame is the SOURCE_STATE notice, and the STEP notice of the measurement is raised last. -/
theorem test_qualification_is_raised_before_the_hand_on :
    (match (pulseAfter 2000000000 (lineFree (gnssIn .qualifying 7 0))).port.line with
     | some (.notice .timing (.timing c) _) => some (c.cause, c.state)
     | _ => none) = some (.sourceState, .acquiring) := by decide +kernel

/-- A HUB locked to GNSS half a microsecond before the absence of GNSS expires. -/
def nearAbsence : State := later 2999999000 (lockedAt 0)

/-- LosingTheSourceEntersHoldover: GNSS alone, and LINK alone. -/
theorem witness_losing_the_source :
    nearAbsence.timing.base.gnss.state ≠ .absent ∧ nearAbsence.timing.base.gnss.lastPulse = some 4000000000 ∧
    4000000000 + 3000000000 - nearAbsence.timing.base.advance ≤ nearAbsence.toBoundary ∧
    nearAbsence.timing.servo.selected = some .gnss ∧
    (∀ y : Source, y ≠ .gnss → nearAbsence.timing.candidate y = none) ∧
    nearAbsence.timing.servo.everLocked = true ∧ 0 < nearAbsence.timing.base.record.holdoverLimit ∧
    hub.timing.base.gnss.state = .absent ∧ (onLink false).timing.xfer.link.expiryDue = false ∧
    (onLink true).timing.xfer.link.expiryDue = true ∧
    (∀ y : Source, y ≠ .link → (onLink true).timing.candidate y = none) ∧
    (after (.absenceExpiry .gnss) nearAbsence).timing.servo.state = .holdover ∧
    (after .linkSupervisionExpiry (onLink true)).timing.servo.state = .holdover := by
  refine ⟨by decide +kernel, by decide +kernel, by decide +kernel, by decide +kernel, ?_, by decide +kernel,
    by decide +kernel, by decide +kernel, by decide +kernel, by decide +kernel, ?_, by decide +kernel⟩ <;>
  · intro y h
    cases y <;> first | exact absurd rfl h | decide +kernel

/-- LosingTheSourceEntersHoldover in a run: a WAIT step whose condition does not hold after the event stays. -/
theorem witness_losing_the_source_in_a_run :
    let s := runOf waitLink .waiting none (onLink true)
    let t := after .linkSupervisionExpiry s
    s.timing.xfer.link.expiryDue = true ∧ s.test.runState = .running ∧ t.holds .linkUp = false ∧ t.test = s.test := by
  decide +kernel

/-- MarkerIsTheNearestFourNanoseconds: 2 ns before the second boundary is half way, and is rounded up to it (R103); a
second capture waits behind the first. -/
theorem witness_marker : (later 1999999000 hub).timeInv ∧ 996 ≤ (later 1999999000 hub).toBoundary ∧
    (after (.receiveMarkerCapture 996) (later 1999999000 hub)).timing.base.markers = [{ sec := 1, ns := 0 }] ∧
    (after (.receiveMarkerCapture 995) (later 1999999000 hub)).timing.base.markers = [{ sec := 0, ns := 999999996 }] ∧
    (after (.receiveMarkerCapture 0) (captured hub)).timing.base.markers =
      [{ sec := 5, ns := 400 }, { sec := 0, ns := 0 }] := by
  unfold State.timeInv
  decide +kernel

/-- A HUB whose SYNC countdown stands at a value. -/
def countingDown (n : Nat) : State :=
  hub.withTiming { hub.timing with xfer := { hub.timing.xfer with countdown := n } }

/-- A TRAILER with exchanges begun 64 and 63 frames ago. -/
def waitingExchanges : State :=
  let e (f : BitVec 32) : Exchange :=
    { seq := f.setWidth 16, t1 := { sec := 0, ns := 0 }, t2 := { sec := 0, ns := 0 }, t3 := none, t4 := none, frame := f }
  (trailer.withLink { trailer.link with frameCounter := 70 }).withTiming { trailer.timing with
    xfer := { trailer.timing.xfer with exchanges := [e 6, e 7] } }

/-- SyncDueAndExchangeTimeout: a countdown of 1 and of 2, the two roles, and an exchange on each side of 64 frames; a
frame start with a response waiting, with the countdown over and running, and with an exchange to request. -/
theorem witness_sync_and_timeout : (countingDown 1).role = some .hub ∧ (countingDown 1).timing.xfer.countdown = 1 ∧
    (countingDown 2).timing.xfer.countdown ≠ 1 ∧ waitingExchanges.role = some .trailer ∧
    (after .exchangeTimeout waitingExchanges).timing.xfer.exchanges.map Exchange.frame = [7] ∧
    (∀ s ∈ [live, linked .acquire 1 0 (countingDown 1), linked .acquire 1 0 (countingDown 2),
        linked .acquire 1 0 waitingExchanges],
      (onBoundary s).timing.base.frameHere = true ∧ (onBoundary s).timing.base.secondHere = false ∧
        (onBoundary s).quiet = true ∧ s.role ≠ none) ∧
    live.timing.xfer.responses.length = 2 ∧
    (after .frameStart (onBoundary (linked .acquire 1 0 (countingDown 1)))).timing.xfer.syncSeq = 1 ∧
    (after .frameStart (onBoundary (linked .acquire 1 0 (countingDown 2)))).timing.xfer.countdown = 1 ∧
    (waitingExchanges.timing.xfer.exchanges.filter fun e =>
      decide ((waitingExchanges.link.frameCounter - e.frame).toNat < 64)).map Exchange.t3 = [none] := by decide +kernel

/-- HOLDOVER with an aging step due. -/
def agingNow : State :=
  let s := inHoldover 3600 hub
  s.withTiming { s.timing with servo := { s.timing.servo with agingDue := true } }

/-- HoldoverAgesAndDegrades: an aging step due; the limit of 14,400 s reached. -/
theorem witness_holdover : agingNow.timing.servo.agingDue = true ∧ (inHoldover 14400 hub).timing.servo.state = .holdover ∧
    (inHoldover 14400 hub).timing.servo.cls = .c3 ∧
    (inHoldover 14400 hub).timing.base.record.holdoverLimit ≤ (inHoldover 14400 hub).timing.servo.elapsed ∧
    (after .holdoverLimit (inHoldover 14400 hub)).timing.servo.cls = .c4 ∧
    (after .holdoverLimit (inHoldover 14399 hub)).timing.servo.cls = .c3 := by decide +kernel

/-- SetTimingTakesOrRefuses: a limit of 60 s is taken, 59 s refused; a level of 4 is refused. -/
theorem witness_set_timing :
    (after (.setTiming 1 { Config.defaultTiming with holdoverLimit := 60 }) hub).timing.base.record.holdoverLimit = 60 ∧
    (after (.setTiming 1 { Config.defaultTiming with holdoverLimit := 59 }) hub).timing.base.record = Config.defaultTiming ∧
    (after (.setTiming 1 { Config.defaultTiming with extLevel := some 4 }) hub).timing.base.record = Config.defaultTiming := by
  decide +kernel

/-- TimeSetWaitsForTheBoundary and TimingRestartClearsTheMark: a TRAILER on LINK, and a HUB. -/
theorem witness_time_requests : (onLink false).requestFree ∧ (onLink false).role = some .trailer ∧
    (onLink false).timing.servo.selected = some .link ∧ (after (.timeSet 1 9) (onLink false)).timing.base.pendingSet = none ∧
    (after (.timeSet 1 9) hub).timing.base.pendingSet = some 9 ∧
    (after (.timingRestart 1) (onLink false)).timing.servo.state = .acquiring ∧
    (after (.timingRestart 1) hub).timing.servo.state = .freerun := by
  unfold State.requestFree
  decide +kernel

/-- ExchangeRecoversTheOffset: the greatest and the least differences on a LINK that is QUALIFYING, and the whole seconds
of the spec's first exchange (R128): the TRAILER at 37 s and the HUB at 1,000 s. -/
theorem witness_exchange :
    let t1 : Stamp := { sec := 1000, ns := 0 }
    let t3 : Stamp := { sec := 37, ns := 999999999 }
    let x : Transfer := { trailer.timing.xfer with link := { trailer.timing.xfer.link with state := .qualifying } }
    let y := x.complete t1 (t1.shift (1000000 - 963 * 1000000000)) t3 (t3.shift (-1000000 + 963 * 1000000000)) 0
    1 ≤ (t1.sec.toNat : Int) + -963 ∧ (t3.sec.toNat : Int) - -963 ≤ 281474976710654 ∧ t3.ns < 1000000000 ∧
      y.1.link.result = some { o := 1000000, d := 0, a := 1000000, b := -1000000 } ∧ y.2 = some (-1000000, -963) := by
  decide +kernel

/-- A LINK source in a state with a count and a previous delay, at its TRAILER. -/
def sourceAt (st : SourceState) (n : Nat) (d : Option Int) : Transfer :=
  { trailer.timing.xfer with link := { trailer.timing.xfer.link with state := st, accepted := n, previous := d } }

/-- An exchange of two one-way differences that ends on a source, as the rows of R132's table read it: the state, the
count, the previous delay, and whether a measurement is handed on. -/
def exchanged (x : Transfer) (a b : Int) : SourceState × Nat × Option Int × Bool :=
  let t1 : Stamp := { sec := 9, ns := 500 }
  let y := x.complete t1 (t1.shift (a + 3000000000)) t1 (t1.shift (b - 3000000000)) 0
  (y.1.link.state, y.1.link.accepted, y.1.link.previous, y.2.isSome)

/-- ExchangeRecoversTheOffset, R132's table: rejected and accepted at 1 ms in each state; no previous delay; 200 ns and
201 ns from it, in QUALIFYING at counts of 2 and 3 and in QUALIFIED. -/
theorem witness_exchange_table :
    (∀ p ∈ [(sourceAt .qualifying 3 (some 500), (1000001 : Int), (0 : Int), SourceState.qualifying, 0, (none : Option Int), false),
        (sourceAt .qualified 0 (some 500), 0, -1000001, .qualified, 0, some 500, false),
        (sourceAt .qualified 0 (some 500), 500000000, 0, .qualified, 0, some 500, false),
        (sourceAt .absent 0 none, 1000000, 0, .absent, 0, none, false),
        (sourceAt .qualifying 0 none, 1000000, -1000000, .qualifying, 1, some 0, true)],
      exchanged p.1 p.2.1 p.2.2.1 = p.2.2.2) ∧
    (∀ p ∈ [(sourceAt .qualifying 2 (some 300), (500 : Int), SourceState.qualifying, 3, true),
        (sourceAt .qualifying 3 (some 700), 501, .qualified, 0, true),
        (sourceAt .qualifying 3 (some 299), 500, .qualifying, 1, false),
        (sourceAt .qualified 0 (some 701), 500, .qualifying, 1, false),
        (sourceAt .qualified 0 (some 700), 500, .qualified, 0, true)],
      exchanged p.1 500 p.2.1 = (p.2.2.1, p.2.2.2.1, some 500, p.2.2.2.2)) := by decide +kernel

/-- ExchangeRecoversTheOffset, R130: a DELAY_RESP that completes an exchange and one that does not; the entry to UP with a
SYNC; SYNCs with C3 and C4 on either side; the frame start before the limit of 8 timing periods, and at it. -/
theorem witness_source_events :
    (let s := awaitsResponse.withTiming { awaitsResponse.timing with xfer :=
       { awaitsResponse.timing.xfer with link := (sourceAt .qualifying 3 (some 500)).link } }
     let u := linked .up 16 0 s
     u.quiet = true ∧ (controlHeader .delayResp).wf = true ∧
     (after (.receivedFrameRecord (controlRecord .delayResp false (delayRespBytes 3 { sec := 1, ns := 1400 })))
       u).timing.xfer.link.state = .qualified ∧
     (after (.receivedFrameRecord (controlRecord .delayResp false (delayRespBytes 4 { sec := 1, ns := 1400 })))
       u).timing.xfer.link = u.timing.xfer.link) ∧
    (∀ p ∈ [(QClass.c3, LinkState.up, SourceState.qualifying), (.c3, .down, .absent), (.c4, .up, .absent),
        (.c3, .acquire, .qualifying)],
      let s := linked p.2.1 15 0 trailer
      s.quiet = true ∧ (after (.receivedFrameRecord (controlRecord .sync false (syncBytes 3 { sec := 4, ns := 0 } p.1)))
        s).timing.xfer.link.state = p.2.2) ∧
    (let s := (linked .up 16 0 trailer).withTiming { trailer.timing with xfer := sourceAt .qualified 0 (some 500) }
     (after (.receivedFrameRecord (controlRecord .sync false (syncBytes 3 { sec := 4, ns := 0 } .c4)))
       s).timing.xfer.counters.disqualified = 1) ∧
    (∀ p ∈ [(8 * Config.defaultTiming.timingPeriod - 2, false), (8 * Config.defaultTiming.timingPeriod - 1, true)],
      let x := sourceAt .qualified 0 (some 500)
      let s := onBoundary (trailer.withTiming { trailer.timing with xfer := { x with link := { x.link with since := p.1 } } })
      s.quiet = true ∧ (after .frameStart s).timing.xfer.link.since = p.1 + 1 ∧
        (after .frameStart s).timing.xfer.link.expiryDue = p.2) := by decide +kernel

/-- A step table whose entries 0 and 1 are a WAIT step and empty. -/
def oneStep (s : State) : State :=
  s.withTest { s.test with steps := s.test.steps.set 0 (some { body := waitLink, mandatory := true }) }

/-- TestStartChecksInOrder: a run in progress; 0 and 17 steps; an empty entry 1; a tenant in service; a WAIT step whose
condition does not hold. -/
theorem witness_test_start : (oneStep hub).requestFree ∧ (runOf waitLink .waiting none hub).test.runState = .running ∧
    (oneStep hub).test.runState ≠ .running ∧ ((oneStep hub).test.steps.toList.getD 0 none).isSome = true ∧
    (oneStep hub).test.steps.toList.getD 1 none = none ∧
    (after (.testStart 1 2 false) (oneStep hub)).test.runState = .idle ∧
    (after (.testStart 1 1 true) (oneStep (tenantIn .t2 .draining hub))).test.runState = .idle ∧
    (oneStep hub).holds .linkUp = false ∧ (after (.testStart 1 1 true) (oneStep hub)).test.runState = .running := by
  unfold State.requestFree
  decide +kernel

/-- A step table whose entry 0 is a mandatory step. -/
def firstStep (b : StepBody) (s : State) : State :=
  s.withTest { s.test with steps := s.test.steps.set 0 (some { body := b, mandatory := true }) }

/-- The state after TEST_START of that one step. -/
def started (b : StepBody) (s : State) : State := after (.testStart 1 1 false) (firstStep b s)

/-- A TRAILER, GNSS and LINK QUALIFIED, the last pulse and the last measurement of LINK (100 ns) a second old. -/
def crossing : State :=
  let s := (onGnss .locked .c1 hub).withRole (some .trailer)
  s.withTiming { s.timing with
    xfer := { s.timing.xfer with
      link := { s.timing.xfer.link with state := .qualified, accepted := 5, lastM := some (100, 0), hubClass := some .c1 } } }

/-- TestStartChecksInOrder, step 0: refused for each reason, and started in each kind. -/
theorem witness_step_starts :
    startRefused { body := pathStep, mandatory := true } hub = some (.fail, .linkNotUp) ∧
    (started pathStep hub).test.results.map ResultRecord.reason = [.linkNotUp] ∧
    (started tenantStep (linked .up 16 0 hub)).test.results.map ResultRecord.reason = [.tenantState] ∧
    (started (.timingCross 4 0) hub).test.results.map ResultRecord.reason = [.role] ∧
    (started (.timingCross 4 0) trailer).test.results.map ResultRecord.reason = [.sourceNotQualified] ∧
    (started waitLink (linked .up 16 0 hub)).test.results.map ResultRecord.verdict = [.pass] ∧
    (∀ b ∈ [pathStep, tenantStep, waitLink, .timingCross 4 0],
      let s := if b = waitLink then hub else linked .up 16 0 (tenantIn .t0 .pending crossing)
      startRefused { body := b, mandatory := true } s = none ∧ (firstStep b s).requestFree) ∧
    (started pathStep (linked .up 16 0 hub)).ladder.forced = some 7 ∧
    (started pathStep (linked .up 16 0 hub)).test.work.map Working.phase = some .lead ∧
    (started tenantStep (linked .up 16 0 (tenantIn .t0 .pending hub))).test.work.map Working.made = some 1 ∧
    ((started tenantStep (linked .up 16 0 (tenantIn .t0 .pending hub))).tenant .t0).queue.map Entry.origin = [.test] ∧
    (started (.timingCross 4 0) crossing).test.work.map Working.deadline = some 8 := by
  unfold State.requestFree
  decide +kernel

/-- A run with the acceptance flag. -/
def flaggedRun : State :=
  let s := runOf waitLink .waiting none hub
  s.withTest { s.test with flag := true }

/-- AbortAndWaive: no run, a run with the flag and one without. -/
theorem witness_abort_and_waive : flaggedRun.requestFree ∧ flaggedRun.test.work.isSome = true ∧
    flaggedRun.test.runState = .running ∧ flaggedRun.test.flag = true ∧
    (after (.testAbort 1) flaggedRun).test.runState = .done ∧ (after (.acceptWaive 1) flaggedRun).test.acceptance = .none ∧
    (after (.acceptWaive 1) (runOf waitLink .waiting none hub)).test.acceptance = .waived ∧
    (runOf tenantStep .active none hub).test.work.map Working.phase = some .active := by
  unfold State.requestFree
  decide +kernel

/-- The run of a step in a phase whose frame starts or seconds are over. -/
theorem witness_step_phases :
    (∀ s ∈ [runOf pathStep .lead none hub, runOf pathStep .active none hub, runOf pathStep .tail (some (cleanReport 0)) hub,
        runOf pathStep .tail none hub, runOf pathStep .awaitReport none hub,
        runOf (.tenantPath .t0 0 1 64 0 0) .tail (some (cleanReport 0)) hub, runOf waitLink .waiting none hub,
        runOf (.timingCross 4 0) .waiting none trailer],
      s.test.runState = .running ∧ s.test.work.map Working.remaining = some 0 ∧
      s.test.work.map Working.deadline = some 0) ∧
    ((after .leadEnd (runOf pathStep .lead none hub)).test.work.map Working.phase) = some .active ∧
    ((after .activeEnd (runOf pathStep .active none hub)).test.work.map Working.phase) = some .tail ∧
    (after .tailEnd (runOf pathStep .tail (some (cleanReport 0)) hub)).test.results.map ResultRecord.verdict = [.pass] ∧
    (after .tailEnd (runOf pathStep .tail (some { cleanReport 0 with erroredBlocks := 1 }) hub)).test.results.map
      ResultRecord.reason = [.limitExceeded] ∧
    (after .tailEnd (runOf (.tenantPath .t0 0 1 64 0 0) .tail (some { cleanReport 0 with erroredPackets := 1 })
      hub)).test.results.map ResultRecord.reason = [.limitExceeded] ∧
    ((after .tailEnd (runOf pathStep .tail none hub)).test.work.map Working.remaining) = some 256 ∧
    (after .reportWaitExpiry (runOf pathStep .awaitReport none hub)).test.results.map ResultRecord.reason = [.noReport] ∧
    (after .waitTimeout (runOf waitLink .waiting none hub)).test.results.map ResultRecord.reason = [.timeout] ∧
    (after .timingCrossTimeout (runOf (.timingCross 4 0) .waiting none trailer)).test.results.map ResultRecord.reason =
      [.timeout] := by decide +kernel

/-- A HUB in UP on a boundary with a TENANT_PATH step of two packets in ACTIVE, one of which is queued. -/
def injecting : State :=
  let s := onBoundary (linked .up 16 0 (tenantIn .t0 .active hub))
  let u := runOf (.tenantPath .t0 0 2 64 0 0) .active none (s.withTenant .t0 { s.tenant .t0 with queue := [entryOf 64 0 .test] })
  u.withTest { u.test with work := u.test.work.map fun w => { w with made := 1 } }

/-- An optional WAIT step out of time, with a second step behind it. -/
def waitThen (b : StepBody) (s : State) : State :=
  let e : Sys2Proof.Step := { body := waitLink, mandatory := false }
  s.withTest { s.test with
    runState := .running, runId := 1, count := 2,
    steps := (s.test.steps.set 0 (some e)).set 1 (some { body := b, mandatory := true }),
    work := some (Working.fresh 0 e Config.clearedPattern) }

/-- A HUB in UP on a boundary with a TENANT_PATH step of one packet in ACTIVE, which is queued. -/
def lastPacket : State :=
  let e : Entry := { entryOf 64 0 .test with run := some 1, step := some 0 }
  let s := onBoundary (linked .up 16 0 (tenantIn .t0 .pending hub))
  let u := runOf tenantStep .active none (s.withTenant .t0 { s.tenant .t0 with queue := [e] })
  u.withTest { u.test with work := u.test.work.map fun w => { w with made := 1 } }

/-- `crossing` with a TIMING_CROSS step of 4 samples that has taken some, half a microsecond before the next pulse. -/
def sampling (limit taken : Nat) : State :=
  let s := later 1999999000 (runOf (.timingCross 4 limit) .waiting none crossing)
  s.withTest { s.test with work := s.test.work.map fun w => { w with deadline := 5, samples := taken } }

/-- StepPhasesEnd: the step behind a WAIT; a frame start of LINK_PATTERN with one frame left and of TENANT_PATH whose last
packet leaves; a sample of -100 ns, the fourth within a limit of 25 on the mean and without it. -/
theorem witness_step_counts :
    startRefused { body := .timingCross 4 0, mandatory := true } crossing = none ∧
    (after .waitTimeout (waitThen (.timingCross 4 0) crossing)).test.work.map Working.deadline = some 8 ∧
    (after .waitTimeout (waitThen pathStep (linked .up 16 0 hub))).test.work.map Working.phase = some .lead ∧
    (let s := onBoundary (remaining 1 (runOf pathStep .active none (linked .up 16 0 hub)))
     s.role ≠ none ∧ s.quiet = true ∧ s.timing.base.frameHere = true ∧ s.timing.base.secondHere = false ∧
     (after .frameStart s).test.work.map (fun w => (w.remaining, w.blocksSent, w.lowest)) = some (0, 8, some 0)) ∧
    lastPacket.quiet = true ∧ injecting.quiet = true ∧
    (after .frameStart lastPacket).test.work.map (fun w => (w.sent, w.phase, w.remaining)) = some (1, .tail, 4) ∧
    (after .frameStart injecting).test.work.map (fun w => (w.made, w.phase)) = some (2, .active) ∧
    (∀ k ∈ [0, 2, 3], 1000 ≤ (sampling 25 k).toBoundary ∧ (later 1000 (sampling 25 k)).quiet = true ∧
      (sampling 25 k).timing.sourceState .gnss = .qualified ∧ (sampling 25 k).timing.sourceState .link = .qualified ∧
      (sampling 25 k).timing.base.gnss.reference = some 4000000000) ∧
    (after (.pulse .gnss 1000) (sampling 25 2)).test.work.map (fun w => (w.samples, w.sum)) = some (3, -100) ∧
    (after (.pulse .gnss 1000) (sampling 25 3)).test.results.map ResultRecord.verdict = [.pass] ∧
    (after (.pulse .gnss 1000) (sampling 24 3)).test.results.map ResultRecord.reason = [.limitExceeded] := by
  decide +kernel

theorem witness_step_counts_time : (sampling 25 3).timeInv := by unfold State.timeInv; decide +kernel

/-- R49, R158: the packet taken after the grant of frame 0 arrives at frame 1, the next to start. -/
theorem test_injected_packet_arrives_at_the_next_frame :
    ((after .frameStart injecting).tenant .t0).queue.map Entry.arrival = [1] := by decide +kernel

/-- TestTablesAreSet: entry 3 and 4 of the pattern table, entry 15 and 16 of the step table, a T of 64 and of 65. -/
theorem witness_test_tables :
    ((after (.setPattern 1 3 (some { Config.clearedPattern with bars := 8, barSize := 96 })) hub).test.patterns.get .t3).bars =
      8 ∧
    (after (.setPattern 1 4 (some { Config.clearedPattern with bars := 8 })) hub).test.patterns = hub.test.patterns ∧
    ((after (.setPattern 1 0 (some { Config.clearedPattern with bars := 3 })) hub).test.patterns.get .t0).bars = 1 ∧
    ((after (.setStep 1 15 (.step { body := .linkPattern none 0 65 .spare 0 1 4 0 0, mandatory := false })) hub).test.steps[15]) =
      some { body := .linkPattern none 0 64 .spare 0 1 4 0 0, mandatory := false } ∧
    (after (.setStep 1 16 .empty) hub).test.steps = hub.test.steps ∧
    ((after (.setStep 1 0 (.step { body := tenantStep, mandatory := true })) hub).test.steps[0]).isSome = true ∧
    ((after (.setStep 1 0 (.step { body := .tenantPath .t0 0 1 63 0 0, mandatory := true })) hub).test.steps[0]) = none ∧
    ((after (.setStep 1 0 (.step { body := .timingCross 3600 1000000, mandatory := true })) hub).test.steps[0]).isSome =
      true ∧
    ((after (.setStep 1 0 (.step { body := .timingCross 3 0, mandatory := true })) hub).test.steps[0]) = none ∧
    ((after (.setStep 1 0 (.step { body := .wait .linkUp 3601, mandatory := true })) hub).test.steps[0]) = none ∧
    (after (.setStep 1 0 .empty) (runOf waitLink .waiting none hub)).test.steps[0].isSome = true := by decide +kernel

/-- FrameOnTheLineIsTheRequest: the receiver in HUNT, and in FRAME; a kind of 0 and of 26; a body of 512 bytes. -/
theorem witness_frame_on_the_line : hub.port.rx = none ∧ hub.requestFree ∧
    (after (.managementFrame [0x5A, 0]) hub).port.rx = some [0] ∧ (List.replicate 512 (0 : Byte)).length ≤ 512 ∧
    25 < (26 : Byte).toNat ∧ ((0x5B : Byte) ≠ 0x5A) ∧
    (after (.managementFrame (managementBytes 1 7 [])) (lineFree hub)).port.line =
      some (.reply { kind := 1, tag := 7, status := .ok, body := .identity "SATHELON UGMIRA TS46" 1 .power }) ∧
    (0 : BitVec 16) ≠ crc16 [0, 2, 1, 7] ∧
    (after (.managementFrame [0x5A, 0, 2, 1, 7, 0, 0]) hub).port.counters.check = 1 ∧
    (after (.managementFrame [0x5A, 0, 1]) hub).port.counters.length = 1 ∧
    (after (.managementFrame [0x5A, 2, 3]) hub).port.counters.length = 1 := by
  unfold State.requestFree
  decide +kernel

/-- FrameOnTheLineIsTheRequest: a body of one byte behind each kind that carries none. -/
theorem witness_bad_length : ∀ k ∈ [1, 14, 18, 19, 20],
    (after (.managementFrame (managementBytes k 7 [0])) (lineFree hub)).port.line =
      some (.reply { kind := k, tag := 7, status := .badLength, body := .empty }) := by decide +kernel

/-- A reply waiting behind the frame on the line, with requests in the buffer. -/
def replyWaits (n : Nat) : State :=
  hub.withPort { hub.port with
    reply := some { kind := 1, tag := 0, status := .ok, body := .empty },
    buffer := List.replicate n { kind := 1, tag := 1, what := .request .getId } }

/-- A line that is sending, with the last and the first of the notices pending. -/
def noticesPending : State :=
  (hub.raise .profile (.boot bootNoticeAtPower)).raise (.tenant .t3) (.boot bootNoticeAtPower)

/-- LineSendsReplyThenHighestNotice: a reply waiting; a RESET answered; nothing; two notices. -/
theorem witness_line : (replyWaits 0).port.line.isSome = true ∧ (replyWaits 0).port.buffer = [] ∧
    (replyWaits 0).port.reply.isSome = true ∧ hub.port.reply = none ∧ hub.port.resetPending = none ∧
    hub.port.slots.highest = none ∧
    (after .outgoingFrameEnd noticesPending).port.line = some (.notice (.tenant .t3) (.boot bootNoticeAtPower) 0) ∧
    ((after .outgoingFrameEnd noticesPending).port.slots.get .profile).isSome = true ∧
    (noticesPending.port.slots.get .boot).isNone = true ∧
    (resetAnswered .warm live).port.line.isSome = true ∧ (resetAnswered .warm live).port.buffer = [] := by decide +kernel

/-- LineSendsReplyThenHighestNotice: one request and two behind a waiting reply, and one behind the reply to a RESET. -/
theorem witness_line_takes_the_next_request :
    (replyWaits 1).port.line.isSome = true ∧ (replyWaits 1).port.resetPending = none ∧
    (after .outgoingFrameEnd (replyWaits 1)).port.reply.map Reply.tag = some 1 ∧
    (after .outgoingFrameEnd (replyWaits 2)).port.buffer.length = 1 ∧
    (let s := (replyWaits 1).withPort { (replyWaits 1).port with resetPending := some .full }
     (after .outgoingFrameEnd s).port.buffer.length = 1 ∧ (after .outgoingFrameEnd s).port.reply = none) ∧
    (let s := (replyWaits 1).withPort { (replyWaits 1).port with
       buffer := [{ kind := 3, tag := 4, what := .request (.reset (some .warm)) }] }
     (after .outgoingFrameEnd s).port.resetPending = some .warm) := by decide +kernel

/-- LineSendsReplyThenHighestNotice: a request buffered behind the reply to a RESET that is on the line; the end of that
reply is the reset of its option, the row of the other option does nothing, and the buffer is emptied. -/
theorem witness_request_behind_a_reset : ∀ o ∈ [ResetOption.full, .warm],
    let s := resetAnswered o (replyWaits 1)
    s.port.line.isSome = true ∧ s.port.reply = none ∧ s.port.resetPending = some o ∧ s.port.buffer.length = 1 ∧
    (after .outgoingFrameEnd s).port.buffer = [] ∧
    (after .outgoingFrameEnd s).port.lastCause = (if o = .full then .commandFull else .commandWarm) ∧
    after (if o = .full then .commandWarmReset else .commandFullReset) s = s := by decide +kernel

/-- R174: the reply to RESET WARM begins, its end is the reset, and the row of the other option does nothing. -/
theorem test_reset_follows_its_reply :
    let s := after (.resetWarm 1) (lineFree live)
    s.port.lastCause = .power ∧ (after .commandFullReset s).port.lastCause = .power ∧
      (after .outgoingFrameEnd s).port.lastCause = .commandWarm ∧ (after .commandWarmReset live).port.lastCause = .power := by
  decide +kernel

/-- R172: on a free line the first notice of an event begins at once, and a higher one raised after it waits. -/
theorem test_notice_begins_at_once :
    let s := (lineFree hub).raise .profile (.boot bootNoticeAtPower) |>.raise .link (.boot bootNoticeAtPower)
    s.port.line = some (.notice .profile (.boot bootNoticeAtPower) 0) ∧ (s.port.slots.get .link).isSome = true := by
  decide +kernel

/-- R85: a block that is neither the last nor brings the packet to its total leaves it in progress, also where it already
passes the total. -/
theorem test_packet_past_its_total_stays :
    let b (first : Bool) (q : BitVec 8) : Segment :=
      { first := first, last := false, origin := .tenant, seq := q, length := 100, data := List.replicate 120 0 }
    let u := ((hub.tenant .t0).takeBlock (b true 0) false).1
    u.packet.isSome = true ∧ ((u.takeBlock (b false 1) false).1).packet.isSome = true := by decide +kernel

/-- RequestsWaitInArrivalOrder: one request waiting, and two. -/
theorem witness_requests_wait : (Instr.storeErase 9 3).request? = some (9, .storeErase 3) ∧
    (replyWaits 1).port.line.isSome = true ∧ (replyWaits 1).port.reply.isSome = true ∧
    (after (.storeErase 9 3) (replyWaits 1)).port.buffer.length = 2 ∧
    (after (.storeErase 9 3) (replyWaits 2)).port.counters.full = 1 ∧
    (resetAnswered .full hub).port.line.isSome = true ∧ (resetAnswered .full hub).port.resetPending.isSome = true ∧
    (after (.getId 9) (resetAnswered .full hub)).port.buffer.length = 1 := by decide +kernel

/-- ReadsAnswerAndChangeNothing: the index 3 names a tenant, and 4 names none. -/
theorem witness_reads : Tenant.ofIndex 3 = some .t3 ∧ 3 < 4 ∧ live.requestFree ∧
    ((after (.getCounters 1 0 true) live).tenant .t0).queue.length = 2 := ⟨rfl, by decide, ⟨rfl, rfl, rfl⟩, by decide +kernel⟩

/-- IdentityRoleAndReset: a part with a role, and one without. -/
theorem witness_identity : hub.role = some .hub ∧ State.reset.role = none ∧ State.reset.requestFree ∧
    (after (.setRole 1 (some .trailer)) State.reset).role = some .trailer ∧
    (after (.setRole 1 (some .trailer)) hub).role = some .hub := by
  unfold State.requestFree
  decide +kernel

/-- A store operation in flight, of a kind and in a stage. -/
def storeBusy (k : StoreOpKind) (stage : StoreStage) : State :=
  hub.withStore { Store.blank with op := some { kind := k, stage := stage, taken := 0 } }

/-- LOCKED for an hour. -/
def lockedHour (n : Nat) : State :=
  let s := lockedAt 0
  s.withTiming { s.timing with servo := { s.timing.servo with lockedTime := n } }

/-- StoreRequestsBeginOperations: slot 3 and 4; an aging rate of 100,000 and 100,001; a busy store; slot 3 valid and not;
3,600 s and 3,599 s of lock. -/
theorem witness_store_requests : markedValid.requestFree ∧ markedValid.store.op = none ∧
    (markedValid.store.plan.at 3).valid = true ∧ (hub.store.plan.at 3).valid = false ∧
    (storeBusy (.erase 0) .erasing).store.op.isSome = true ∧ ((-100000 : Int).natAbs ≤ 100000) ∧
    100000 < (100001 : Int).natAbs ∧ (lockedHour 3600).timing.servo.state = .locked ∧
    (after (.storeCal 1 (-100000)) (lockedHour 3600)).store.op.isSome = true ∧
    (after (.storeCal 1 (-100000)) (lockedHour 3599)).store.op.isSome = false ∧
    (after (.storeBoot 1 (some 3)) hub).store.op.isSome = false ∧
    (after (.storeSave 1 3) hub).store.op.isSome = true ∧ (after (.storeErase 1 4) hub).store.op.isSome = false := by
  unfold State.requestFree
  decide +kernel

/-- StoreOperationEnds: each operation in the stage that ends, on a line that is sending. -/
theorem witness_store_ends :
    (∀ s ∈ [storeBusy (.save 3 Settings.default) .erasing, storeBusy (.save 3 Settings.default) .programming,
        storeBusy (.cal 5 6) .programming, storeBusy (.boot (some 3)) .programming, storeBusy (.erase 3) .erasing],
      s.store.op.isSome = true ∧ s.port.line.isSome = true) ∧ hub.store.op = none ∧
    ((after .erasingEnd (storeBusy (.erase 3) .erasing)).store.op.map StoreOp.stage) = some .erasing ∧
    ((after .erasingEnd (storeBusy (.cal 5 6) .erasing)).store.op.map StoreOp.stage) = some .programming ∧
    ((after .storeOperationEnd (storeBusy (.save 3 Settings.default) .programming)).store.plan.at 3).valid = true ∧
    (after .storeOperationEnd (storeBusy (.erase 3) .erasing)).store.op = none := by decide +kernel

/-- StoreLoadAppliesTheSlot: slot 4; a busy store; a tenant in service; slot 3 not valid, and valid. -/
theorem witness_store_load : markedValid.requestFree ∧ markedValid.store.op = none ∧ markedValid.inService = [] ∧
    (markedValid.store.plan.at 3).valid = true ∧ (hub.store.plan.at 3).valid = false ∧
    (tenantIn .t3 .draining hub).inService = [.t3] ∧
    ((after (.storeLoad 1 3) markedValid).tenant .t2).state = .pending ∧ (after (.storeLoad 1 3) markedValid).role = some .hub ∧
    ((after (.storeLoad 1 3) hub).tenant .t2).state = .off := by
  unfold State.requestFree
  decide +kernel

/-- StoreLoadAppliesTheSlot, in a run: a WAIT step that waits and a TIMING_CROSS step with its sources stay. -/
theorem witness_store_load_in_a_run :
    (∀ s ∈ [runOf waitLink .waiting none markedValid, runOf tenantStep .tail none markedValid],
      s.test.runState = .running ∧ s.holds .linkUp = false ∧ s.requestFree ∧ s.inService = [] ∧
      (after (.storeLoad 1 3) s).test.work = s.test.work) ∧
    (let s := (runOf (.timingCross 4 0) .waiting none crossing).withStore markedValid.store
     s.crossReady = true ∧ (after (.storeLoad 1 3) s).test.work = s.test.work) := by
  unfold State.requestFree
  decide +kernel

end Sys2Proof.Tests
end

section
/-! SUPPORT. What an event of the Test Controller can change of the Tenant Units and of its own tables. `RunUnit`: a unit
but for its state, its queue and what goes with it. `RunFrame`: what `StepFrame` (Laws/Frames) leaves open there. -/

namespace Sys2Proof.Machine

/-- A unit after an event of the Test Controller: state, queue, sequence and pause differ, and of the counters those of
taken test packets and of pause assertions. -/
def RunUnit (u v : TenantUnit) : Prop :=
  v = { u with state := v.state, queue := v.queue, nextSeq := v.nextSeq, paused := v.paused,
               ingress := { u.ingress with testTaken := v.ingress.testTaken, pauses := v.ingress.pauses } }

theorem RunUnit.refl (u : TenantUnit) : RunUnit u u := rfl

theorem RunUnit.trans {u v w : TenantUnit} (h : RunUnit u v) (k : RunUnit v w) : RunUnit u w := by
  unfold RunUnit at *
  rw [k, h]

theorem RunUnit.record {u v : TenantUnit} (h : RunUnit u v) : v.record = u.record := by rw [h]
theorem RunUnit.egress {u v : TenantUnit} (h : RunUnit u v) : v.egress = u.egress := by rw [h]

theorem judgePause_runUnit (u : TenantUnit) : RunUnit u u.judgePause := by
  unfold TenantUnit.judgePause
  split <;> rfl

theorem takeTest_runUnit (u : TenantUnit) (f : BitVec 32) (r : BitVec 16) (k : Nat) (d : List Byte) :
    RunUnit u (u.takeTest f r k d) :=
  RunUnit.trans (v := ({ u with ingress := { u.ingress with testTaken := bump u.ingress.testTaken } } : TenantUnit).append
    f .test (some r) (some k) d) rfl (judgePause_runUnit _)

theorem injectPackets_runUnit (f : BitVec 32) (r : BitVec 16) (c l n : Nat) :
    ∀ x, RunUnit x.1 (injectPackets f r c l n x).1 := by
  induction n with
  | zero => exact fun x => .refl _
  | succ n ih =>
    rintro ⟨u, w⟩
    unfold injectPackets
    split
    · exact (takeTest_runUnit u _ _ _ _).trans (ih (_, _))
    · exact .refl u

theorem removeTest_runUnit (u : TenantUnit) (r : BitVec 16) (k : Nat) : RunUnit u (u.removeTest r k).1 :=
  RunUnit.trans (v := { u with queue := u.queue.filter fun e => !e.unstartedOf r k }) rfl (judgePause_runUnit _)

/-- Every entry of a unit's queue was in it before or is not all sent. -/
def Took (u v : TenantUnit) : Prop := ∀ e ∈ v.queue, e ∈ u.queue ∨ e.sent < e.total

theorem took_of_eq {u v : TenantUnit} (h : v.queue = u.queue) : Took u v := fun _ m => .inl (h ▸ m)

theorem Took.trans {u v w : TenantUnit} (h : Took u v) (k : Took v w) : Took u w := fun e m => (k e m).elim (h e) .inr

theorem judgePause_queue (u : TenantUnit) : u.judgePause.queue = u.queue := by
  unfold TenantUnit.judgePause
  split <;> rfl

/-- A test packet has its pattern descriptor, so no entry is all sent when it is taken. -/
theorem testPacketBytes_blocks (r : BitVec 16) (k : Nat) (p : Pattern) (n : Nat) :
    0 < blocksFor (testPacketBytes r k p n).length := by
  simp only [testPacketBytes, List.length_append, List.length_cons, List.length_nil, blocksFor]
  omega

theorem injectPackets_took (f : BitVec 32) (r : BitVec 16) (c l n : Nat) :
    ∀ x, Took x.1 (injectPackets f r c l n x).1 := by
  induction n with
  | zero => exact fun _ => took_of_eq rfl
  | succ n ih =>
    rintro ⟨u, w⟩
    unfold injectPackets
    split
    · refine Took.trans ?_ (ih _)
      intro e m
      rw [TenantUnit.takeTest, judgePause_queue] at m
      rcases List.mem_append.mp m with m | m
      · exact .inl m
      · rw [List.mem_singleton.mp m]
        exact .inr (testPacketBytes_blocks _ _ _ _)
    · exact took_of_eq rfl

theorem removeTest_took (u : TenantUnit) (r : BitVec 16) (k : Nat) : Took u (u.removeTest r k).1 := by
  intro e m
  rw [TenantUnit.removeTest, judgePause_queue] at m
  exact .inl (List.mem_filter.mp m).1

/-- What an event of the Test Controller changes of itself: the run's state and step, the log, the acceptance record and
the count of entries removed. -/
def RunTables (a b : TestUnit) : Prop :=
  b = { a with runState := b.runState, work := b.work, results := b.results, acceptance := b.acceptance,
               counters := { a.counters with entriesRemoved := b.counters.entriesRemoved } }

theorem RunTables.refl (a : TestUnit) : RunTables a a := rfl

theorem RunTables.trans {a b c : TestUnit} (h : RunTables a b) (k : RunTables b c) : RunTables a c := by
  unfold RunTables at *
  rw [k, h]

section
variable {a b : TestUnit} (h : RunTables a b)
include h
theorem RunTables.patterns : b.patterns = a.patterns := by rw [h]
theorem RunTables.steps : b.steps = a.steps := by rw [h]
theorem RunTables.runId : b.runId = a.runId := by rw [h]
theorem RunTables.count : b.count = a.count := by rw [h]
theorem RunTables.flag : b.flag = a.flag := by rw [h]
theorem RunTables.check : b.check = a.check := by rw [h]
theorem RunTables.report : b.report = a.report := by rw [h]
theorem RunTables.reportsSent : b.counters.reportsSent = a.counters.reportsSent := by rw [h]
theorem RunTables.unmatchedReports : b.counters.unmatchedReports = a.counters.unmatchedReports := by rw [h]
end

/-- The part of `StepFrame` that is about the units and the Test Controller's own tables. -/
structure RunFrame (s t : State) : Prop where
  units : ∀ x, RunUnit (s.tenant x) (t.tenant x)
  tables : RunTables s.test t.test
  queues : ∀ x, Took (s.tenant x) (t.tenant x)

theorem RunFrame.refl (s : State) : RunFrame s s := ⟨fun _ => .refl _, .refl _, fun _ => took_of_eq rfl⟩

theorem RunFrame.trans {s t u : State} (h : RunFrame s t) (k : RunFrame t u) : RunFrame s u :=
  ⟨fun x => (h.units x).trans (k.units x), h.tables.trans k.tables, fun x => (h.queues x).trans (k.queues x)⟩

theorem runFrame_of_eq {s t : State} (h : t.tenants = s.tenants) (k : t.test = s.test) : RunFrame s t :=
  ⟨fun x => by rw [State.tenant, State.tenant, h]; exact .refl _, by rw [k]; exact .refl _,
    fun x => took_of_eq (by rw [State.tenant, State.tenant, h])⟩

theorem OnlyNotices.runFrame {s t : State} (h : OnlyNotices s t) : RunFrame s t := runFrame_of_eq h.tenants h.test

theorem withTest_runFrame (s : State) (t : TestUnit) (h : RunTables s.test t) : RunFrame s (s.withTest t) :=
  ⟨fun _ => .refl _, h, fun _ => took_of_eq rfl⟩

theorem withWork_runFrame (s : State) (w : Option Working) : RunFrame s (s.withWork w) := withTest_runFrame s _ rfl

theorem withTenant_runFrame (s : State) (x : Tenant) (u : TenantUnit) (h : RunUnit (s.tenant x) u)
    (k : Took (s.tenant x) u) : RunFrame s (s.withTenant x u) :=
  ⟨fun y => by
    by_cases e : y = x
    · subst e; simpa using h
    · rw [State.withTenant_other _ _ _ _ e]; exact .refl _, .refl _, fun y => by
    by_cases e : y = x
    · subst e; simpa using k
    · rw [State.withTenant_other _ _ _ _ e]; exact took_of_eq rfl⟩

theorem foldl_runFrame {α : Type} (f : State → α → State) (h : ∀ s a, RunFrame s (f s a)) (l : List α) :
    ∀ s, RunFrame s (l.foldl f s) := by
  induction l with
  | nil => exact RunFrame.refl
  | cons a l ih => exact fun s => (h s a).trans (ih (f s a))

theorem withLadder_runFrame (s : State) (l : Ladder) : RunFrame s (s.withLadder l) := runFrame_of_eq rfl rfl

theorem withTiming_runFrame (s : State) (t : Timing) : RunFrame s (s.withTiming t) := runFrame_of_eq rfl rfl

theorem setForce_runFrame (p : Nat) (s : State) : RunFrame s (setForce p s) :=
  (withLadder_runFrame s _).trans (raiseProfile_onlyNotices _ _).runFrame

theorem removeForce_runFrame (s : State) : RunFrame s (removeForce s) := by
  unfold removeForce
  split
  · exact (withLadder_runFrame s _).trans (raiseProfile_onlyNotices _ _).runFrame
  · exact .refl s

theorem drainIfEmpty_runFrame (x : Tenant) (s : State) : RunFrame s (drainIfEmpty x s) := by
  unfold drainIfEmpty
  split
  · exact (withTenant_runFrame s x _ (by exact rfl) (by exact took_of_eq rfl)).trans (raiseTenant_onlyNotices _ _ _ _ _).runFrame
  · exact .refl s

theorem inject_runFrame (x : Tenant) (s : State) : RunFrame s (inject x s) := by
  unfold inject
  repeat' split
  all_goals first
    | exact .refl s
    | exact (withTenant_runFrame s x _ (injectPackets_runUnit _ _ _ _ _ _)
        (injectPackets_took _ _ _ _ _ _)).trans (withWork_runFrame _ _)

theorem countPathEntries_runFrame (a b : List Entry) (s : State) : RunFrame s (countPathEntries a b s) := by
  unfold countPathEntries
  repeat' split
  all_goals first | exact .refl s | exact withWork_runFrame s _

theorem endPathActive_runFrame (s : State) : RunFrame s (endPathActive s) := by
  unfold endPathActive
  repeat' split
  all_goals first | exact .refl s | exact withWork_runFrame s _

theorem removeStepEntries_runFrame (w : Working) (s : State) : RunFrame s (removeStepEntries w s) := by
  unfold removeStepEntries
  split
  · next x _ _ _ _ _ _ _ =>
    exact ((withTenant_runFrame s x _ (removeTest_runUnit _ _ _)
      (removeTest_took _ _ _)).trans (withTest_runFrame _ _ (by exact rfl))).trans
      (drainIfEmpty_runFrame x _)
  · exact .refl s

theorem closeStep_runFrame (w : Working) (v : Verdict) (r : EndReason) (s : State) : RunFrame s (closeStep w v r s) := by
  unfold closeStep
  refine RunFrame.trans ?_ (raiseTest_onlyNotices _ _).runFrame
  refine RunFrame.trans ?_ (withTest_runFrame _ _ (by exact rfl))
  refine RunFrame.trans ?_ (removeStepEntries_runFrame _ _)
  split
  · exact removeForce_runFrame s
  · exact .refl s

theorem skipSteps_runTables (r : EndReason) (n : Nat) : ∀ i t, RunTables t (skipSteps r n i t) := by
  induction n with
  | zero => exact fun _ t => .refl t
  | succ n ih =>
    intro i t
    unfold skipSteps
    split
    · exact ih _ _
    · exact RunTables.trans (b := t.log _ _ _) rfl (ih _ _)

theorem skipRest_runFrame (i : Nat) (r : EndReason) (s : State) : RunFrame s (skipRest i r s) :=
  withTest_runFrame s _ (skipSteps_runTables _ _ _ _)

theorem finishRun_runFrame (a : Bool) (s : State) : RunFrame s (finishRun a s) :=
  (withTest_runFrame s _ (by exact rfl)).trans (raiseTest_onlyNotices _ _).runFrame

theorem beginStep_runFrame (w : Working) (s : State) : RunFrame s (beginStep w s).1 := by
  unfold beginStep
  repeat' split
  all_goals first
    | exact withWork_runFrame s _
    | exact (setForce_runFrame _ s).trans (withWork_runFrame _ _)
    | exact (withWork_runFrame s _).trans (inject_runFrame _ _)

theorem startStep_runFrame (i : Nat) (s : State) : RunFrame s (startStep i s).1 := by
  unfold startStep
  split
  · exact .refl s
  · exact beginStep_runFrame _ s

theorem endStepFor_runFrame (n : Nat) : ∀ v r s, RunFrame s (endStepFor n v r s) := by
  induction n with
  | zero => exact fun _ _ s => .refl s
  | succ n ih =>
    intro v r s
    unfold endStepFor
    split
    · exact .refl s
    · next w _ =>
      have hc := closeStep_runFrame w v r s
      dsimp only
      split
      · exact (hc.trans (skipRest_runFrame _ _ _)).trans (finishRun_runFrame _ _)
      · split
        · exact hc.trans (finishRun_runFrame _ _)
        · have hs := startStep_runFrame (w.index + 1) (closeStep w v r s)
          split
          · next h => rw [h] at hs; exact hc.trans hs
          · next h => rw [h] at hs; exact (hc.trans hs).trans (ih _ _ _)

theorem endStep_runFrame (v : Verdict) (r : EndReason) (s : State) : RunFrame s (endStep v r s) := by
  unfold endStep
  split
  · exact endStepFor_runFrame _ _ _ _
  · exact .refl s

theorem abortRun_runFrame (r : EndReason) (s : State) : RunFrame s (abortRun r s) := by
  unfold abortRun
  split
  · exact finishRun_runFrame _ _
  · exact ((closeStep_runFrame _ _ _ _).trans (skipRest_runFrame _ _ _)).trans (finishRun_runFrame _ _)

theorem stepLinkLost_runFrame (s : State) : RunFrame s (stepLinkLost s) := by
  unfold stepLinkLost
  repeat' split
  all_goals first | exact .refl s | exact endStep_runFrame _ _ _

theorem stepTenantLeft_runFrame (x : Tenant) (s : State) : RunFrame s (stepTenantLeft x s) := by
  unfold stepTenantLeft
  repeat' split
  all_goals first | exact .refl s | exact endStep_runFrame _ _ _

theorem stepWatch_runFrame (s : State) : RunFrame s (stepWatch s) := by
  unfold stepWatch
  repeat' split
  all_goals first | exact .refl s | exact endStep_runFrame _ _ _

theorem crossSample_runFrame (m : Int) (s : State) : RunFrame s (crossSample m s) := by
  unfold crossSample
  dsimp only
  repeat' split
  all_goals first
    | exact .refl s
    | exact withWork_runFrame s _
    | exact (withWork_runFrame s _).trans (endStep_runFrame _ _ _)

theorem leadOver_runFrame (s : State) : RunFrame s (leadOver s) := by
  unfold leadOver
  repeat' split
  all_goals first | exact .refl s | exact withWork_runFrame s _

theorem activeOver_runFrame (s : State) : RunFrame s (activeOver s) := by
  unfold activeOver
  repeat' split
  all_goals first | exact .refl s | exact withWork_runFrame s _

theorem tailOver_runFrame (s : State) : RunFrame s (tailOver s) := by
  unfold tailOver
  repeat' split
  all_goals first | exact .refl s | exact withWork_runFrame s _ | exact endStep_runFrame _ _ _

theorem reportWaitOver_runFrame (s : State) : RunFrame s (reportWaitOver s) := by
  unfold reportWaitOver
  split
  · exact endStep_runFrame _ _ _
  · exact .refl s

theorem waitOver_runFrame (s : State) : RunFrame s (waitOver s) := by
  unfold waitOver
  split
  · exact endStep_runFrame _ _ _
  · exact .refl s

theorem crossOver_runFrame (s : State) : RunFrame s (crossOver s) := by
  unfold crossOver
  split
  · exact endStep_runFrame _ _ _
  · exact .refl s

theorem runFirstStep_runFrame (s : State) : RunFrame s (runFirstStep s) := by
  unfold runFirstStep
  have hs := startStep_runFrame 0 s
  split
  · next h => rw [h] at hs; exact hs
  · next h => rw [h] at hs; exact hs.trans (endStep_runFrame _ _ _)

theorem timingEvent_runFrame (t : Timing) (s : State) : RunFrame s (timingEvent t s) :=
  ((withTiming_runFrame s t).trans (raiseTiming_onlyNotices _ _ _).runFrame).trans
    (stepWatch_runFrame _)

end Sys2Proof.Machine
end

section
/-! SUPPORT. What a step can do to the link state, to R_p and to the records in force and in the store. `Standing` is the
part of the state that these make up; `Move` is one change of it, one constructor for each kind of change the part makes;
`exec_moves` says that every command is a chain of such changes. -/

namespace Sys2Proof.Machine

/-! ## The part of the state -/

/-- The link state with the header fields stored, R_p with its counts, the settings in force, and the store. -/
structure Standing where
  state : LinkState
  good : Nat
  lost : Nat
  rxXoff : Quad Bool
  farReq : Nat
  farForce : Bool
  farEnd : Option (BitVec 16)
  rp : Nat
  dwell : Nat
  confirm : Option Nat
  settings : Settings
  store : Store

def State.standing (s : State) : Standing :=
  { state := s.link.state, good := s.link.good, lost := s.link.lost, rxXoff := s.link.rxXoff, farReq := s.link.farReq,
    farForce := s.link.farForce, farEnd := s.link.farEnd, rp := s.ladder.rp, dwell := s.ladder.dwell,
    confirm := s.ladder.confirm, settings := s.settings, store := s.store }

/-- The four tenant records in force. -/
theorem records_eq {s t : State} (h : ∀ x, (t.tenant x).record = (s.tenant x).record) :
    t.tenants.map TenantUnit.record = s.tenants.map TenantUnit.record :=
  Quad.ext_get fun x => by simpa [State.tenant] using h x

/-- A unit replaced by one with the same record leaves every record as it is. -/
theorem withTenant_records (s : State) (x : Tenant) (u : TenantUnit) (h : u.record = (s.tenant x).record) :
    (s.withTenant x u).tenants.map TenantUnit.record = s.tenants.map TenantUnit.record :=
  records_eq fun y => by
    by_cases e : y = x
    · subst e; simpa using h
    · rw [State.withTenant_other _ _ _ _ e]

theorem withTenant_standing (s : State) (x : Tenant) (u : TenantUnit) (h : u.record = (s.tenant x).record) :
    (s.withTenant x u).standing = s.standing := by
  have k := withTenant_records s x u h
  simp only [State.withTenant_tenants] at k
  simp [State.standing, State.settings, k]

theorem withTiming_standing (s : State) (t : Timing) (h : t.base.record = s.timing.base.record) :
    (s.withTiming t).standing = s.standing := by
  simp [State.standing, State.settings, h]

theorem withTest_standing (s : State) (t : TestUnit) (h : t.patterns = s.test.patterns) :
    (s.withTest t).standing = s.standing := by
  simp [State.standing, State.settings, h]

theorem StepFrame.standing {s t : State} (h : StepFrame s t) (k : RunFrame s t) : t.standing = s.standing := by
  have e : t.tenants.map TenantUnit.record = s.tenants.map TenantUnit.record := records_eq fun x => (k.units x).record
  have l : t.ladder.rp = s.ladder.rp ∧ t.ladder.dwell = s.ladder.dwell ∧ t.ladder.confirm = s.ladder.confirm ∧
      t.ladder.record = s.ladder.record := by rw [h.ladder]; exact ⟨rfl, rfl, rfl, rfl⟩
  obtain ⟨h1, h2, h3, h4⟩ := l
  simp only [State.standing, State.settings, h.role, h.link, h.planner, h.timing, h.store, h1, h2, h3, h4,
    k.tables.patterns, e]

theorem OnlyNotices.standing {s t : State} (h : OnlyNotices s t) : t.standing = s.standing := by
  rw [h.eq]
  rfl

/-! ## The link state at a good header and at a lost frame (R15 to R17) -/

/-- The Link Receiver's values after a good header, before its fields are stored. -/
def LinkUnit.goodHeader (l : LinkUnit) : LinkUnit :=
  match l.state with
  | .down => { l with state := .acquire, good := 1 }
  | .acquire =>
    if 16 ≤ l.good + 1 then { l with state := .up, good := l.good + 1, lost := 0 } else { l with good := l.good + 1 }
  | .up => { l with lost := 0 }

/-- The Link Receiver's values at an entry to DOWN, counted as a loss. -/
def LinkUnit.losing (l : LinkUnit) : LinkUnit :=
  { l.down with counters := { l.counters with losses := bump l.counters.losses } }

/-- The Link Receiver's values after a lost or absent frame. -/
def LinkUnit.lostFrame (l : LinkUnit) : LinkUnit :=
  match l.state with
  | .down => l
  | .acquire => l.losing
  | .up => if 64 ≤ l.lost + 1 then l.losing else { l with lost := l.lost + 1 }

section
variable {l : LinkUnit}

theorem goodHeader_down (h : l.state = .down) : l.goodHeader = { l with state := .acquire, good := 1 } := by
  simp only [LinkUnit.goodHeader, h]

theorem goodHeader_acquired (h : l.state = .acquire) (n : 16 ≤ l.good + 1) :
    l.goodHeader = { l with state := .up, good := l.good + 1, lost := 0 } := by
  simp only [LinkUnit.goodHeader, h, if_pos n]

theorem goodHeader_acquire (h : l.state = .acquire) (n : ¬ 16 ≤ l.good + 1) :
    l.goodHeader = { l with good := l.good + 1 } := by
  simp only [LinkUnit.goodHeader, h, if_neg n]

theorem goodHeader_up (h : l.state = .up) : l.goodHeader = { l with lost := 0 } := by
  simp only [LinkUnit.goodHeader, h]

theorem lostFrame_down (h : l.state = .down) : l.lostFrame = l := by
  simp only [LinkUnit.lostFrame, h]

theorem lostFrame_acquire (h : l.state = .acquire) : l.lostFrame = l.losing := by
  simp only [LinkUnit.lostFrame, h]

theorem lostFrame_last (h : l.state = .up) (n : 64 ≤ l.lost + 1) : l.lostFrame = l.losing := by
  simp only [LinkUnit.lostFrame, h, if_pos n]

theorem lostFrame_up (h : l.state = .up) (n : ¬ 64 ≤ l.lost + 1) : l.lostFrame = { l with lost := l.lost + 1 } := by
  simp only [LinkUnit.lostFrame, h, if_neg n]

/-- After a good header the link is not DOWN (R15). -/
theorem goodHeader_state (l : LinkUnit) : l.goodHeader.state ≠ .down := by
  unfold LinkUnit.goodHeader
  repeat' split
  all_goals simp_all

end

@[simp] theorem raiseLink_link (s : State) (p : LinkState) (c : LinkCause) : (s.raiseLink p c).link = s.link :=
  (raiseLink_onlyNotices s p c).link

@[simp] theorem enterUpTiming_link (s : State) : (enterUpTiming s).link = s.link := by
  unfold enterUpTiming
  split
  · exact timingEvent_link _ s
  · exact (stepWatch_stepFrame s).link

theorem goodEffect_link (s : State) : (goodEffect s).link = s.link.goodHeader := by
  unfold goodEffect
  split
  · next e => rw [goodHeader_down e]; simp
  · next e =>
    split
    · next n => rw [goodHeader_acquired e n]; simp
    · next n => rw [goodHeader_acquire e n]; simp
  · next e => rw [goodHeader_up e]; simp

theorem ladderEntersDown_link (s : State) : (ladderEntersDown s).link = s.link := by
  unfold ladderEntersDown
  dsimp only
  split
  · exact (raiseProfile_onlyNotices _ _).link
  · rfl

theorem enterDown_link (c : LinkCause) (s : State) : (enterDown c s).link = s.link.losing := by
  unfold enterDown
  dsimp only
  rw [(stepWatch_stepFrame _).link, (stepLinkLost_stepFrame _).link, raiseTiming_link, State.withTiming_link,
    ladderEntersDown_link, raiseLink_link]
  rfl

theorem lostEffect_link (s : State) : (lostEffect s).link = s.link.lostFrame := by
  unfold lostEffect
  split
  · next e => rw [lostFrame_down e]
  · next e => rw [lostFrame_acquire e]; exact enterDown_link _ s
  · next e =>
    split
    · next n => rw [lostFrame_last e n]; exact enterDown_link _ s
    · next n => rw [lostFrame_up e n]; rfl

/-! ## One change -/

/-- The settings of a plan slot put in force but for the role, with the effects of R26 on R_p's counts (R181). -/
def Standing.loaded (c : Standing) (v : Settings) : Standing :=
  { c with settings := { v with role := c.settings.role }, dwell := 0, confirm := none }

/-- One change of the standing part of the state. -/
inductive Move (s t : State) : Prop
  | stays (h : t.standing = s.standing)
  | lostFrame (h : t.standing = (s.withLink s.link.lostFrame).standing)
  | linkDown (h : t.standing = (s.withLink s.link.down).standing)
  | goodHeader (role : s.role ≠ none) (h : t.standing = (s.withLink s.link.goodHeader).standing)
  | stored (header : Header) (state : s.link.state ≠ .down) (h : t.standing = (s.withLink (s.link.store header)).standing)
  | sampled (requested x : Nat) (h : t.standing = (s.withLadder (s.ladder.sample requested x).1).standing)
  | ladderDown (h : t.standing = (s.withLadder s.ladder.linkDown).standing)
  | role (none : s.role = none) (r : Role) (h : t.standing = (s.withRole (some r)).standing)
  | linkRecord (r : LinkRecord) (ok : r.ok = true) (h : t.standing = (s.withLadder (s.ladder.takeRecord r)).standing)
  | tenantRecord (x : Tenant) (r : TenantRecord) (ok : r.inRange = true)
      (h : t.standing = (s.withTenant x { s.tenant x with record := r }).standing)
  | shares (table : ShareTable) (ok : ShareTable.ok table = true)
      (h : t.standing = (s.withPlanner { s.planner with shares := table }).standing)
  | timing (r : TimingRecord) (ok : r.ok = true) (h : t.standing = (s.withBase { s.timing.base with record := r }).standing)
  | pattern (i : Nat) (p : Pattern) (ok : p.inRange = true)
      (h : t.standing = (s.withTest { s.test with patterns := s.test.patterns.put i p }).standing)
  | loaded (i : Nat) (h : t.standing = s.standing.loaded (s.store.plan.at i).settings)
  | opTaken (k : StoreOpKind) (reading : Nat) (saved : ∀ i v, k = .save i v → v = s.settings)
      (h : t.standing = (s.withStore (s.store.take k reading)).standing)
  | opErased (h : t.standing = (s.withStore s.store.erased).standing)
  | opEnds (o : StoreOp) (op : s.store.op = some o)
      (h : t.standing = (s.withStore { s.store.finished o.kind with op := none }).standing)
  | fullReset (cause : ResetCause) (h : t.standing = (fullReset cause s).standing)

/-- A chain of changes. -/
def Moves : State → State → Prop := Relation.ReflTransGen Move

theorem Moves.refl (s : State) : Moves s s := Relation.ReflTransGen.refl

theorem Moves.trans {s t u : State} (h : Moves s t) (k : Moves t u) : Moves s u := Relation.ReflTransGen.trans h k

theorem Move.moves {s t : State} (h : Move s t) : Moves s t := .single h

theorem moves_of_eq {s t : State} (h : t.standing = s.standing) : Moves s t := (Move.stays h).moves

theorem OnlyNotices.moves {s t : State} (h : OnlyNotices s t) : Moves s t := moves_of_eq h.standing

theorem withTiming_moves (s : State) (t : Timing) (h : t.base.record = s.timing.base.record) : Moves s (s.withTiming t) :=
  moves_of_eq (withTiming_standing s t h)

theorem foldl_moves {α : Type} (f : State → α → State) (h : ∀ s a, Moves s (f s a)) (l : List α) :
    ∀ s, Moves s (l.foldl f s) := by
  induction l with
  | nil => exact Moves.refl
  | cons a l ih => exact fun s => (h s a).trans (ih (f s a))

/-- What keeps a property through every change keeps it through a chain. -/
theorem Moves.keeps {P : State → Prop} (step : ∀ s t, Move s t → P s → P t) {s t : State} (h : Moves s t) (p : P s) :
    P t := by
  induction h with
  | refl => exact p
  | tail _ k ih => exact step _ _ k ih

/-! ## The timing record through the events of the timing blocks -/

theorem takeSelection_record (t : Timing) (x : Option Source) : (t.takeSelection x).base.record = t.base.record := by
  unfold Timing.takeSelection Timing.enterHoldover
  repeat' split
  all_goals rfl

@[simp] theorem reselect_record (t : Timing) : t.reselect.base.record = t.base.record := takeSelection_record t _

theorem withQualifier_record (b : TimeBase) (i : PulseInput) (q : Qualifier) : (b.withQualifier i q).record = b.record := by
  cases i <;> rfl

theorem makeStep_record (t : Timing) (x : Source) (m w : Int) : (t.makeStep x m w).base.record = t.base.record := by
  unfold Timing.makeStep
  dsimp only
  split <;> rfl

theorem averageStage_record (t : Timing) : t.averageStage.base.record = t.base.record := by
  unfold Timing.averageStage
  split <;> rfl

theorem countStage_record (t : Timing) (e : Int) : (t.countStage e).base.record = t.base.record := by
  unfold Timing.countStage
  dsimp only
  repeat' split
  all_goals rfl

theorem measure_record (t : Timing) (x : Source) (m w : Int) : (t.measure x m w).1.base.record = t.base.record := by
  unfold Timing.measure
  dsimp only
  repeat' split
  · exact makeStep_record _ x m w
  · exact (countStage_record _ _).trans (averageStage_record _)
  · rfl

theorem advanceBy_record (dt : Nat) (b : TimeBase) : (b.advanceBy dt).record = b.record := by
  unfold TimeBase.advanceBy
  split <;> rfl

theorem reachSecond_record (b : TimeBase) : b.reachSecond.record = b.record := by
  unfold TimeBase.reachSecond
  exact advanceBy_record _ b

/-! ## Events that change nothing of it, or one thing -/

theorem timingEvent_standing (t : Timing) (s : State) (h : t.base.record = s.timing.base.record) :
    (timingEvent t s).standing = s.standing :=
  ((stepWatch_stepFrame _).standing (stepWatch_runFrame _)).trans
    ((raiseTiming_onlyNotices _ _ _).standing.trans (withTiming_standing s t h))

theorem timingEvent_moves (t : Timing) (s : State) (h : t.base.record = s.timing.base.record) :
    Moves s (timingEvent t s) := moves_of_eq (timingEvent_standing t s h)

theorem giveSample_moves (x : Nat) (s : State) : Moves s (giveSample x s) :=
  (Move.sampled s.link.reqSent x
    (foldl_onlyNotices _ (fun s _ => raiseProfile_onlyNotices s _) _ _).standing).moves

theorem ladderEntersDown_moves (s : State) : Moves s (ladderEntersDown s) := by
  refine (Move.ladderDown ?_).moves
  unfold ladderEntersDown
  dsimp only
  split
  · exact (raiseProfile_onlyNotices _ _).standing
  · rfl

/-- The entry to DOWN after the Link Receiver's own values (R17, R30). -/
theorem enterDown_moves (c : LinkCause) (s : State) : Moves (s.withLink s.link.losing) (enterDown c s) := by
  unfold enterDown
  dsimp only
  have watch (u : State) : Moves u (stepWatch (stepLinkLost u)) :=
    moves_of_eq (((stepWatch_stepFrame _).standing (stepWatch_runFrame _)).trans
      ((stepLinkLost_stepFrame _).standing (stepLinkLost_runFrame _)))
  refine Moves.trans ?_ (watch _)
  refine Moves.trans ?_ (raiseTiming_onlyNotices _ _ _).moves
  refine Moves.trans ?_ (withTiming_moves _ _ (reselect_record _))
  refine Moves.trans ?_ (ladderEntersDown_moves _)
  exact (raiseLink_onlyNotices _ _ _).moves

theorem lostEffect_moves (s : State) : Moves s (lostEffect s) := by
  have h : Moves s (s.withLink s.link.lostFrame) := (Move.lostFrame rfl).moves
  unfold lostEffect
  split
  · exact .refl s
  · next e => rw [lostFrame_acquire e] at h; exact h.trans (enterDown_moves _ s)
  · next e =>
    split
    · next n => rw [lostFrame_last e n] at h; exact h.trans (enterDown_moves _ s)
    · next n => rw [lostFrame_up e n] at h; exact h

theorem absentDue_moves (s : State) : Moves s (absentDue s) := by
  unfold absentDue
  split
  · exact Moves.trans (moves_of_eq (by exact rfl)) (lostEffect_moves _)
  · exact .refl s

theorem supervisionDue_moves (s : State) : Moves s (supervisionDue s) := by
  unfold supervisionDue
  split
  · exact timingEvent_moves _ s (reselect_record _)
  · exact .refl s

theorem agingDue_moves (s : State) : Moves s (agingDue s) := by
  unfold agingDue
  split
  · exact withTiming_moves s _ rfl
  · exact .refl s

theorem limitDue_moves (s : State) : Moves s (limitDue s) := by
  unfold limitDue
  split
  · exact timingEvent_moves _ s rfl
  · exact .refl s

theorem inputExpired_record (t : Timing) (i : PulseInput) : (t.inputExpired i).base.record = t.base.record :=
  (reselect_record _).trans (withQualifier_record _ _ _)

theorem overdueAbsence_moves (i : PulseInput) (s : State) : Moves s (overdueAbsence i s) := by
  unfold overdueAbsence
  split
  · exact timingEvent_moves _ s (inputExpired_record _ i)
  · exact .refl s

/-- The ends of a step's phases and deadlines change nothing of it. -/
theorem phasesOver_standing (s : State) :
    (crossOver (waitOver (reportWaitOver (tailOver (activeOver (leadOver s)))))).standing = s.standing :=
  (((((((leadOver_stepFrame s).trans (activeOver_stepFrame _)).trans (tailOver_stepFrame _)).trans
    (reportWaitOver_stepFrame _)).trans (waitOver_stepFrame _)).trans (crossOver_stepFrame _)).standing
    ((((((leadOver_runFrame s).trans (activeOver_runFrame _)).trans (tailOver_runFrame _)).trans
    (reportWaitOver_runFrame _)).trans (waitOver_runFrame _)).trans (crossOver_runFrame _)))

theorem settle_moves (s : State) : Moves s (settle s) := by
  unfold settle
  refine Moves.trans ?_ (moves_of_eq (phasesOver_standing _))
  exact (((((overdueAbsence_moves _ s).trans (overdueAbsence_moves _ _)).trans (absentDue_moves _)).trans
    (supervisionDue_moves _)).trans (agingDue_moves _)).trans (limitDue_moves _)

/-! ## A received frame -/

theorem goodEffect_moves (s : State) (h : s.role ≠ none) : Moves s (goodEffect s) := by
  have k : Moves s (s.withLink s.link.goodHeader) := (Move.goodHeader h rfl).moves
  have enter (u : State) : Moves u (enterUpTiming u) := by
    unfold enterUpTiming
    split
    · exact timingEvent_moves _ u (reselect_record _)
    · exact moves_of_eq ((stepWatch_stepFrame u).standing (stepWatch_runFrame u))
  unfold goodEffect
  split
  · next e => rw [goodHeader_down e] at k; exact k.trans (raiseLink_onlyNotices _ _ _).moves
  · next e =>
    split
    · next n =>
      rw [goodHeader_acquired e n] at k
      exact (k.trans (raiseLink_onlyNotices _ _ _).moves).trans (enter _)
    · next n => rw [goodHeader_acquire e n] at k; exact k
  · next e => rw [goodHeader_up e] at k; exact k

theorem syncJudged_record (t : Timing) (c : QClass) (up : Bool) : (t.syncJudged c up).base.record = t.base.record :=
  reselect_record _

theorem handOn_standing (x : Source) (m w : Int) (s : State) : (handOn x m w s).standing = s.standing :=
  ((stepWatch_stepFrame _).standing (stepWatch_runFrame _)).trans
    ((raiseTiming_onlyNotices _ _ _).standing.trans (withTiming_standing s _ (measure_record _ _ _ _)))

theorem takeReport_standing (r : Report) (s : State) : (takeReport r s).standing = s.standing := by
  unfold takeReport
  dsimp only
  repeat' split
  · exact withTest_standing _ _ rfl
  · exact ((endStep_stepFrame _ _ _).standing (endStep_runFrame _ _ _)).trans (withTest_standing _ _ rfl)
  · exact withTest_standing _ _ rfl

theorem takeSync_standing (b : List Byte) (m : Stamp) (s : State) : (takeSync b m s).standing = s.standing := by
  have judged := timingEvent_standing (s.timing.syncJudged (hubClassAt b) (s.link.state == .up)) s (syncJudged_record _ _ _)
  unfold takeSync
  dsimp only
  exact (withTiming_standing _ _ (by exact rfl)).trans judged

theorem takeDelayResp_standing (b : List Byte) (s : State) : (takeDelayResp b s).standing = s.standing := by
  have h := timingEvent_standing ({ s.timing with
    xfer := (s.timing.xfer.takeResp (timingSeqAt b) (stampAt b 2) s.timing.base.record.asymmetry).1 } : Timing).reselect s
    (reselect_record _)
  unfold takeDelayResp
  dsimp only
  split
  · exact h
  · exact (handOn_standing _ _ _ _).trans h

theorem routeControl_standing (m : Stamp) (s : State) (kp : ControlKind × Position) :
    (routeControl m s kp).standing = s.standing := by
  unfold routeControl
  repeat' split
  · rfl
  · exact takeSync_standing _ _ s
  · exact withTiming_standing s _ rfl
  · exact takeDelayResp_standing _ s
  · exact takeReport_standing _ s

theorem checkBlock_patterns (t : TestUnit) (b : List Byte) (bad : Bool) : (t.checkBlock b bad).patterns = t.patterns := by
  unfold TestUnit.checkBlock
  dsimp only
  split <;> rfl

theorem packetDone_standing (x : Tenant) (p : Packet) (s : State) : (packetDone x p s).standing = s.standing := by
  unfold packetDone
  split
  · exact (withTest_standing _ _ rfl).trans (withTenant_standing s x _ rfl)
  · dsimp only
    have h := withTenant_standing s x _ (completeTenant_egressOnly (s.tenant x) p).record
    split
    · exact (raiseTenant_onlyNotices _ _ _ _ _).standing.trans h
    · exact h

theorem routeTenant_standing (x : Tenant) (s : State) (p : Position) : (routeTenant x s p).standing = s.standing := by
  unfold routeTenant
  dsimp only
  have h := withTenant_standing s x _ (takeBlock_egressOnly (s.tenant x) (segmentAt p.bytes) p.bad).record
  split
  · exact h
  · exact (packetDone_standing _ _ _).trans h

theorem foldl_standing {α : Type} (f : State → α → State) (h : ∀ s a, (f s a).standing = s.standing) (l : List α) :
    ∀ s, (l.foldl f s).standing = s.standing := by
  induction l with
  | nil => exact fun _ => rfl
  | cons a l ih => exact fun s => (ih (f s a)).trans (h s a)

theorem routeTenants_standing (c : Quad Nat) (ps : List Position) (s : State) :
    (routeTenants c ps s).standing = s.standing := by
  have h (x : Tenant) (l : List Position) (u : State) : (l.foldl (routeTenant x) u).standing = u.standing :=
    foldl_standing _ (routeTenant_standing x) l u
  exact (h .t3 _ _).trans ((h .t2 _ _).trans ((h .t1 _ _).trans (h .t0 _ s)))

theorem routeFrame_standing (h : Header) (m : Stamp) (ps : List Position) (s : State) :
    (routeFrame h m ps s).standing = s.standing := by
  unfold routeFrame
  dsimp only
  have k := foldl_standing _ (routeControl_standing m) (h.controls.zip (ps.drop 1)) s
  have test (u : State) (p : Position) : (routeTest u p).standing = u.standing :=
    withTest_standing _ _ (checkBlock_patterns _ _ _)
  split
  · exact (routeTenants_standing _ _ _).trans ((foldl_standing _ test _ _).trans k)
  · exact k

theorem endMarkTaken_patterns (t : TestUnit) (r : BitVec 16) : (t.endMarkTaken r).patterns = t.patterns := by
  unfold TestUnit.endMarkTaken
  repeat' split
  all_goals rfl

theorem passEndMark_standing (h : Header) (s : State) : (passEndMark h s).standing = s.standing := by
  unfold passEndMark
  repeat' split
  · exact withTest_standing s _ (endMarkTaken_patterns _ _)
  · rfl
  · rfl

@[simp] theorem giveSample_link (x : Nat) (s : State) : (giveSample x s).link = s.link :=
  (foldl_onlyNotices _ (fun s _ => raiseProfile_onlyNotices s _) _ (s.withLadder _)).link

theorem takeGood_moves (h : Header) (r : FrameRecord) (m : Stamp) (s : State) (role : s.role ≠ none) :
    Moves s (takeGood h r m s) := by
  unfold takeGood
  dsimp only
  refine Moves.trans ?_ (moves_of_eq (routeFrame_standing _ _ _ _))
  refine Moves.trans ?_ (moves_of_eq (show (State.withFreeIndex _ _).standing = _ from rfl))
  refine Moves.trans ?_ (moves_of_eq (passEndMark_standing _ _))
  refine Moves.trans ?_ (Move.stored h ?_ rfl).moves
  · exact (goodEffect_moves s role).trans (giveSample_moves _ _)
  · rw [giveSample_link, goodEffect_link]
    exact goodHeader_state _

/-- The state in which a record is judged: its capture delivered, the record counted (R2, R12, R13). -/
def State.recordTaken (s : State) (r : FrameRecord) : State :=
  deliverMarker (s.withLink { s.link with startsSince := 0, counters := s.link.counters.taken (judgeHeader r) })

theorem recordTaken_standing (s : State) (r : FrameRecord) : (s.recordTaken r).standing = s.standing := rfl

@[simp] theorem recordTaken_role (s : State) (r : FrameRecord) : (s.recordTaken r).role = s.role := rfl

theorem takeFrame_good (r : FrameRecord) (s : State) (h : Header) (e : judgeHeader r = .good h) :
    takeFrame r s = takeGood h r s.recordMarker (s.recordTaken r) := by
  unfold takeFrame
  rw [State.recordTaken, e]

theorem takeFrame_lost (r : FrameRecord) (s : State) (e : ∀ h, judgeHeader r ≠ .good h) :
    takeFrame r s = lostEffect (giveSample 0 (s.recordTaken r)) := by
  unfold takeFrame
  dsimp only
  split
  · next h k => exact absurd k (e h)
  · rfl

theorem takeFrame_moves (r : FrameRecord) (s : State) (role : s.role ≠ none) : Moves s (takeFrame r s) := by
  have taken : Moves s (s.recordTaken r) := moves_of_eq (recordTaken_standing s r)
  by_cases e : ∃ h, judgeHeader r = .good h
  · obtain ⟨h, e⟩ := e
    rw [takeFrame_good r s h e]
    exact taken.trans (takeGood_moves h r _ _ role)
  · rw [takeFrame_lost r s (not_exists.mp e)]
    exact (taken.trans (giveSample_moves _ _)).trans (lostEffect_moves _)

/-! ## The passing of local time -/

theorem TenantUnit.second_record (u : TenantUnit) (c : QClass) (x : BitVec 48) : (u.second c x).record = u.record := by
  unfold TenantUnit.second
  repeat' split
  all_goals rfl

theorem tenantSecond_standing (s : State) (x : Tenant) : (tenantSecond s x).standing = s.standing := by
  have h := withTenant_standing s x _ (TenantUnit.second_record (s.tenant x) s.timing.servo.cls s.timing.base.now.sec)
  unfold tenantSecond
  dsimp only
  split
  · exact h
  · exact (raiseTenant_onlyNotices _ _ _ _ _).standing.trans h

theorem TestUnit.countSecond_patterns (t : TestUnit) : t.countSecond.patterns = t.patterns := by
  unfold TestUnit.countSecond
  repeat' split
  all_goals rfl

theorem countSecond_standing (s : State) : (countSecond s).standing = s.standing := by
  unfold countSecond
  exact (withTest_standing _ _ (TestUnit.countSecond_patterns _)).trans (withTiming_standing s _ rfl)

theorem timeSetTaken_moves (s : State) (b : Bool) : Moves s (s.timeSetTaken b) := by
  unfold State.timeSetTaken
  split
  · exact withTiming_moves s _ rfl
  · exact .refl s

theorem secondEvent_moves (s : State) : Moves s (secondEvent s) := by
  unfold secondEvent
  have reach : Moves s (s.withBase s.timing.base.reachSecond) := withTiming_moves s _ (reachSecond_record _)
  refine Moves.trans ?_ (moves_of_eq (countSecond_standing _))
  refine Moves.trans ?_ (moves_of_eq (foldl_standing _ tenantSecond_standing _ _))
  exact (reach.trans (settle_moves _)).trans (timeSetTaken_moves _ _)

theorem placeControl_standing (s : State) (k : ControlKind) : (placeControl s k).standing = s.standing := by
  cases k <;> rfl

theorem raiseTxChange_onlyNotices (n : Nat) (s : State) : OnlyNotices s (raiseTxChange n s) := by
  unfold raiseTxChange
  split
  · exact .refl s
  · exact raiseProfile_onlyNotices _ _

/-- A property of states that `f` keeps at each element is kept by the fold. -/
theorem foldl_keeps {α : Type} {P : State → Prop} (f : State → α → State) (h : ∀ s a, P s → P (f s a)) (l : List α) :
    ∀ s, P s → P (l.foldl f s) := by
  induction l with
  | nil => exact fun _ p => p
  | cons a l ih => exact fun s p => ih (f s a) (h s a p)

/-- A control block placed touches the timing blocks and the pending report and nothing else. -/
theorem placeControl_planner (s : State) (k : ControlKind) : (placeControl s k).planner = s.planner := by cases k <;> rfl

theorem foldl_placeControl_planner (l : List ControlKind) (s : State) : (l.foldl placeControl s).planner = s.planner :=
  foldl_keeps (P := fun u => u.planner = s.planner) _ (fun u k h => (placeControl_planner u k).trans h) l s rfl

theorem handOver_standing (p : Plan × Vector Tenant 8) (g : Quad TenantGiven) (s : State) :
    (handOver p g s).standing = s.standing := by
  have h1 := foldl_standing _ placeControl_standing p.1.controls s
  have hp := foldl_placeControl_planner p.1.controls s
  unfold handOver
  dsimp only
  generalize p.1.controls.foldl placeControl s = u at h1 hp ⊢
  have h2 := (raiseTxChange_onlyNotices s.link.txProfile (u.withLink (u.link.sent (s.frameHeader p.1) (s.txFrame p.1 g)))).standing
  have h3 : (u.withLink (u.link.sent (s.frameHeader p.1) (s.txFrame p.1 g))).standing = s.standing := h1
  have hq := (raiseTxChange_onlyNotices s.link.txProfile (u.withLink (u.link.sent (s.frameHeader p.1) (s.txFrame p.1 g)))).planner
  generalize raiseTxChange s.link.txProfile (u.withLink (u.link.sent (s.frameHeader p.1) (s.txFrame p.1 g))) = v at h2 hq ⊢
  rw [← h3, ← h2]
  simp only [State.withLink_planner] at hq
  simp [State.standing, State.settings, Planner.ran, hq, hp]

theorem TenantUnit.age_record (u : TenantUnit) (n : BitVec 32) : (u.age n).1.record = u.record := rfl

theorem gave_record (u : TenantUnit) (g : Given) : (u.gave g).record = u.record :=
  (judgePause_runUnit _).record

/-- What the tenants give at a frame start carries their own records. -/
theorem given_record (s : State) (p : Plan) (x : Tenant) : ((s.given p).get x).aged.record = (s.tenant x).record := by
  simp [State.given, State.agedUnits, State.tenant, TenantUnit.age_record]

theorem tenantGives_record (s u : State) (p : Plan) (y : Tenant)
    (h : ∀ x, (u.tenant x).record = (s.tenant x).record) : (tenantGives (s.given p) u y).standing = u.standing :=
  ((drainIfEmpty_stepFrame y _).standing (drainIfEmpty_runFrame y _)).trans
    (withTenant_standing u y _ ((gave_record _ _).trans ((given_record s p y).trans (h y).symm)))

/-- The tenant records, read off the standing part. -/
theorem record_of_standing {s t : State} (h : t.standing = s.standing) (x : Tenant) :
    (t.tenant x).record = (s.tenant x).record := by
  have e := congrArg (fun c => c.settings.tenants.get x) h
  simpa [State.standing, State.settings, State.tenant] using e

theorem giveUp_standing (s u : State) (p : Plan) (n : Nat) (h : u.standing = s.standing) :
    (giveUp p (s.given p) n u).standing = s.standing := by
  have fold : (Tenant.all.foldl (tenantGives (s.given p)) u).standing = s.standing :=
    foldl_keeps (P := fun v => v.standing = s.standing) _
      (fun v x k => (tenantGives_record s v p x (record_of_standing k)).trans k) _ u h
  have count (t : TestUnit) (a b : Nat) : (t.countFrame a b).patterns = t.patterns := by
    unfold TestUnit.countFrame
    dsimp only
    split <;> rfl
  exact (withTest_standing _ _ (count _ _ _)).trans fold

theorem tenantTests_stepFrame (q : Quad TenantUnit) (g : Quad TenantGiven) (s : State) (x : Tenant) :
    StepFrame s (tenantTests q g s x) := by
  unfold tenantTests
  dsimp only
  split
  · exact (countPathEntries_stepFrame _ _ s).trans (inject_stepFrame _ _)
  · exact countPathEntries_stepFrame _ _ s

theorem tenantTests_runFrame (q : Quad TenantUnit) (g : Quad TenantGiven) (s : State) (x : Tenant) :
    RunFrame s (tenantTests q g s x) := by
  unfold tenantTests
  dsimp only
  split
  · exact (countPathEntries_runFrame _ _ s).trans (inject_runFrame _ _)
  · exact countPathEntries_runFrame _ _ s

theorem pathOccasion_stepFrame (q : Quad TenantUnit) (g : Quad TenantGiven) (s : State) :
    StepFrame s (pathOccasion q g s) :=
  (foldl_stepFrame _ (tenantTests_stepFrame q g) _ s).trans (endPathActive_stepFrame _)

theorem pathOccasion_runFrame (q : Quad TenantUnit) (g : Quad TenantGiven) (s : State) :
    RunFrame s (pathOccasion q g s) :=
  (foldl_runFrame _ (tenantTests_runFrame q g) _ s).trans (endPathActive_runFrame _)

theorem sendFrame_standing (s : State) : (sendFrame s).standing = s.standing :=
  ((pathOccasion_stepFrame _ _ _).standing (pathOccasion_runFrame _ _ _)).trans
    (giveUp_standing s _ _ _ (handOver_standing _ _ s))

theorem reachFrame_moves (s : State) : Moves s (reachFrame s) := by
  unfold reachFrame
  dsimp only
  refine Moves.trans ?_ (withTiming_moves _ _ (by rw [frameTick_base]))
  refine Moves.trans ?_ (settle_moves _)
  refine Moves.trans ?_ (withTiming_moves _ _ (advanceBy_record _ _))
  split
  · exact secondEvent_moves s
  · exact .refl s

theorem frameStart_moves (s : State) : Moves s (frameStart s) := by
  unfold frameStart
  split
  · exact .refl s
  · exact (reachFrame_moves s).trans (moves_of_eq (sendFrame_standing _))

theorem passOver_moves (n : Nat) : ∀ dt s, Moves s (passOver n dt s) := by
  have stop (dt : Nat) (s : State) : Moves s (s.withBase (s.timing.base.advanceBy dt)) :=
    withTiming_moves s _ (advanceBy_record _ _)
  induction n with
  | zero => exact stop
  | succ n ih =>
    intro dt s
    unfold passOver boundaryEvent
    split
    · refine Moves.trans ?_ (ih _ _)
      split
      · exact secondEvent_moves s
      · exact frameStart_moves s
    · exact stop dt s

theorem passTime_moves (dt : Nat) (s : State) : Moves s (passTime dt s) := passOver_moves _ _ _

theorem takePulse_standing (i : PulseInput) (s : State) : (takePulse i s).standing = s.standing := by
  have judged : (timingEvent (s.timing.pulsed i).1 s).standing = s.standing :=
    timingEvent_standing _ s ((reselect_record _).trans (withQualifier_record _ _ _))
  have kept (u : State) (m : Int) (x : Source) : (handOn x m 0 (u.withTiming (u.timing.keepM i m))).standing = u.standing :=
    (handOn_standing _ _ _ _).trans (withTiming_standing u _ (withQualifier_record _ _ _))
  unfold takePulse
  dsimp only
  split
  · split
    · exact ((crossSample_stepFrame _ _).standing (crossSample_runFrame _ _)).trans ((kept _ _ _).trans judged)
    · exact (kept _ _ _).trans judged
  · exact judged

end Sys2Proof.Machine
end

section
/-! SUPPORT. The chains of changes that requests and resets make, and `exec_moves`: those of every command. -/

namespace Sys2Proof.Machine

/-! ## Requests -/

/-- Only the record of a unit counts. -/
theorem withTenant_standing_congr (s : State) (x : Tenant) (u v : TenantUnit) (h : u.record = v.record) :
    (s.withTenant x u).standing = (s.withTenant x v).standing := by
  have k : (s.withTenant x u).tenants.map TenantUnit.record = (s.withTenant x v).tenants.map TenantUnit.record :=
    records_eq fun y => by
      by_cases e : y = x
      · subst e; simpa using h
      · rw [State.withTenant_other _ _ _ _ e, State.withTenant_other _ _ _ _ e]
  simp only [State.withTenant_tenants] at k
  simp [State.standing, State.settings, k]

theorem takeRecord_record (u : TenantUnit) (r : TenantRecord) : (u.takeRecord r).record = r :=
  (judgeXoff_egressOnly _).record.trans (judgePause_runUnit _).record

theorem takeTenantRecord_standing (x : Tenant) (r : TenantRecord) (c : TenantCause) (s : State) :
    (takeTenantRecord x r c s).standing = (s.withTenant x { s.tenant x with record := r }).standing := by
  have h := withTenant_standing_congr s x ((s.tenant x).takeRecord r) { s.tenant x with record := r } (takeRecord_record _ r)
  unfold takeTenantRecord
  dsimp only
  split
  · exact (raiseTenant_onlyNotices _ _ _ _ _).standing.trans h
  · exact h

/-- A record as SET_TENANT limits it lies within the ranges of R39 (R40, R41). -/
theorem limited_inRange (r : TenantRecord) (h : r.ok = true) : r.limited.inRange = true := by
  simp only [TenantRecord.ok, Bool.and_eq_true, Bool.or_eq_true, bne_iff_ne, ne_eq, beq_iff_eq, decide_eq_true_eq] at h
  obtain ⟨⟨⟨hi, he⟩, hs⟩, hl⟩ := h
  simp only [TenantRecord.inRange, TenantRecord.ok, Bool.and_eq_true, Bool.or_eq_true, bne_iff_ne, ne_eq, beq_iff_eq,
    decide_eq_true_eq]
  simp only [TenantRecord.limited]
  omega

theorem takeTimingRecord_standing (r : TimingRecord) (s : State) :
    (takeTimingRecord r s).standing = (s.withBase { s.timing.base with record := r }).standing :=
  ((stepWatch_stepFrame _).standing (stepWatch_runFrame _)).trans
    ((raiseTiming_onlyNotices _ _ _).standing.trans (by simp [State.standing, State.settings]))

/-- A tenant switched into another state with its notice, and the end of a step of its own. -/
theorem tenantLeft_standing (s : State) (x : Tenant) (u : TenantUnit) (p : TenantState) (c : TenantCause) (e : TenantExtra)
    (h : u.record = (s.tenant x).record) : (stepTenantLeft x ((s.withTenant x u).raiseTenant x p c e)).standing = s.standing :=
  ((stepTenantLeft_stepFrame _ _).standing (stepTenantLeft_runFrame _ _)).trans
    ((raiseTenant_onlyNotices _ _ _ _ _).standing.trans (withTenant_standing s x u h))

theorem flushed_record (u : TenantUnit) : u.flushIngress.flushEgress.record = u.record := rfl

/-- The settings of a slot, one block after another, are the settings put in force at once (R181). -/
theorem applySettings_standing (v : Settings) (s : State) : (applySettings v s).standing = s.standing.loaded v := by
  have load (u : State) : (loadTenants v.tenants u).standing =
      { u.standing with settings := { u.standing.settings with tenants := v.tenants } } := by
    have one (x : Tenant) (r : TenantRecord) (w : State) : (takeTenantRecord x r .loaded w).standing =
        { w.standing with settings := { w.standing.settings with tenants := w.standing.settings.tenants.set x r } } := by
      rw [takeTenantRecord_standing]
      cases x <;> rfl
    unfold loadTenants Tenant.all
    simp only [List.foldl, one]
    rfl
  unfold applySettings
  dsimp only
  rw [load]
  have timing := takeTimingRecord_standing v.timing ((s.withLadder (s.ladder.takeRecord v.link)).withPlanner
    { s.planner with shares := v.shares })
  generalize takeTimingRecord v.timing ((s.withLadder (s.ladder.takeRecord v.link)).withPlanner
    { s.planner with shares := v.shares }) = u at timing
  have test : (u.withTest { u.test with patterns := v.patterns }).standing =
      { u.standing with settings := { u.standing.settings with patterns := v.patterns } } := rfl
  rw [test, timing]
  rfl

theorem takeOp_moves (k : StoreOpKind) (s : State) (h : ∀ i v, k = .save i v → v = s.settings) :
    Moves s (takeOp k s).1 := (Move.opTaken k s.timing.base.advance h rfl).moves

theorem setRole_moves (r : Option Role) (s : State) : Moves s (doSetRole r s).1 := by
  unfold doSetRole
  split
  · exact .refl s
  · next e =>
    split
    · exact .refl s
    · next r => exact (Move.role e r (by exact rfl)).moves

theorem reset_moves (o : Option ResetOption) (s : State) : Moves s (doReset o s).1 := by
  unfold doReset
  split <;> exact moves_of_eq rfl

theorem getStatus_moves (p : Option StatusPart) (s : State) : Moves s (doGetStatus p s).1 := by
  unfold doGetStatus
  split <;> exact .refl s

theorem setLink_moves (r : LinkRecord) (s : State) : Moves s (doSetLink r s).1 := by
  unfold doSetLink
  split
  · next e => exact (Move.linkRecord r e rfl).moves
  · exact .refl s

theorem setTenant_moves (i : Nat) (r : Option TenantRecord) (s : State) : Moves s (doSetTenant i r s).1 := by
  unfold doSetTenant setTenantOf
  split
  · exact .refl s
  dsimp only
  split
  · exact .refl s
  split
  · exact .refl s
  split
  · exact .refl s
  · next e =>
    exact (Move.tenantRecord _ _ (limited_inRange _ (by simpa using e)) (takeTenantRecord_standing _ _ _ s)).moves

theorem setShares_moves (t : ShareTable) (s : State) : Moves s (doSetShares t s).1 := by
  unfold doSetShares
  split
  · next e => exact (Move.shares t e rfl).moves
  · exact .refl s

theorem tenantActivate_moves (i : Nat) (s : State) : Moves s (doTenantActivate i s).1 := by
  unfold doTenantActivate
  split
  · exact .refl s
  split
  · next x _ _ =>
    have h : Moves s (s.withTenant x { s.tenant x with state := .active }) :=
      moves_of_eq (withTenant_standing s x _ rfl)
    exact h.trans (raiseTenant_onlyNotices _ _ _ _ _).moves
  · exact .refl s

theorem tenantDrain_moves (i : Nat) (s : State) : Moves s (doTenantDrain i s).1 := by
  unfold doTenantDrain drain
  dsimp only
  repeat' split
  all_goals first | exact .refl s | exact moves_of_eq (tenantLeft_standing s _ _ _ _ _ rfl)

theorem tenantOff_moves (i : Nat) (s : State) : Moves s (doTenantOff i s).1 := by
  unfold doTenantOff switchOff
  dsimp only
  repeat' split
  · exact .refl s
  · exact moves_of_eq (withTenant_standing s _ _ (flushed_record _))
  · exact moves_of_eq (tenantLeft_standing s _ _ _ _ _ (flushed_record _))

theorem getCounters_moves (i : Nat) (c : Bool) (s : State) : Moves s (doGetCounters i c s).1 := by
  unfold doGetCounters
  split
  · exact .refl s
  · next x _ =>
    dsimp only
    split
    · exact moves_of_eq (withTenant_standing s x _ rfl)
    · exact .refl s

theorem setTiming_moves (r : TimingRecord) (s : State) : Moves s (doSetTiming r s).1 := by
  unfold doSetTiming
  split
  · next e => exact (Move.timing r e (takeTimingRecord_standing r s)).moves
  · exact .refl s

theorem timeSet_moves (x : BitVec 48) (s : State) : Moves s (doTimeSet x s).1 := by
  unfold doTimeSet
  split
  · exact .refl s
  · exact withTiming_moves s _ rfl

theorem timingRestart_moves (s : State) : Moves s (doTimingRestart s).1 := by
  have restart : Moves s (s.withTiming s.timing.restart) := withTiming_moves s _ rfl
  have watch (u : State) : Moves u (stepWatch u) := moves_of_eq ((stepWatch_stepFrame u).standing (stepWatch_runFrame u))
  exact (restart.trans (raiseTiming_onlyNotices _ _ _).moves).trans (watch _)

theorem setPattern_moves (i : Nat) (p : Option Pattern) (s : State) : Moves s (doSetPattern i p s).1 := by
  unfold doSetPattern
  split
  · exact .refl s
  · next p =>
    split
    · exact .refl s
    · next e =>
      split
      · exact .refl s
      · exact (Move.pattern i p (by simp only [not_or, Bool.not_eq_false] at e; exact e.2) rfl).moves

theorem setStep_moves (i : Nat) (a : StepArg) (s : State) : Moves s (doSetStep i a s).1 := by
  unfold doSetStep
  repeat' split
  all_goals exact moves_of_eq rfl

theorem testStart_moves (n : Nat) (f : Bool) (s : State) : Moves s (doTestStart n f s).1 := by
  unfold doTestStart
  have start (u : TestUnit) (h : u.patterns = s.test.patterns) : Moves s (runFirstStep (s.withTest u)) :=
    (moves_of_eq (withTest_standing s u h)).trans
      (moves_of_eq ((runFirstStep_stepFrame _).standing (runFirstStep_runFrame _)))
  repeat' split
  all_goals first | exact .refl s | exact start _ rfl

theorem testAbort_moves (s : State) : Moves s (doTestAbort s).1 := by
  unfold doTestAbort
  split
  · exact moves_of_eq ((abortRun_stepFrame _ s).standing (abortRun_runFrame _ s))
  · exact .refl s

theorem acceptWaive_moves (s : State) : Moves s (doAcceptWaive s).1 := by
  unfold doAcceptWaive
  split
  · exact .refl s
  · have waived : Moves s (s.withTest { s.test with acceptance := .waived }) := moves_of_eq (withTest_standing s _ rfl)
    exact waived.trans (raiseTest_onlyNotices _ _).moves

theorem storeSave_moves (i : Nat) (s : State) : Moves s (doStoreSave i s).1 := by
  unfold doStoreSave
  repeat' split
  · exact .refl s
  · exact .refl s
  · exact takeOp_moves _ s fun _ _ e => by injection e with _ e; exact e.symm

theorem storeLoad_moves (i : Nat) (s : State) : Moves s (doStoreLoad i s).1 := by
  unfold doStoreLoad
  split
  · exact .refl s
  split
  · exact .refl s
  split
  · exact .refl s
  split
  · exact .refl s
  · dsimp only
    exact Moves.trans (Move.loaded i (applySettings_standing _ s)).moves (raiseStore_onlyNotices _ _ _).moves

theorem storeErase_moves (i : Nat) (s : State) : Moves s (doStoreErase i s).1 := by
  unfold doStoreErase
  split
  · exact .refl s
  split
  · exact .refl s
  · exact takeOp_moves (.erase i) s (by simp)

theorem storeBoot_moves (i : Option Nat) (s : State) : Moves s (doStoreBoot i s).1 := by
  unfold doStoreBoot
  split
  · exact .refl s
  split
  · exact .refl s
  split
  · exact takeOp_moves (.boot none) s (by simp)
  split
  · exact takeOp_moves (.boot (some _)) s (by simp)
  · exact .refl s

theorem storeCal_moves (a : Int) (s : State) : Moves s (doStoreCal a s).1 := by
  unfold doStoreCal
  split
  · exact .refl s
  split
  · exact .refl s
  split
  · exact takeOp_moves (.cal s.timing.servo.fHold a) s (by simp)
  · exact .refl s

/-- Every request is a chain of changes (R171). -/
theorem perform_moves (r : Request) (s : State) : Moves s (perform r s).1 := by
  cases r
  case getId => exact .refl s
  case setRole r => exact setRole_moves r s
  case reset o => exact reset_moves o s
  case getStatus p => exact getStatus_moves p s
  case setLink r => exact setLink_moves r s
  case setTenant i r => exact setTenant_moves i r s
  case setShares t => exact setShares_moves t s
  case tenantActivate i => exact tenantActivate_moves i s
  case tenantDrain i => exact tenantDrain_moves i s
  case tenantOff i => exact tenantOff_moves i s
  case getCounters i c => exact getCounters_moves i c s
  case setTiming r => exact setTiming_moves r s
  case timeSet x => exact timeSet_moves x s
  case timingRestart => exact timingRestart_moves s
  case setPattern i p => exact setPattern_moves i p s
  case setStep i a => exact setStep_moves i a s
  case testStart n f => exact testStart_moves n f s
  case testAbort => exact testAbort_moves s
  case getResults => exact .refl s
  case acceptWaive => exact acceptWaive_moves s
  case storeSave i => exact storeSave_moves i s
  case storeLoad i => exact storeLoad_moves i s
  case storeErase i => exact storeErase_moves i s
  case storeBoot i => exact storeBoot_moves i s
  case storeCal a => exact storeCal_moves a s

/-! ## The management line -/

theorem withPort_moves (s : State) (p : Port) : Moves s (s.withPort p) := moves_of_eq rfl

theorem completeRequest_moves (b : Buffered) (s : State) : Moves s (completeRequest b s) := by
  have ans (w : Incoming) (u : State) : Moves u (answer w u).1 := by
    cases w
    · exact .refl u
    · exact .refl u
    · exact perform_moves _ u
  unfold completeRequest
  exact ((withPort_moves s _).trans (ans _ _)).trans (withPort_moves _ _)

theorem takeRequest_moves (s : State) : Moves s (takeRequest s) := by
  unfold takeRequest
  repeat' split
  · exact .refl s
  · exact (withPort_moves s _).trans (completeRequest_moves _ _)
  · exact .refl s

theorem serve_moves (s : State) : Moves s (serve s) := by
  unfold serve
  exact ((takeRequest_moves s).trans (withPort_moves _ _)).trans (takeRequest_moves _)

theorem offerFrame_moves (b : Buffered) (s : State) : Moves s (offerFrame b s) :=
  (withPort_moves s _).trans (serve_moves _)

theorem receiveByte_moves (s : State) (b : Byte) : Moves s (receiveByte s b) := by
  unfold receiveByte
  dsimp only
  split
  · exact withPort_moves s _
  · exact (withPort_moves s _).trans (offerFrame_moves _ _)

theorem lineEnds_moves (s : State) : Moves s (lineEnds s) := by
  unfold lineEnds
  split
  · exact (withPort_moves s _).trans (serve_moves _)
  · exact .refl s

/-! ## Resets -/

theorem warmBlocks_moves (s : State) : Moves s (warmBlocks s) := by
  have link : Moves s (s.withLink s.link.down) := (Move.linkDown rfl).moves
  have ladder : Moves (s.withLink s.link.down) ((s.withLink s.link.down).withLadder s.ladder.linkDown) :=
    (Move.ladderDown rfl).moves
  refine (link.trans ladder).trans (moves_of_eq ?_)
  have e : (warmBlocks s).tenants.map TenantUnit.record = s.tenants.map TenantUnit.record :=
    records_eq (t := warmBlocks s) fun x => by simp [State.tenant, warmBlocks]; rfl
  have r : (warmBlocks s).timing.base.record = s.timing.base.record := reselect_record _
  simp only [State.standing, State.settings, e, r]
  rfl

theorem raiseLinkReset_onlyNotices (p : LinkState) (s : State) : OnlyNotices s (raiseLinkReset p s) := by
  unfold raiseLinkReset
  split
  · exact .refl s
  · exact raiseLink_onlyNotices _ _ _

theorem raiseProfileReset_onlyNotices (a b : Nat) (s : State) : OnlyNotices s (raiseProfileReset a b s) := by
  unfold raiseProfileReset
  split
  · exact raiseProfile_onlyNotices _ _
  · exact .refl s

theorem raiseTenantReset_onlyNotices (q : Quad TenantUnit) (s : State) (x : Tenant) :
    OnlyNotices s (raiseTenantReset q s x) := by
  unfold raiseTenantReset
  split
  · exact raiseTenant_onlyNotices _ _ _ _ _
  · exact .refl s

/-- The state of a COMMAND-WARM reset with every notice of the blocks raised, before the run is aborted. -/
def warmNoticed (s : State) : State :=
  let s1 := raiseProfileReset s.ladder.rp s.link.txProfile (raiseLinkReset s.link.state (warmBlocks s))
  Tenant.all.foldl (raiseTenantReset s.tenants) (s1.raiseTiming s.timing (timingCauses s.timing s1.timing false))

theorem warmNoticed_onlyNotices (s : State) : OnlyNotices (warmBlocks s) (warmNoticed s) := by
  unfold warmNoticed
  refine OnlyNotices.trans ?_ (foldl_onlyNotices _ (raiseTenantReset_onlyNotices _) _ _)
  exact ((raiseLinkReset_onlyNotices _ _).trans (raiseProfileReset_onlyNotices _ _ _)).trans
    (raiseTiming_onlyNotices _ _ _)

theorem warmReset_eq (s : State) : warmReset s =
    (abortByReset (warmNoticed s)).withTest { (abortByReset (warmNoticed s)).test with check := none, report := none } := rfl

theorem abortByReset_stepFrame (s : State) : StepFrame s (abortByReset s) := by
  unfold abortByReset
  split
  · exact abortRun_stepFrame _ s
  · exact .refl s

theorem abortByReset_runFrame (s : State) : RunFrame s (abortByReset s) := by
  unfold abortByReset
  split
  · exact abortRun_runFrame _ s
  · exact .refl s

theorem warmReset_moves (s : State) : Moves s (warmReset s) := by
  rw [warmReset_eq]
  refine Moves.trans ?_ (moves_of_eq (withTest_standing _ _ rfl))
  refine Moves.trans ?_ (moves_of_eq ((abortByReset_stepFrame _).standing (abortByReset_runFrame _)))
  exact (warmBlocks_moves s).trans (warmNoticed_onlyNotices s).moves

theorem commandReset_moves (o : ResetOption) (s : State) : Moves s (commandReset o s) := by
  cases o
  · exact (Move.fullReset .commandFull rfl).moves
  · exact warmReset_moves s

theorem commandResetOf_moves (o : ResetOption) (s : State) : Moves s (commandResetOf o s) := by
  unfold commandResetOf
  split
  · exact commandReset_moves _ s
  · exact .refl s

theorem outgoingEnds_moves (s : State) : Moves s (outgoingEnds s) := by
  unfold outgoingEnds
  split
  · exact commandReset_moves _ s
  · exact lineEnds_moves s

/-! ## Every command -/

theorem arriveAt_standing (x : Tenant) (bad : Bool) (b : List Byte) (s : State) : (arriveAt x bad b s).standing = s.standing := by
  have rec' : ((s.tenant x).arrive s.link.frameCounter bad b).record = (s.tenant x).record := by
    unfold TenantUnit.arrive
    dsimp only
    repeat' split
    all_goals first | rfl | exact (judgePause_runUnit _).record
  have h := withTenant_standing s x _ rec'
  unfold arriveAt
  dsimp only
  split
  · exact h
  · exact ((inject_stepFrame _ _).standing (inject_runFrame _ _)).trans h

theorem ageHead_record (u v : TenantUnit) (n : BitVec 32) (e : Entry) (h : u.ageHead n = some (v, e)) :
    v.record = u.record := by
  unfold TenantUnit.ageHead at h
  split at h
  · cases h
  · split at h
    · injection h with h
      injection h with h
      rw [← h]
      exact (judgePause_runUnit _).record
    · cases h

theorem removeStale_standing (x : Tenant) (s : State) : (removeStale x s).standing = s.standing := by
  unfold removeStale
  split
  · rfl
  split
  · rfl
  · next v e h =>
    exact (((countPathEntries_stepFrame _ _ _).trans (drainIfEmpty_stepFrame _ _)).standing
      ((countPathEntries_runFrame _ _ _).trans (drainIfEmpty_runFrame _ _))).trans
      (withTenant_standing s x v (ageHead_record _ _ _ _ h))

theorem absenceNow_standing (i : PulseInput) (s : State) : (absenceNow i s).standing = s.standing := by
  unfold absenceNow
  split
  · exact timingEvent_standing _ s (inputExpired_record _ i)
  · rfl

theorem syncDueNow_standing (s : State) : (syncDueNow s).standing = s.standing := by
  unfold syncDueNow
  split <;> rfl

theorem timeoutsNow_standing (s : State) : (timeoutsNow s).standing = s.standing := by
  unfold timeoutsNow
  split <;> rfl

theorem storeEnds_moves (s : State) : Moves s (storeEnds s) := by
  unfold storeEnds
  repeat' split
  · next o e _ => exact (Move.opEnds o e rfl).moves.trans (raiseStore_onlyNotices _ _ _).moves
  · exact .refl s
  · exact .refl s

/-- What a command answers is a state that `announce` has been applied to; the chain up to there is the command's. -/
theorem moves_of_next {s t u : State} (h : (Host.Outcome.next (announce u) : Host.Outcome State Fault Refusal) = .next t)
    (k : Moves s u) : Moves s t := by
  injection h with h
  rw [← h]
  exact k.trans (announce_onlyNotices u).moves

/-- A command that is a request frame (log entry 5). -/
theorem requestFrame_moves {s t : State} {tag : Byte} {r : Request}
    (h : (Host.Outcome.next (requestFrame tag r s) : Host.Outcome State Fault Refusal) = .next t) : Moves s t :=
  moves_of_next h (offerFrame_moves _ s)

/-- Every command is a chain of changes. -/
theorem exec_moves (c : Instr) (s t : State) (h : exec c s = .next t) : Moves s t := by
  cases c
  case powerReset => exact moves_of_next h (Move.fullReset .power rfl).moves
  case pinReset => exact moves_of_next h (Move.fullReset .pin rfl).moves
  case commandFullReset => exact moves_of_next h (commandResetOf_moves _ s)
  case commandWarmReset => exact moves_of_next h (commandResetOf_moves _ s)
  case frameStart => exact moves_of_next h (frameStart_moves s)
  case receivedFrameRecord r =>
    refine moves_of_next h ?_
    split
    · exact moves_of_eq rfl
    · next e => exact (settle_moves s).trans (takeFrame_moves r _ (by rw [(settle_eventFrame s).role]; exact e))
  case receiveMarkerCapture n => exact moves_of_next h ((passTime_moves n s).trans (withTiming_moves _ _ rfl))
  case absentFrame => exact moves_of_next h (absentDue_moves s)
  case tenantPacketArrival x bad b => exact moves_of_next h (moves_of_eq (arriveAt_standing x bad b s))
  case holdInput x a =>
    exact moves_of_next h (moves_of_eq (withTenant_standing s x _ (beginDelivery_egressOnly _).record))
  case deliveryEnd x =>
    exact moves_of_next h (moves_of_eq (withTenant_standing s x _ (endDelivery_egressOnly _).record))
  case secondBoundary => exact moves_of_next h ((passTime_moves _ s).trans (secondEvent_moves _))
  case pulse i n =>
    exact moves_of_next h (((passTime_moves n s).trans (settle_moves _)).trans (moves_of_eq (takePulse_standing i _)))
  case absenceExpiry i => exact moves_of_next h ((passTime_moves _ s).trans (moves_of_eq (absenceNow_standing i _)))
  case staleRemoval x => exact moves_of_next h (moves_of_eq (removeStale_standing x s))
  case syncDue => exact moves_of_next h (moves_of_eq (syncDueNow_standing s))
  case exchangeTimeout => exact moves_of_next h (moves_of_eq (timeoutsNow_standing s))
  case linkSupervisionExpiry => exact moves_of_next h (supervisionDue_moves s)
  case holdoverLimit => exact moves_of_next h (limitDue_moves s)
  case holdoverAging => exact moves_of_next h (agingDue_moves s)
  case leadEnd => exact moves_of_next h (moves_of_eq ((leadOver_stepFrame s).standing (leadOver_runFrame s)))
  case activeEnd => exact moves_of_next h (moves_of_eq ((activeOver_stepFrame s).standing (activeOver_runFrame s)))
  case tailEnd => exact moves_of_next h (moves_of_eq ((tailOver_stepFrame s).standing (tailOver_runFrame s)))
  case reportWaitExpiry =>
    exact moves_of_next h (moves_of_eq ((reportWaitOver_stepFrame s).standing (reportWaitOver_runFrame s)))
  case waitTimeout => exact moves_of_next h (moves_of_eq ((waitOver_stepFrame s).standing (waitOver_runFrame s)))
  case timingCrossTimeout => exact moves_of_next h (moves_of_eq ((crossOver_stepFrame s).standing (crossOver_runFrame s)))
  case managementFrame b => exact moves_of_next h (foldl_moves _ receiveByte_moves b s)
  case gapExpiry => exact moves_of_next h (withPort_moves s _)
  case outgoingFrameEnd => exact moves_of_next h (outgoingEnds_moves s)
  case erasingEnd => exact moves_of_next h (Move.opErased rfl).moves
  case storeOperationEnd => exact moves_of_next h (storeEnds_moves s)
  case unknownKind tag k => exact moves_of_next h (offerFrame_moves _ s)
  case strayByte b => exact moves_of_next h (receiveByte_moves s b)
  all_goals exact requestFrame_moves h

/-- A step is a chain of changes, once the oldest waiting command has left the queue. -/
theorem step_moves (s t : State) (h : step s = .next t) : Moves s t := by
  unfold step at h
  split at h
  · injection h with h
    rw [h]
    exact .refl t
  · next c rest _ => exact (moves_of_eq rfl : Moves s (s.withPending rest)).trans (exec_moves c _ t h)

end Sys2Proof.Machine
end

section
/-! PROOF. The invariants of the link counts and of the records: each change keeps them, so every step does. -/

namespace Sys2Proof.Machine

/-! ## The link counts -/

/-- What the invariant of the link counts reads of the standing part. -/
def Standing.linkPart (c : Standing) :
    Option Role × LinkState × Nat × Nat × Quad Bool × Nat × Bool × Option (BitVec 16) :=
  (c.settings.role, c.state, c.good, c.lost, c.rxXoff, c.farReq, c.farForce, c.farEnd)

theorem linkInv_of_part {s t : State} (h : t.standing.linkPart = s.standing.linkPart) (i : s.linkInv) : t.linkInv := by
  simp only [Standing.linkPart, State.standing, State.settings, Prod.mk.injEq] at h
  obtain ⟨role, state, good, lost, rxXoff, farReq, farForce, farEnd⟩ := h
  simpa only [State.linkInv, role, state, good, lost, rxXoff, farReq, farForce, farEnd] using i

theorem linkInv_congr {s t : State} (h : t.standing = s.standing) (i : s.linkInv) : t.linkInv :=
  linkInv_of_part (congrArg Standing.linkPart h) i

/-- Neither role nor link unit is touched. -/
theorem linkInv_of_eq {s t : State} (hr : t.role = s.role) (hl : t.link = s.link) (i : s.linkInv) : t.linkInv := by
  simpa only [State.linkInv, hr, hl] using i

/-- In DOWN, with every count and every stored field cleared, the invariant holds in every role. -/
theorem linkInv_down (s : State) : (s.withLink s.link.down).linkInv := by
  simp [State.linkInv, LinkUnit.down]

theorem linkInv_losing (s : State) : (s.withLink s.link.losing).linkInv := by
  simp [State.linkInv, LinkUnit.losing, LinkUnit.down]

theorem linkInv_lostFrame (s : State) (i : s.linkInv) : (s.withLink s.link.lostFrame).linkInv := by
  cases e : s.link.state
  case down => rw [lostFrame_down e]; exact i
  case acquire => rw [lostFrame_acquire e]; exact linkInv_losing s
  case up =>
    by_cases n : 64 ≤ s.link.lost + 1
    · rw [lostFrame_last e n]
      exact linkInv_losing s
    · obtain ⟨role, -, -, -⟩ := i
      rw [lostFrame_up e n]
      refine ⟨fun k => absurd (role k) (by simp [e]), by simp [e], by simp [e], fun _ => ?_⟩
      simp only [State.withLink_link]
      omega

theorem linkInv_goodHeader (s : State) (r : s.role ≠ none) (i : s.linkInv) : (s.withLink s.link.goodHeader).linkInv := by
  obtain ⟨-, down, acquire, -⟩ := i
  refine ⟨fun k => absurd k r, fun k => absurd k (goodHeader_state _), ?_⟩
  cases e : s.link.state
  case down =>
    obtain ⟨-, lost, -, -, -, farEnd⟩ := down e
    rw [goodHeader_down e]
    simp [lost, farEnd]
  case acquire =>
    obtain ⟨-, -, lost, farEnd⟩ := acquire e
    by_cases n : 16 ≤ s.link.good + 1
    · rw [goodHeader_acquired e n]
      simp
    · rw [goodHeader_acquire e n]
      refine ⟨fun _ => ⟨Nat.le_add_left 1 _, Nat.le_of_not_lt n, lost, farEnd⟩, by simp [e]⟩
  case up =>
    rw [goodHeader_up e]
    simp [e]

theorem linkInv_store (s : State) (h : Header) (k : s.link.state ≠ .down) (i : s.linkInv) :
    (s.withLink (s.link.store h)).linkInv := by
  obtain ⟨role, -, acquire, up⟩ := i
  refine ⟨role, fun d => absurd d k, fun a => ?_, up⟩
  have a' : s.link.state = .acquire := a
  obtain ⟨g1, g15, lost, farEnd⟩ := acquire a'
  refine ⟨g1, g15, lost, ?_⟩
  simp [LinkUnit.store, a', farEnd]

/-- Every change keeps the counts and the stored fields of the link states. -/
theorem move_keeps_linkInv (s t : State) (m : Move s t) (i : s.linkInv) : t.linkInv := by
  cases m
  case stays h => exact linkInv_congr h i
  case lostFrame h => exact linkInv_congr h (linkInv_lostFrame s i)
  case linkDown h => exact linkInv_congr h (linkInv_down s)
  case goodHeader r h => exact linkInv_congr h (linkInv_goodHeader s r i)
  case stored x k h => exact linkInv_congr h (linkInv_store s x k i)
  case role r h => exact linkInv_congr h ⟨nofun, i.2⟩
  case loaded k h => exact linkInv_of_part ((congrArg Standing.linkPart h).trans rfl) i
  case fullReset c h =>
    refine linkInv_congr h ⟨fun _ => rfl, fun _ => ⟨rfl, rfl, rfl, rfl, rfl, rfl⟩, nofun, nofun⟩
  all_goals rename_i h; exact linkInv_congr h (linkInv_of_eq rfl rfl i)

/-- Settles O57: every change that a step is made of keeps the invariant. -/
theorem everyStepKeepsLinkCounts : Obligations.EveryStepKeepsLinkCounts :=
  fun s t i h => (step_moves s t h).keeps move_keeps_linkInv i

/-! ## The records -/

/-- The records in force and in the store, and R_p with its counts, read the standing part only. -/
def Standing.recordsInv (c : Standing) : Prop :=
  c.settings.inRange ∧ (∀ t, (c.store.plan.get t).settings.inRange) ∧ ∀ o, c.store.op = some o → o.kind.settingsOk

/-- See `Standing.recordsInv`. -/
def Standing.ladderInv (c : Standing) : Prop :=
  c.rp ≤ 7 ∧ c.dwell < c.settings.link.upDwell ∧ ∀ h, c.confirm = some h → h < c.settings.link.threshold c.rp

theorem recordsInv_iff (s : State) : s.recordsInv ↔ s.standing.recordsInv := Iff.rfl

theorem ladderInv_iff (s : State) : s.ladderInv ↔ s.standing.ladderInv := Iff.rfl

/-- Every member of a four satisfies what the one written and the ones kept satisfy. -/
theorem Quad.put_all {α : Type} {P : α → Prop} (q : Quad α) (i : Nat) (a : α) (h : P a) (k : ∀ t, P (q.get t)) :
    ∀ t, P ((q.put i a).get t) := by
  intro t
  have k0 := k .t0; have k1 := k .t1; have k2 := k .t2; have k3 := k .t3
  unfold Quad.put
  split <;> cases t <;> assumption

theorem Quad.set_all {α : Type} {P : α → Prop} (q : Quad α) (x : Tenant) (a : α) (h : P a) (k : ∀ t, P (q.get t)) :
    ∀ t, P ((q.set x a).get t) := by
  intro t
  by_cases e : t = x
  · rw [e, Quad.get_set_same]; exact h
  · rw [Quad.get_set_other _ _ _ _ e]; exact k t

theorem Quad.at_of_all {α : Type} {P : α → Prop} (q : Quad α) (k : ∀ t, P (q.get t)) (i : Nat) : P (q.at i) := by
  unfold Quad.at
  split
  · exact k .t0
  · exact k .t1
  · exact k .t2
  · exact k .t3

/-- The up-dwell of a record within the ranges of R24 is not 0. -/
theorem upDwell_pos {r : LinkRecord} (h : r.ok = true) : 0 < r.upDwell := by
  simp only [LinkRecord.ok, Bool.and_eq_true, decide_eq_true_eq] at h
  omega

/-- With both counts cleared, R_p within P0 to P7 is all there is to keep. -/
theorem ladderInv_cleared {c : Standing} (ok : c.settings.link.ok = true) (rp : c.rp ≤ 7) (d : c.dwell = 0)
    (k : c.confirm = none) : c.ladderInv :=
  ⟨rp, by rw [d]; exact upDwell_pos ok, by simp [k]⟩

/-- The highest profile of R28 is one of P0 to P7. -/
theorem highestAt_le (r : LinkRecord) (m : Nat) : r.highestAt m ≤ 7 := by
  have h (l : List Nat) (b : Nat) (hb : b ≤ 7) (hl : ∀ p ∈ l, p ≤ 7) :
      l.foldl (fun best p => if r.threshold p ≤ m then p else best) b ≤ 7 := by
    induction l generalizing b with
    | nil => exact hb
    | cons p l ih =>
      refine ih _ ?_ fun q hq => hl q (List.mem_cons_of_mem _ hq)
      dsimp only
      split
      · exact hl p (List.mem_cons_self)
      · exact hb
  exact h _ 0 (Nat.zero_le 7) fun p hp => by simp only [List.mem_range] at hp; omega

/-- The up test keeps R_p within P0 to P7 and the dwell count below the up-dwell (R29). -/
theorem judgeUp_inv (l : Ladder) (x : Nat) (ok : 0 < l.record.upDwell) (rp : l.rp ≤ 7) (c : l.confirm = none) :
    (l.judgeUp x).1.rp ≤ 7 ∧ (l.judgeUp x).1.dwell < l.record.upDwell ∧ (l.judgeUp x).1.confirm = none := by
  unfold Ladder.judgeUp
  split
  · next p =>
    simp only [Ladder.passesUp, Bool.and_eq_true, decide_eq_true_eq] at p
    split
    · exact ⟨p.1, ok, c⟩
    · next n => exact ⟨rp, Nat.lt_of_not_le n, c⟩
  · exact ⟨rp, ok, c⟩

/-- A sample keeps R_p and its counts within their ranges (R28, R29). -/
theorem sample_ladderInv (s : State) (q x : Nat) (ok : s.ladder.record.ok = true) (i : s.ladderInv) :
    (s.withLadder (s.ladder.sample q x).1).ladderInv := by
  obtain ⟨rp, dwell, confirm⟩ := i
  have pos := upDwell_pos ok
  have rec' := Ladder.sample_record s.ladder q x
  simp only [State.ladderInv, State.withLadder_ladder, rec']
  unfold Ladder.sample
  dsimp only
  by_cases b : x < s.ladder.record.threshold s.ladder.rp
  · simp only [if_pos b]
    unfold Ladder.judgeDown
    simp only [if_pos b]
    cases s.ladder.confirm with
    | none => exact ⟨rp, pos, fun h e => by injection e with e; exact e ▸ b⟩
    | some h => exact ⟨highestAt_le _ _, pos, nofun⟩
  · simp only [if_neg b]
    unfold Ladder.judgeDown
    simp only [if_neg b]
    have up (c : LadderCounters) :=
      judgeUp_inv { s.ladder with lastSample := some x, confirm := none, counters := c } x pos rp rfl
    exact ⟨(up _).1, (up _).2.1, by rw [(up _).2.2]; exact nofun⟩

/-- What the store invariant says of one plan slot. -/
def slotOk (p : PlanSlot) : Prop := p.settings.inRange

theorem noOp_ok {st : Store} (h : st.op = none) : ∀ o, st.op = some o → o.kind.settingsOk := by simp [h]

/-- The start-up settings lie within the ranges: those of a slot, or the defaults (R176). -/
theorem startSettings_inRange (s : State) (i : s.recordsInv) : s.store.startSettings.inRange := by
  obtain ⟨-, slots, -⟩ := i
  unfold Store.startSettings
  split
  · exact Quad.at_of_all (P := slotOk) _ slots _
  · refine ⟨by decide, fun t => ?_, by decide, by decide, fun t => ?_⟩ <;> cases t <;> decide

/-- What the taking, the erasing and the end of a store operation do to the slots. -/
theorem erasePlan_settings (st : Store) (i : Nat) (h : ∀ t, (st.plan.get t).settings.inRange) :
    ∀ t, ((st.erasePlan i).plan.get t).settings.inRange :=
  Quad.put_all (P := slotOk) _ _ _ (Quad.at_of_all (P := slotOk) _ h i) h

theorem begun_settings (st : Store) (k : StoreOpKind) (h : ∀ t, (st.plan.get t).settings.inRange) :
    ∀ t, ((st.begun k).plan.get t).settings.inRange := by
  cases k with
  | save i v => exact erasePlan_settings st i h
  | erase i => exact erasePlan_settings st i h
  | boot i => exact h
  | cal f a => exact h

theorem finished_settings (st : Store) (k : StoreOpKind) (ok : k.settingsOk) (h : ∀ t, (st.plan.get t).settings.inRange) :
    ∀ t, ((st.finished k).plan.get t).settings.inRange := by
  cases k with
  | save i v => exact Quad.put_all (P := slotOk) _ _ _ ok h
  | erase i => exact h
  | boot i => exact h
  | cal f a => exact h

theorem erased_recordsInv (s : State) (i : s.recordsInv) : (s.withStore s.store.erased).recordsInv := by
  obtain ⟨force, slots, op⟩ := i
  unfold Store.erased
  split
  · next o e =>
    split
    · exact ⟨force, slots, fun o' k => by injection k with k; rw [← k]; exact op o e⟩
    · exact ⟨force, slots, op⟩
  · exact ⟨force, slots, op⟩

theorem take_recordsInv (s : State) (k : StoreOpKind) (n : Nat) (saved : ∀ i v, k = .save i v → v = s.settings)
    (i : s.recordsInv) : (s.withStore (s.store.take k n)).recordsInv := by
  obtain ⟨force, slots, -⟩ := i
  refine ⟨force, begun_settings s.store k slots, fun o e => ?_⟩
  simp only [State.withStore_store, Store.take, Option.some.injEq] at e
  rw [← e]
  cases k with
  | save j v =>
    rw [saved j v rfl]
    exact force
  | erase j => trivial
  | boot j => trivial
  | cal f a => trivial

/-- Every change keeps the records within their ranges and R_p with its counts within the record. -/
theorem move_keeps_records (s t : State) (m : Move s t) (i : s.recordsInv ∧ s.ladderInv) : t.recordsInv ∧ t.ladderInv := by
  obtain ⟨records, ladder⟩ := i
  obtain ⟨⟨link, tenants, shares, timing, patterns⟩, slots, op⟩ := records
  rw [recordsInv_iff, ladderInv_iff]
  cases m
  case sampled q x h =>
    rw [h]
    have k := sample_ladderInv s q x link ladder
    refine ⟨⟨⟨?_, tenants, shares, timing, patterns⟩, slots, op⟩, k⟩
    rw [← link]
    exact congrArg LinkRecord.ok (Ladder.sample_record _ _ _)
  case ladderDown h =>
    rw [h]
    exact ⟨⟨⟨link, tenants, shares, timing, patterns⟩, slots, op⟩, ladderInv_cleared link (Nat.zero_le 7) rfl rfl⟩
  case linkRecord r ok h =>
    rw [h]
    exact ⟨⟨⟨ok, tenants, shares, timing, patterns⟩, slots, op⟩, ladderInv_cleared ok ladder.1 rfl rfl⟩
  case tenantRecord x r ok h =>
    rw [h]
    refine ⟨⟨⟨link, ?_, shares, timing, patterns⟩, slots, op⟩, ladder⟩
    have k := Quad.set_all (P := fun u : TenantUnit => u.record.inRange = true) s.tenants x { s.tenant x with record := r } ok
      fun y => by simpa [State.settings] using tenants y
    intro y
    simpa [State.standing, State.settings] using k y
  case shares table ok h =>
    rw [h]
    exact ⟨⟨⟨link, tenants, ok, timing, patterns⟩, slots, op⟩, ladder⟩
  case timing r ok h =>
    rw [h]
    exact ⟨⟨⟨link, tenants, shares, ok, patterns⟩, slots, op⟩, ladder⟩
  case pattern k p ok h =>
    rw [h]
    exact ⟨⟨⟨link, tenants, shares, timing, Quad.put_all (P := fun p : Pattern => p.inRange = true) _ _ _ ok patterns⟩, slots, op⟩,
      ladder⟩
  case loaded k h =>
    obtain ⟨link', tenants', shares', timing', patterns'⟩ := Quad.at_of_all (P := slotOk) _ slots k
    rw [h]
    exact ⟨⟨⟨link', tenants', shares', timing', patterns'⟩, slots, op⟩, ladderInv_cleared link' ladder.1 rfl rfl⟩
  case opTaken k n saved h =>
    rw [h]
    exact ⟨take_recordsInv s k n saved ⟨⟨link, tenants, shares, timing, patterns⟩, slots, op⟩, ladder⟩
  case opErased h =>
    rw [h]
    exact ⟨erased_recordsInv s ⟨⟨link, tenants, shares, timing, patterns⟩, slots, op⟩, ladder⟩
  case opEnds o e h =>
    rw [h]
    exact ⟨⟨⟨link, tenants, shares, timing, patterns⟩, finished_settings _ _ (op o e) slots, noOp_ok rfl⟩, ladder⟩
  case fullReset c h =>
    have start := startSettings_inRange s ⟨⟨link, tenants, shares, timing, patterns⟩, slots, op⟩
    rw [h]
    exact ⟨⟨start, slots, noOp_ok rfl⟩, ladderInv_cleared start.1 (Nat.zero_le 7) rfl rfl⟩
  all_goals
    rename_i h
    rw [h]
    exact ⟨⟨⟨link, tenants, shares, timing, patterns⟩, slots, op⟩, ladder⟩

/-- Settles O59: every change that a step is made of keeps both invariants. -/
theorem everyStepKeepsRecordsInRange : Obligations.EveryStepKeepsRecordsInRange :=
  fun s t i h => (step_moves s t h).keeps move_keeps_records i

end Sys2Proof.Machine
end

section
/-! PROOF. The state after a first POWER reset, and the POWER, PIN and COMMAND-FULL resets without a valid boot slot. -/

namespace Sys2Proof.Machine

/-! ## The state after a first POWER reset -/

/-- Every Tenant Unit starts in OFF with the default record and a released hold input. -/
@[simp] theorem reset_tenant (x : Tenant) : State.reset.tenant x = .initial Config.defaultTenant .off false := by
  cases x <;> rfl

theorem reset_acceptanceInv : State.reset.acceptanceInv := by
  simp [State.acceptanceInv, TenantUnit.initial, TenantState.inService]

theorem reset_timeInv : State.reset.timeInv := ⟨by decide, nofun, nofun⟩

theorem reset_steerInv : State.reset.steerInv := by
  have zero : inSteer 0 := ⟨by decide, by decide⟩
  exact ⟨zero, zero, zero, zero, fun o h => absurd h (by simp [State.reset, Store.blank])⟩

theorem reset_timingInv : State.reset.timingInv := ⟨by decide, by decide, .inr rfl⟩

theorem reset_transferInv : State.reset.transferInv :=
  ⟨by decide, by decide, by decide, by decide, fun _ => ⟨rfl, rfl⟩, fun _ => rfl⟩

/-- Every entry of the step table is empty at first. -/
theorem initial_steps (q : Quad Pattern) (i : Nat) : (TestUnit.initial q).steps.toList.getD i none = none := by
  simp only [TestUnit.initial, Vector.toList_replicate, List.getD_eq_getElem?_getD, List.getElem?_replicate]
  split <;> rfl

theorem reset_queueInv : State.reset.queueInv := by
  refine ⟨fun x => ?_, fun i e h => ?_, fun w h => absurd h (by simp [State.reset, TestUnit.initial])⟩
  · simp [TenantUnit.queueInv, TenantUnit.initial, occupancy, egressOccupancy]
  · rw [show State.reset.test = .initial _ from rfl, initial_steps] at h
    cases h

theorem reset_ingressInv : State.reset.ingressInv := by
  intro x
  simp [TenantUnit.initial, IngressCounters.inRange, IngressCounters.zero]

theorem reset_runInv : State.reset.runInv := ⟨by decide, fun h => RunState.noConfusion h, fun _ => ⟨rfl, rfl⟩⟩

theorem reset_linkInv : State.reset.linkInv :=
  ⟨fun _ => rfl, fun _ => ⟨rfl, rfl, rfl, rfl, rfl, rfl⟩, nofun, nofun⟩

theorem reset_portInv : State.reset.portInv := ⟨by decide, fun _ _ => rfl, nofun⟩

theorem reset_recordsInv : State.reset.recordsInv := by
  have d : Settings.default.inRange := by
    refine ⟨by decide, fun x => ?_, by decide, by decide, fun x => ?_⟩ <;> cases x <;> decide
  exact ⟨d, fun x => by cases x <;> exact d, noOp_ok rfl⟩

theorem reset_ladderInv : State.reset.ladderInv := ⟨by decide, by decide, nofun⟩

theorem reset_fullReset : fullReset .power State.reset = State.reset := by
  unfold fullReset
  rfl

/-! ## POWER, PIN and COMMAND-FULL without a valid boot slot (R176) -/

/-- A mark that names no valid slot applies none (R176). -/
theorem bootSlot_none (st : Store) (h : ∀ i, st.bootMark = some i → (st.plan.at i).valid = false) :
    st.bootSlot = none := by
  unfold Store.bootSlot
  cases e : st.bootMark with
  | none => rfl
  | some i => simp [h i e]

/-- The slot that the mark names is then reported as the invalid one. -/
theorem invalidBoot_eq (st : Store) (h : ∀ i, st.bootMark = some i → (st.plan.at i).valid = false) :
    st.invalidBoot = st.bootMark := by
  unfold Store.invalidBoot
  cases e : st.bootMark with
  | none => rfl
  | some i => simp [h i e]

theorem startSettings_default (st : Store) (h : st.bootSlot = none) : st.startSettings = Settings.default := by
  rw [Store.startSettings, h]

/-- The port after a reset has its line busy with the BOOT notice, so nothing more is announced. -/
theorem booted_busy (p : Port) (c : ResetCause) (n : BootNotice) : (p.booted c n).freeForNotice = false := rfl

theorem announce_fullReset (c : ResetCause) (s : State) : announce (fullReset c s) = fullReset c s :=
  announce_busy _ (booted_busy _ _ _)

/-- The three full resets answer the same operation, COMMAND-FULL where its RESET has been answered (R174). -/
theorem exec_fullReset (s : State) (c : Instr) (cause : ResetCause)
    (h : (c, cause) ∈ [(Instr.powerReset, ResetCause.power), (.pinReset, .pin), (.commandFullReset, .commandFull)])
    (k : c = .commandFullReset → s.port.resetPending = some .full ∧ s.port.reply = none) :
    exec c s = .next (fullReset cause s) := by
  simp only [List.mem_cons, Prod.mk.injEq, List.not_mem_nil, or_false] at h
  obtain ⟨rfl, rfl⟩ | ⟨rfl, rfl⟩ | ⟨rfl, rfl⟩ := h
  · exact congrArg Host.Outcome.next (announce_fullReset .power s)
  · exact congrArg Host.Outcome.next (announce_fullReset .pin s)
  · obtain ⟨pending, reply⟩ := k rfl
    have due : s.port.resetDue = some .full := by simp [Port.resetDue, pending, reply]
    have e : commandResetOf .full s = fullReset .commandFull s := by rw [commandResetOf, if_pos due, commandReset]
    exact congrArg Host.Outcome.next ((congrArg announce e).trans (announce_fullReset .commandFull s))

/-- Settles O60. -/
theorem resetMeetsEveryInvariant : Obligations.ResetMeetsEveryInvariant :=
  ⟨⟨reset_acceptanceInv, reset_timeInv, reset_steerInv, reset_timingInv, reset_transferInv, reset_queueInv, reset_ingressInv,
    reset_runInv, reset_linkInv, reset_portInv, reset_recordsInv, reset_ladderInv⟩,
    congrArg Host.Outcome.next ((announce_fullReset .power State.reset).trans reset_fullReset)⟩

/-- The port after a full reset without a valid boot slot. -/
theorem fullReset_port (s : State) (cause : ResetCause) (h : cause ≠ .commandWarm)
    (invalid : ∀ i, s.store.bootMark = some i → (s.store.plan.at i).valid = false) :
    (fullReset cause s).port =
      { rx := none, buffer := [], reply := none, slots := NoticeSlots.clear, resetPending := none,
        counters := LineCounters.zero, lastCause := cause,
        line := some (.notice .boot (.boot
          { cause := cause, applied := none, invalid := s.store.bootMark, role := none,
            calValid := s.store.cal.valid, abandoned := s.store.op.map fun o => o.kind.name }) 0) } := by
  have slot := bootSlot_none s.store invalid
  simp only [fullReset, Port.booted, Port.reset, Store.bootNotice, slot, startSettings_default s.store slot,
    invalidBoot_eq s.store invalid, if_neg h]
  rfl

/-- Settles O2: with the default settings, every block of `fullReset` is at its start-up value. -/
theorem fullResetWithoutBootSlot : Obligations.FullResetWithoutBootSlot := by
  intro s c cause hc hk invalid
  have slot := bootSlot_none s.store invalid
  have settings := startSettings_default s.store slot
  have cold : cause ≠ .commandWarm := by rintro rfl; simp at hc
  have link : (fullReset cause s).link = .initial := rfl
  have ladder : (fullReset cause s).ladder = .initial Config.defaultLink := by rw [fullReset, settings]; rfl
  have planner : (fullReset cause s).planner = .initial Config.defaultShares := by rw [fullReset, settings]; rfl
  refine ⟨fullReset cause s, exec_fullReset s c cause hc hk, ?_, link, ladder, planner, ?_, ?_, ?_, fun x => ?_, ?_, ?_, rfl,
    fullReset_port s cause cold invalid⟩
  · rw [fullReset, settings]; rfl
  · rw [link]
    exact ⟨rfl, rfl, rfl, rfl, rfl, rfl, rfl, rfl, rfl, rfl, rfl, rfl, rfl, rfl, rfl, rfl, rfl, rfl⟩
  · rw [ladder]
    exact ⟨rfl, rfl, rfl, rfl, rfl, rfl, rfl⟩
  · rw [planner]
    exact ⟨rfl, rfl, rfl, rfl⟩
  · rw [fullReset, settings, slot]
    cases x <;> rfl
  · rw [fullReset, settings]; rfl
  · rw [fullReset, settings]; rfl

end Sys2Proof.Machine
end

section
/-! PROOF. GET_STATUS, GET_RESULTS and GET_COUNTERS answer with what stands (R171). -/

namespace Sys2Proof.Machine

/-- A request that reads answers at once and leaves the state as it was. -/
theorem requestFrame_read (tag : Byte) (r : Request) (s : State) (st : Status) (body : ReplyBody) (h : s.requestFree)
    (e : ∀ k, perform r (s.serving k tag) = (s.serving k tag, st, body)) :
    requestFrame tag r s = s.replied r.kind tag st body := by
  rw [requestFrame_free tag r s h]
  simp only [e, State.serving_replied]

/-- GET_STATUS of a section that has a record shows the record and the line counters (R169, R171). -/
theorem getStatus_read (tag : Byte) (p : StatusPart) (s : State) (r : StatusRecord) (h : s.requestFree)
    (e : ∀ k, (s.serving k tag).statusOf p = some r) :
    requestFrame tag (.getStatus (some p)) s = s.replied 4 tag .ok (.status r s.port.counters) := by
  refine requestFrame_read tag _ s _ _ h fun k => ?_
  change doGetStatus (some p) (s.serving k tag) = _
  simp only [doGetStatus, Option.bind_some, e]
  rfl

/-- An index above 3 names no tenant. -/
theorem ofIndex_none (i : Nat) (h : 3 < i) : Tenant.ofIndex i = none := by
  unfold Tenant.ofIndex
  split
  all_goals first | omega | rfl

/-- GET_COUNTERS of a tenant (R56). -/
theorem getCounters_tenant (tag : Byte) (i : Nat) (x : Tenant) (c : Bool) (s : State) (h : s.requestFree)
    (e : Tenant.ofIndex i = some x) :
    requestFrame tag (.getCounters i c) s =
      (if c then s.withTenant x (s.tenant x).cleared else s).replied 11 tag .ok
        (.counters (s.tenant x).ingress (s.tenant x).egressCounters) := by
  have p (k : Byte) : perform (.getCounters i c) (s.serving k tag) =
      ((if c then s.withTenant x (s.tenant x).cleared else s).serving k tag, .ok,
        .counters (s.tenant x).ingress (s.tenant x).egressCounters) := by
    change doGetCounters i c (s.serving k tag) = _
    simp only [doGetCounters, e]
    cases c <;> rfl
  rw [requestFrame_free tag _ s h]
  simp only [p, State.serving_replied]
  rfl

/-- A tenant status shows the errored-present mark (R90, R96). -/
theorem erroredPresent_iff (u : TenantUnit) : u.erroredPresent = true ↔ ∃ e ∈ u.egress, e.errored = true := by
  simp [TenantUnit.erroredPresent]

/-- The store shows READY exactly without an operation in flight (R177). -/
theorem storeState_ready (st : Store) : st.state = .ready ↔ st.op = none := by
  unfold Store.state
  split
  · next e => simp [e]
  · next o e => cases k : o.stage <;> simp [e]

theorem storeState_erasing (st : Store) (o : StoreOp) (e : st.op = some o) (k : o.stage = .erasing) :
    st.state = .erasing := by
  simp only [Store.state, e, k]

/-- Settles O47: every read leaves the state to the reply, and each record shows the fields as they stand. -/
theorem readsAnswerAndChangeNothing : Obligations.ReadsAnswerAndChangeNothing := by
  intro s tag h
  have next {a b : State} (e : a = b) : (Host.Outcome.next a : Host.Outcome State Fault Refusal) = .next b := by rw [e]
  refine ⟨⟨s.linkStatus, next (getStatus_read tag .link s _ h fun _ => rfl), rfl, rfl, rfl, rfl, rfl, rfl, rfl⟩,
    ⟨s.timingStatus, next (getStatus_read tag .timing s _ h fun _ => rfl), rfl, rfl, rfl, rfl, rfl, rfl⟩,
    fun i x e => ⟨(s.tenant x).status s.link.frameCounter, next (getStatus_read tag (.tenant i) s _ h fun _ => ?_),
      rfl, rfl, rfl, rfl, rfl, rfl, rfl, erroredPresent_iff _⟩,
    fun i e => next ?_,
    ⟨s.testStatus, next (getStatus_read tag .test s _ h fun _ => rfl), rfl, rfl, rfl, rfl⟩,
    ⟨s.storeStatus, next (getStatus_read tag .store s _ h fun _ => rfl), rfl, rfl, rfl, storeState_ready _,
      storeState_erasing _⟩,
    next (requestFrame_read tag .getResults s _ _ h fun _ => rfl),
    fun i x e => ⟨next (getCounters_tenant tag i x false s h e), next (getCounters_tenant tag i x true s h e)⟩,
    fun i c e => next ?_⟩
  · simp only [State.statusOf, e, Option.map_some]
    rfl
  · refine requestFrame_read tag _ s _ _ h fun k => ?_
    change doGetStatus (some (.tenant i)) (s.serving k tag) = _
    simp only [doGetStatus, Option.bind_some, State.statusOf, ofIndex_none i e, Option.map_none]
    rfl
  · refine requestFrame_read tag _ s _ _ h fun k => ?_
    change doGetCounters i c (s.serving k tag) = _
    simp only [doGetCounters, ofIndex_none i e]

end Sys2Proof.Machine
end

section
/-! PROOF. The HEADER as sent is read back field by field (R8, R9, R12, 11.2). -/

namespace Sys2Proof.Machine

/-! ## Bytes -/

/-- The bytes at the first offsets of a list are its front. -/
theorem map_byteAt_range (b : List Byte) (n : Nat) (h : n ≤ b.length) : (List.range n).map (byteAt b) = b.take n := by
  apply List.ext_getElem
  · simp [h]
  · intro i hi _
    simp only [List.length_map, List.length_range] at hi
    simp [byteAt, List.getElem?_eq_getElem (Nat.lt_of_lt_of_le hi h)]

theorem numBytes_length (n x : Nat) : (numBytes n x).length = n := by
  induction n generalizing x with
  | zero => rfl
  | succ n ih => simp [numBytes, ih]

/-- Two bytes of a number, most-significant byte first (R183). -/
theorem numBytes_two (x : Nat) : numBytes 2 x = [BitVec.ofNat 8 (x / 256), BitVec.ofNat 8 x] := by
  simp [numBytes]

/-- A 16-bit number read from its two bytes. -/
theorem numAt_two (b : List Byte) (k : Nat) (v : BitVec 16) (h0 : byteAt b k = BitVec.ofNat 8 (v.toNat / 256))
    (h1 : byteAt b (k + 1) = BitVec.ofNat 8 v.toNat) : BitVec.ofNat 16 (numAt b k 2) = v := by
  apply BitVec.eq_of_toNat_eq
  have lt := v.isLt
  simp only [numAt, Nat.add_zero, h0, h1, BitVec.toNat_ofNat]
  omega

theorem toNat_ofNat_eight (x : Nat) (h : x < 256) : (BitVec.ofNat 8 x).toNat = x := by
  rw [BitVec.toNat_ofNat]
  exact Nat.mod_eq_of_lt h

/-- A tenant flag set read from its byte (R183). -/
theorem flagsOf_flagByte (q : Quad Bool) : flagsOf (flagByte q) = q := by
  obtain ⟨a, b, c, d⟩ := q
  cases a <;> cases b <;> cases c <;> cases d <;> rfl

/-- The force indication lies in the top bit above a profile of 0 to 7 (11.2). -/
theorem force_byte (r : Nat) (f : Bool) (h : r ≤ 7) :
    (BitVec.ofNat 8 (r % 8 + 128 * f.toNat)).toNat % 8 = r ∧ (BitVec.ofNat 8 (r % 8 + 128 * f.toNat)).getLsbD 7 = f := by
  interval_cases r <;> cases f <;> decide

/-- A control kind read from its byte (R183). -/
theorem ofCode_code (k : ControlKind) : ControlKind.ofCode (k.code % 256) = some k := by cases k <;> rfl

/-! ## The HEADER's bytes -/

/-- The first 16 bytes of a HEADER (11.2). -/
def Header.fields (h : Header) : List Byte :=
  [BitVec.ofNat 8 (h.seq.toNat / 256), BitVec.ofNat 8 h.seq.toNat, BitVec.ofNat 8 h.txProfile,
   BitVec.ofNat 8 (h.requested % 8 + 128 * h.force.toNat), flagByte h.xoff, BitVec.ofNat 8 h.controls.length,
   kindByte h.controls 0, kindByte h.controls 1, BitVec.ofNat 8 h.testBlocks, BitVec.ofNat 8 h.endMark.isSome.toNat,
   BitVec.ofNat 8 ((h.endMark.map BitVec.toNat).getD 0 / 256), BitVec.ofNat 8 ((h.endMark.map BitVec.toNat).getD 0),
   BitVec.ofNat 8 h.tenantBlocks.t0, BitVec.ofNat 8 h.tenantBlocks.t1, BitVec.ofNat 8 h.tenantBlocks.t2,
   BitVec.ofNat 8 h.tenantBlocks.t3]

theorem Header.body_eq (h : Header) : h.body = h.fields ++ List.replicate 110 0 := by
  simp [Header.body, Header.fields, numBytes_two, Quad.toList]

theorem Header.body_length (h : Header) : h.body.length = 126 := by
  rw [Header.body_eq, List.length_append, List.length_replicate]
  rfl

theorem Header.bytes_length (h : Header) : h.bytes.length = 128 := by
  rw [Header.bytes, List.length_append, h.body_length, numBytes_length]

/-- A byte of the fields, read from the block. -/
theorem Header.byteAt_bytes (h : Header) (k : Nat) (lt : k < 16) : byteAt h.bytes k = h.fields.getD k 0 := by
  have len : h.fields.length = 16 := rfl
  rw [byteAt, Header.bytes, Header.body_eq, List.append_assoc]
  simp [List.getD_eq_getElem?_getD, List.getElem?_append_left (len ▸ lt)]

/-- A HEADER as sent passes its check (R9). -/
theorem Header.check_passes (h : Header) : headerCheckPasses h.bytes = true := by
  have body : (List.range 126).map (byteAt h.bytes) = h.body := by
    rw [map_byteAt_range _ _ (by rw [h.bytes_length]; omega), Header.bytes, List.take_left' h.body_length]
  have tail (k : Nat) : byteAt h.bytes (126 + k) = (numBytes 2 (crc16 h.body).toNat).getD k 0 := by
    rw [byteAt, Header.bytes, ← h.body_length]
    simp [List.getD_eq_getElem?_getD, List.getElem?_append_right]
  have crc : BitVec.ofNat 16 (numAt h.bytes 126 2) = crc16 h.body :=
    numAt_two _ _ _ (by rw [tail 0, numBytes_two]; rfl) (by rw [tail 1, numBytes_two]; rfl)
  rw [headerCheckPasses, body, crc, beq_self_eq_true]

/-- The control kinds of a header that passes the consistency test, read back (R12, R183). -/
theorem Header.controlsAt_bytes (h : Header) (c : controlsConsistent h.controls = true) :
    controlsAt h.bytes = some h.controls := by
  have b5 : byteAt h.bytes 5 = BitVec.ofNat 8 h.controls.length := h.byteAt_bytes 5 (by omega)
  have b6 : byteAt h.bytes 6 = kindByte h.controls 0 := h.byteAt_bytes 6 (by omega)
  have b7 : byteAt h.bytes 7 = kindByte h.controls 1 := h.byteAt_bytes 7 (by omega)
  unfold controlsAt
  rw [b5, b6, b7]
  match e : h.controls with
  | [] => rfl
  | [k] => simp [kindByte, ofCode_code]
  | [k, l] => simp [kindByte, ofCode_code]
  | k :: l :: m :: r => rw [e] at c; exact absurd c (by simp [controlsConsistent])

/-- A count below 256 read back from its byte. -/
theorem Header.count_at (h : Header) (k n : Nat) (e : h.fields.getD k 0 = BitVec.ofNat 8 n) (lt : k < 16) (n8 : n < 256) :
    (byteAt h.bytes k).toNat = n := by
  rw [h.byteAt_bytes k lt, e, toNat_ofNat_eight n n8]

/-- The end mark read back: its flag first, then the run id (11.2). -/
theorem Header.endMark_at (h : Header) :
    (if byteAt h.bytes 9 = 0 then none else some (BitVec.ofNat 16 (numAt h.bytes 10 2))) = h.endMark := by
  have b9 : byteAt h.bytes 9 = BitVec.ofNat 8 h.endMark.isSome.toNat := h.byteAt_bytes 9 (by omega)
  cases e : h.endMark with
  | none => rw [b9, e]; rfl
  | some v =>
    have v2 : BitVec.ofNat 16 (numAt h.bytes 10 2) = v :=
      numAt_two _ _ _ (by rw [h.byteAt_bytes 10 (by omega)]; simp [Header.fields, e])
        (by rw [h.byteAt_bytes 11 (by omega)]; simp [Header.fields, e])
    rw [b9, e, v2]
    rfl

/-- No profile has more than 120 blocks (R6). -/
theorem blocksOf_le (p : Nat) : Config.blocksOf p ≤ 120 := by
  unfold Config.blocksOf
  split <;> decide

/-- What the check of `Header.wf` says. -/
theorem Header.wf_iff (h : Header) : h.wf = true ↔ h.txProfile ≤ 7 ∧ h.requested ≤ 7 ∧ controlsConsistent h.controls = true ∧
    h.testBlocks ≤ 64 ∧ 1 + h.controls.length + h.testBlocks + h.tenantBlocks.sum ≤ Config.blocksOf h.txProfile := by
  simp [Header.wf, and_assoc]

/-- A header within R8 that passes the consistency test of R12 is read back as it was sent. -/
theorem Header.headerAt_bytes (h : Header) (wf : h.wf = true) : headerAt h.bytes = some h := by
  obtain ⟨profile, requested, consistent, test, blocks⟩ := h.wf_iff.mp wf
  have le := Nat.le_trans blocks (blocksOf_le _)
  simp only [Quad.sum] at le
  have seq : BitVec.ofNat 16 (numAt h.bytes 0 2) = h.seq :=
    numAt_two _ _ _ (h.byteAt_bytes 0 (by omega)) (h.byteAt_bytes 1 (by omega))
  have b3 : byteAt h.bytes 3 = BitVec.ofNat 8 (h.requested % 8 + 128 * h.force.toNat) := h.byteAt_bytes 3 (by omega)
  have b4 : byteAt h.bytes 4 = flagByte h.xoff := h.byteAt_bytes 4 (by omega)
  have force := force_byte h.requested h.force requested
  unfold headerAt
  rw [h.controlsAt_bytes consistent]
  simp only [seq, h.count_at 2 h.txProfile rfl (by omega) (by omega), b3, force.1, force.2, b4, flagsOf_flagByte,
    h.count_at 8 h.testBlocks rfl (by omega) (by omega), h.endMark_at,
    h.count_at 12 h.tenantBlocks.t0 rfl (by omega) (by omega), h.count_at 13 h.tenantBlocks.t1 rfl (by omega) (by omega),
    h.count_at 14 h.tenantBlocks.t2 rfl (by omega) (by omega), h.count_at 15 h.tenantBlocks.t3 rfl (by omega) (by omega)]
  exact if_pos ⟨profile, consistent, test, blocks⟩

/-- Settles O11. -/
theorem headerRoundTrip : Obligations.HeaderRoundTrip :=
  fun h wf => ⟨h.bytes_length, h.check_passes, h.headerAt_bytes wf⟩

end Sys2Proof.Machine
end

section
/-! SUPPORT. What the loss of the link does (R16, R17), what the end of a step logs (R155), and that without a run no event
of the Test Controller happens. -/

namespace Sys2Proof.Machine

/-! ## Without a run -/

theorem endStep_idle (v : Verdict) (r : EndReason) (s : State) (h : s.test.runState ≠ .running) : endStep v r s = s :=
  if_neg h

theorem stepLinkLost_idle (s : State) (h : s.test.runState ≠ .running) : stepLinkLost s = s := by
  unfold stepLinkLost
  simp only [endStep_idle _ _ s h]
  repeat' split
  all_goals rfl

theorem stepWatch_idle (s : State) (h : s.test.runState ≠ .running) : stepWatch s = s := by
  unfold stepWatch
  simp only [endStep_idle _ _ s h, ite_self]
  repeat' split
  all_goals rfl

/-! ## What the end of a step logs (R155) -/

/-- From one state to another the log only grew, and what had no current step has none. -/
structure LogGrows (s t : State) : Prop where
  results : ∃ l, t.test.results = s.test.results ++ l
  ended : s.test.work = none → t.test.runState = s.test.runState ∧ t.test.work = none ∧
    t.test.acceptance = s.test.acceptance

theorem LogGrows.trans {s t u : State} (h : LogGrows s t) (k : LogGrows t u) : LogGrows s u where
  results := by
    obtain ⟨l, hl⟩ := h.results
    obtain ⟨m, hm⟩ := k.results
    exact ⟨l ++ m, by rw [hm, hl, List.append_assoc]⟩
  ended w := by
    obtain ⟨a, b, c⟩ := h.ended w
    obtain ⟨a', b', c'⟩ := k.ended b
    exact ⟨a'.trans a, b', c'.trans c⟩

theorem logGrows_of_eq {s t : State} (h : t.test.results = s.test.results) (k : t.test.work = s.test.work)
    (a : t.test.acceptance = s.test.acceptance) (b : t.test.runState = s.test.runState) : LogGrows s t :=
  ⟨⟨[], by rw [h, List.append_nil]⟩, fun w => ⟨b, k.trans w, a⟩⟩

theorem LogGrows.refl (s : State) : LogGrows s s := logGrows_of_eq rfl rfl rfl rfl

theorem removeForce_test (s : State) : (removeForce s).test = s.test := by
  unfold removeForce
  split
  · exact (raiseProfile_onlyNotices _ _).test
  · rfl

theorem setForce_test (p : Nat) (s : State) : (setForce p s).test = s.test := (raiseProfile_onlyNotices _ _).test

theorem drainIfEmpty_test (x : Tenant) (s : State) : (drainIfEmpty x s).test = s.test := by
  unfold drainIfEmpty
  split
  · exact (raiseTenant_onlyNotices _ _ _ _ _).test
  · rfl

theorem removeStepEntries_test (w : Working) (s : State) : (removeStepEntries w s).test =
    { s.test with counters := { s.test.counters with
        entriesRemoved := (removeStepEntries w s).test.counters.entriesRemoved } } := by
  unfold removeStepEntries
  split
  · simp only [drainIfEmpty_test]
    rfl
  · rfl

/-- The end of a step logs its record and leaves no current step; the run goes on until `finishRun` (R155). -/
theorem closeStep_log (w : Working) (v : Verdict) (r : EndReason) (s : State) :
    (closeStep w v r s).test.results = s.test.results ++ [w.record v r] ∧ (closeStep w v r s).test.work = none ∧
    (closeStep w v r s).test.flag = s.test.flag ∧ (closeStep w v r s).test.runState = s.test.runState ∧
    (closeStep w v r s).test.acceptance = s.test.acceptance := by
  unfold closeStep
  dsimp only
  rw [(raiseTest_onlyNotices _ _).test, State.withTest_test, removeStepEntries_test]
  have e : (if w.step.body.forces.isSome = true then removeForce s else s).test = s.test := by
    split
    · exact removeForce_test s
    · rfl
  exact ⟨by simp only [TestUnit.log, e]; rfl, rfl, by simp only [TestUnit.log, e], by simp only [TestUnit.log, e],
    by simp only [TestUnit.log, e]⟩

theorem skipSteps_log (reason : EndReason) (n : Nat) : ∀ i t, (∃ l, (skipSteps reason n i t).results = t.results ++ l) ∧
    (skipSteps reason n i t).work = t.work := by
  induction n with
  | zero => exact fun _ t => ⟨⟨[], (List.append_nil _).symm⟩, rfl⟩
  | succ n ih =>
    intro i t
    unfold skipSteps
    split
    · exact ih _ _
    · next step _ =>
      obtain ⟨⟨l, hl⟩, w⟩ := ih (i + 1) (t.log (Working.fresh i step (t.patternFor step.body)) .skipped reason)
      refine ⟨⟨(Working.fresh i step (t.patternFor step.body)).record .skipped reason :: l, ?_⟩, w⟩
      rw [hl, TestUnit.log, List.append_assoc]
      rfl

theorem finishRun_test (a : Bool) (s : State) : (finishRun a s).test =
    { s.test with runState := .done, work := none, acceptance :=
        if s.test.flag && !a then (if allMandatoryPass s.test.results then .passed else .failed)
        else s.test.acceptance } := (raiseTest_onlyNotices _ _).test

theorem inject_log (x : Tenant) (s : State) : (inject x s).test.results = s.test.results := by
  unfold inject
  repeat' split
  all_goals rfl

/-- The start of a step logs nothing. -/
theorem startStep_log (i : Nat) (s : State) : (startStep i s).1.test.results = s.test.results := by
  unfold startStep beginStep
  repeat' split
  all_goals simp only [State.withWork_test, inject_log, setForce_test]

theorem endStepFor_log (n : Nat) : ∀ v r s, LogGrows s (endStepFor n v r s) := by
  induction n with
  | zero => exact fun _ _ s => .refl s
  | succ n ih =>
    intro v r s
    unfold endStepFor
    split
    · exact .refl s
    · next w hw =>
      obtain ⟨results, -, -, -, -⟩ := closeStep_log w v r s
      have some' {u : State} (l : ∃ l, u.test.results = (closeStep w v r s).test.results ++ l) : LogGrows s u := by
        obtain ⟨l, hl⟩ := l
        exact ⟨⟨w.record v r :: l, by rw [hl, results, List.append_assoc]; rfl⟩, fun k => by rw [hw] at k; cases k⟩
      dsimp only
      split
      · obtain ⟨⟨l, hl⟩, -⟩ := skipSteps_log .mandatoryFailed ((closeStep w v r s).test.count - (w.index + 1)) (w.index + 1)
          (closeStep w v r s).test
        exact some' ⟨l, by rw [finishRun_test]; exact hl⟩
      · split
        · exact some' ⟨[], by rw [finishRun_test, List.append_nil]⟩
        · have hs := startStep_log (w.index + 1) (closeStep w v r s)
          split
          · next h => rw [h] at hs; exact some' ⟨[], by rw [hs, List.append_nil]⟩
          · next s2 v' r' h =>
            rw [h] at hs
            obtain ⟨l, hl⟩ := (ih v' r' s2).results
            exact some' ⟨l, by rw [hl, hs]⟩

theorem endStep_log (v : Verdict) (r : EndReason) (s : State) : LogGrows s (endStep v r s) := by
  unfold endStep
  split
  · exact endStepFor_log _ _ _ _
  · exact .refl s

theorem stepWatch_log (s : State) : LogGrows s (stepWatch s) := by
  unfold stepWatch
  repeat' split
  all_goals first | exact .refl s | exact endStep_log _ _ _

/-- The current step of a run ended: `stepEnded` of the statements (R155). -/
theorem endStep_stepEnded (v : Verdict) (r : EndReason) (s : State) (w : Working) (h : s.test.runState = .running)
    (hw : s.test.work = some w) : stepEnded w v r s (endStep v r s) := by
  obtain ⟨results, work, flag, -, -⟩ := closeStep_log w v r s
  have e : endStep v r s = endStepFor 17 v r s := if_pos h
  rw [e]
  unfold endStepFor
  simp only [hw]
  by_cases m : w.step.mandatory = true ∧ v ≠ .pass
  · rw [if_pos m]
    obtain ⟨⟨l, hl⟩, -⟩ := skipSteps_log .mandatoryFailed ((closeStep w v r s).test.count - (w.index + 1)) (w.index + 1)
      (closeStep w v r s).test
    have log : (skipRest (w.index + 1) .mandatoryFailed (closeStep w v r s)).test.results =
        s.test.results ++ w.record v r :: l := by
      refine Eq.trans hl ?_
      rw [results, List.append_assoc]
      rfl
    have failed : allMandatoryPass (skipRest (w.index + 1) .mandatoryFailed (closeStep w v r s)).test.results = false := by
      have bad : ((w.record v r).verdict == .pass) = false := by
        cases v
        case pass => exact absurd rfl m.2
        all_goals rfl
      rw [log, allMandatoryPass, List.all_append, List.all_cons, bad]
      simp [Working.record, m.1]
    have kept : (skipRest (w.index + 1) .mandatoryFailed (closeStep w v r s)).test.flag = s.test.flag :=
      (skipSteps_runTables _ _ _ _).flag.trans flag
    rw [stepEnded, finishRun_test]
    exact ⟨⟨l, log⟩, fun _ _ => ⟨rfl, rfl, fun f => by simp [kept, f, failed]⟩⟩
  · rw [if_neg m]
    refine ⟨?_, fun a b => absurd ⟨a, b⟩ m⟩
    have grown {u : State} (h : ∃ l, u.test.results = (closeStep w v r s).test.results ++ l) :
        ∃ later, u.test.results = s.test.results ++ w.record v r :: later := by
      obtain ⟨l, hl⟩ := h
      exact ⟨l, by rw [hl, results, List.append_assoc]; rfl⟩
    split
    · exact grown ⟨[], by rw [finishRun_test, List.append_nil]⟩
    · have hs := startStep_log (w.index + 1) (closeStep w v r s)
      split
      · next h => rw [h] at hs; exact grown ⟨[], by rw [hs, List.append_nil]⟩
      · next s2 v' r' h =>
        rw [h] at hs
        obtain ⟨l, hl⟩ := (endStepFor_log 16 v' r' s2).results
        exact grown ⟨l, by rw [hl, hs]⟩

/-- What happens after the end of a step changes nothing of it. -/
theorem stepEnded.later {w : Working} {v : Verdict} {r : EndReason} {s t u : State} (h : stepEnded w v r s t)
    (k : LogGrows t u) : stepEnded w v r s u := by
  obtain ⟨⟨l, hl⟩, mandatory⟩ := h
  obtain ⟨m, hm⟩ := k.results
  refine ⟨⟨l ++ m, by rw [hm, hl, List.append_assoc]; rfl⟩, fun a b => ?_⟩
  obtain ⟨done, work, failed⟩ := mandatory a b
  obtain ⟨a', b', c'⟩ := k.ended work
  exact ⟨a'.trans done, b', fun f => c'.trans (failed f)⟩

/-- `stepEnded` reads the log and the acceptance flag of the state before. -/
theorem stepEnded.before {w : Working} {v : Verdict} {r : EndReason} {s s' t : State} (h : stepEnded w v r s' t)
    (e : s'.test = s.test) : stepEnded w v r s t := by
  simpa only [stepEnded, e] using h

/-! ## The entry to DOWN -/

/-- The entry to DOWN before the step in progress is ended (R17). -/
def downEntered (c : LinkCause) (s : State) : State :=
  let s1 := (s.withLink s.link.losing).raiseLink s.link.state c
  let s2 := ladderEntersDown s1
  (s2.withTiming s2.timing.linkDown).raiseTiming s2.timing (timingCauses s2.timing s2.timing.linkDown false)

theorem enterDown_eq (c : LinkCause) (s : State) : enterDown c s = stepWatch (stepLinkLost (downEntered c s)) := rfl

/-- Link unit, ladder and timing blocks enter DOWN, and of the rest only notices differ. -/
theorem downEntered_eq (c : LinkCause) (s : State) : ∃ p, downEntered c s =
    (((s.withLink s.link.losing).withLadder s.ladder.linkDown).withTiming s.timing.linkDown).withPort p := by
  unfold downEntered
  dsimp only
  have h1 := (raiseLink_onlyNotices (s.withLink s.link.losing) s.link.state c).eq
  generalize (s.withLink s.link.losing).raiseLink s.link.state c = u at h1 ⊢
  have h2 : ∃ p, ladderEntersDown u = (u.withLadder u.ladder.linkDown).withPort p := by
    unfold ladderEntersDown
    dsimp only
    split
    · exact ⟨_, (raiseProfile_onlyNotices _ _).eq⟩
    · exact ⟨_, rfl⟩
  obtain ⟨p, hp⟩ := h2
  have h3 : ∃ q, ((ladderEntersDown u).withTiming (ladderEntersDown u).timing.linkDown).raiseTiming
      (ladderEntersDown u).timing (timingCauses (ladderEntersDown u).timing (ladderEntersDown u).timing.linkDown false) =
      ((ladderEntersDown u).withTiming (ladderEntersDown u).timing.linkDown).withPort q :=
    ⟨_, (raiseTiming_onlyNotices _ _ _).eq⟩
  obtain ⟨q, hq⟩ := h3
  rw [hq, hp, h1]
  exact ⟨q, rfl⟩

theorem downEntered_test (c : LinkCause) (s : State) : (downEntered c s).test = s.test := by
  obtain ⟨p, e⟩ := downEntered_eq c s
  rw [e]
  rfl

/-- What an event of the Test Controller leaves of the ladder and of the timing blocks at an entry to DOWN. -/
theorem enterDown_stepFrame (c : LinkCause) (s : State) : StepFrame (downEntered c s) (enterDown c s) :=
  (stepLinkLost_stepFrame _).trans (stepWatch_stepFrame _)

theorem enterDown_timing (c : LinkCause) (s : State) : (enterDown c s).timing = s.timing.linkDown := by
  obtain ⟨p, e⟩ := downEntered_eq c s
  rw [(enterDown_stepFrame c s).timing, e]
  rfl

theorem enterDown_ladder (c : LinkCause) (s : State) : (enterDown c s).ladder =
    { s.ladder with rp := 0, dwell := 0, confirm := none, forced := (enterDown c s).ladder.forced } := by
  obtain ⟨p, e⟩ := downEntered_eq c s
  have h := (enterDown_stepFrame c s).ladder
  rw [e] at h
  exact h

theorem enterDown_freeIndex (c : LinkCause) (s : State) : (enterDown c s).freeIndex = s.freeIndex := by
  obtain ⟨p, e⟩ := downEntered_eq c s
  rw [(enterDown_stepFrame c s).freeIndex, e]
  rfl

/-- Outside a run nothing but the link, the ladder and the timing blocks enters DOWN. -/
theorem enterDown_idle (c : LinkCause) (s : State) (h : s.test.runState ≠ .running) : ∃ p, enterDown c s =
    (((s.withLink s.link.losing).withLadder s.ladder.linkDown).withTiming s.timing.linkDown).withPort p := by
  have k : (downEntered c s).test.runState ≠ .running := by rw [downEntered_test]; exact h
  obtain ⟨p, e⟩ := downEntered_eq c s
  rw [enterDown_eq, stepLinkLost_idle _ k, stepWatch_idle _ k]
  exact ⟨p, e⟩

/-- A LINK_PATTERN or TENANT_PATH step ends FAIL LINK_LOST at the entry to DOWN (R157, R159). -/
theorem enterDown_stepEnded (c : LinkCause) (s : State) (w : Working) (h : s.test.runState = .running)
    (hw : s.test.work = some w) (k : w.step.body.kind = .linkPattern ∨ w.step.body.kind = .tenantPath) :
    stepEnded w .fail .linkLost s (enterDown c s) := by
  have t := downEntered_test c s
  have lost : stepLinkLost (downEntered c s) = endStep .fail .linkLost (downEntered c s) := by
    unfold stepLinkLost
    rw [t, hw]
    dsimp only
    split
    · rfl
    · rfl
    · next link path =>
      exfalso
      cases e : w.step.body with
      | linkPattern => exact link _ _ _ _ _ _ _ _ _ e
      | tenantPath => exact path _ _ _ _ _ _ e
      | timingCross => simp [e, StepBody.kind] at k
      | wait => simp [e, StepBody.kind] at k
  rw [enterDown_eq, lost]
  exact ((endStep_stepEnded .fail .linkLost _ w (t ▸ h) (t ▸ hw)).later (stepWatch_log _)).before t

/-! ## The timing blocks at the entry to DOWN -/

theorem takeSelection_xfer (t : Timing) (x : Option Source) : (t.takeSelection x).xfer = t.xfer := by
  unfold Timing.takeSelection Timing.enterHoldover
  repeat' split
  all_goals rfl

/-- The re-evaluation of the selection leaves the Time Transfer Unit alone. -/
@[simp] theorem reselect_xfer (t : Timing) : t.reselect.xfer = t.xfer := takeSelection_xfer t _

/-- Both transfer lists are empty and LINK is ABSENT (R120, R126, R130, R132). -/
theorem linkDown_xfer (t : Timing) : t.linkDown.xfer.exchanges = [] ∧ t.linkDown.xfer.responses = [] ∧
    t.linkDown.xfer.link = t.xfer.link.toAbsent := by
  rw [Timing.linkDown, reselect_xfer]
  exact ⟨rfl, rfl, rfl⟩

/-- The re-evaluation of the selection can change S in the Time Base, and nothing else there. -/
theorem takeSelection_base (t : Timing) (x : Option Source) :
    (t.takeSelection x).base = { t.base with steer := (t.takeSelection x).base.steer } := by
  unfold Timing.takeSelection Timing.enterHoldover
  repeat' split
  all_goals rfl

theorem reselect_base (t : Timing) : t.reselect.base = { t.base with steer := t.reselect.base.steer } :=
  takeSelection_base t _

theorem linkDown_base (t : Timing) : t.linkDown.base = { t.base with steer := t.linkDown.base.steer } := reselect_base _

/-! ## A lost or absent frame -/

/-- The link is lost by this frame: in ACQUIRE by any, in UP by the 64th in a row (R16, R17). -/
def LinkUnit.losesNow (l : LinkUnit) : Prop := l.state = .acquire ∨ (l.state = .up ∧ 64 ≤ l.lost + 1)

/-- A lost or absent frame is an entry to DOWN, or at most counted (R15 to R17). -/
theorem lostEffect_cases (s : State) :
    (s.link.losesNow ∧ ∃ c, lostEffect s = enterDown c s) ∨
    (¬ s.link.losesNow ∧ lostEffect s = s.withLink s.link.lostFrame ∧ s.link.lostFrame.state = s.link.state) := by
  unfold lostEffect LinkUnit.losesNow
  split
  · next e => exact .inr ⟨by simp [e], by rw [lostFrame_down e]; exact ⟨rfl, rfl⟩⟩
  · next e => exact .inl ⟨.inl e, _, rfl⟩
  · next e =>
    split
    · next n => exact .inl ⟨.inr ⟨e, n⟩, _, rfl⟩
    · next n => exact .inr ⟨by simp [e]; omega, by rw [lostFrame_up e n]; exact ⟨rfl, rfl⟩⟩

/-- A loss leaves DOWN with every count and stored field cleared (R17, R33). -/
theorem lostFrame_loses {l : LinkUnit} (h : l.losesNow) : l.lostFrame = l.losing := by
  rcases h with h | ⟨h, n⟩
  · exact lostFrame_acquire h
  · exact lostFrame_last h n

theorem losesNow_state {l : LinkUnit} (h : l.losesNow) : l.state ≠ .down := by
  rcases h with h | ⟨h, -⟩ <;> simp [h]

/-- A lost or absent frame touches of the link unit its state, counts and stored fields, and the count of losses. -/
theorem lostFrame_frame (l : LinkUnit) : l.lostFrame =
    { l with state := l.lostFrame.state, good := l.lostFrame.good, lost := l.lostFrame.lost, rxXoff := l.lostFrame.rxXoff,
             farReq := l.lostFrame.farReq, farForce := l.lostFrame.farForce, farEnd := l.lostFrame.farEnd,
             counters := { l.counters with losses := l.lostFrame.counters.losses } } := by
  unfold LinkUnit.lostFrame LinkUnit.losing LinkUnit.down
  repeat' split
  all_goals rfl

end Sys2Proof.Machine
end

section
/-! PROOF. The lost frame and the absent frame (R12, R13, R15 to R17). -/

namespace Sys2Proof.Machine

/-! ## What a lost or absent frame leaves of the link unit -/

section
variable (l : LinkUnit)
@[simp] theorem lostFrame_absenceDue : l.lostFrame.absenceDue = l.absenceDue := by rw [lostFrame_frame]
@[simp] theorem lostFrame_startsSince : l.lostFrame.startsSince = l.startsSince := by rw [lostFrame_frame]
@[simp] theorem lostFrame_lastSeq : l.lostFrame.lastSeq = l.lastSeq := by rw [lostFrame_frame]
@[simp] theorem lostFrame_received : l.lostFrame.counters.received = l.counters.received := by rw [lostFrame_frame]
@[simp] theorem lostFrame_goodHeaders : l.lostFrame.counters.goodHeaders = l.counters.goodHeaders := by rw [lostFrame_frame]
@[simp] theorem lostFrame_lostFlagged : l.lostFrame.counters.lostFlagged = l.counters.lostFlagged := by rw [lostFrame_frame]
@[simp] theorem lostFrame_lostCrc : l.lostFrame.counters.lostCrc = l.counters.lostCrc := by rw [lostFrame_frame]
@[simp] theorem lostFrame_lostInconsistent : l.lostFrame.counters.lostInconsistent = l.counters.lostInconsistent := by
  rw [lostFrame_frame]
@[simp] theorem lostFrame_absent : l.lostFrame.counters.absent = l.counters.absent := by rw [lostFrame_frame]
end

/-! ## What a lost or absent frame does elsewhere -/

theorem lostEffect_keeps (s : State) (h : ¬ s.link.losesNow) : lostEffect s = s.withLink s.link.lostFrame := by
  rcases lostEffect_cases s with ⟨k, -⟩ | ⟨-, e, -⟩
  · exact absurd k h
  · exact e

theorem lostEffect_loses (s : State) (h : s.link.losesNow) : ∃ c, lostEffect s = enterDown c s := by
  rcases lostEffect_cases s with ⟨-, e⟩ | ⟨k, -⟩
  · exact e
  · exact absurd h k

/-- The link state changes exactly where the frame loses the link (R15 to R17). -/
theorem lostFrame_state (l : LinkUnit) : (l.losesNow ∧ l.lostFrame.state = .down) ∨
    (¬ l.losesNow ∧ l.lostFrame.state = l.state) := by
  by_cases h : l.losesNow
  · exact .inl ⟨h, by rw [lostFrame_loses h]; rfl⟩
  · refine .inr ⟨h, ?_⟩
    unfold LinkUnit.losesNow at h
    cases e : l.state
    case down => rw [lostFrame_down e, e]
    case acquire => exact absurd (.inl e) h
    case up => rw [lostFrame_up e fun n => h (.inr ⟨e, n⟩)]; exact e

theorem lostEffect_ladder (s : State) : (lostEffect s).ladder =
    { s.ladder with rp := (lostEffect s).ladder.rp, dwell := (lostEffect s).ladder.dwell,
                    confirm := (lostEffect s).ladder.confirm, forced := (lostEffect s).ladder.forced } := by
  rcases lostEffect_cases s with ⟨-, c, e⟩ | ⟨-, e, -⟩
  · rw [e, enterDown_ladder]
  · rw [e]
    rfl

theorem lostEffect_base (s : State) :
    (lostEffect s).timing.base = { s.timing.base with steer := (lostEffect s).timing.base.steer } := by
  rcases lostEffect_cases s with ⟨-, c, e⟩ | ⟨-, e, -⟩
  · rw [e, enterDown_timing]
    exact linkDown_base _
  · rw [e]
    rfl

theorem lostEffect_freeIndex (s : State) : (lostEffect s).freeIndex = s.freeIndex := by
  rcases lostEffect_cases s with ⟨-, c, e⟩ | ⟨-, e, -⟩
  · rw [e]
    exact enterDown_freeIndex c s
  · rw [e]
    rfl

/-- Outside a run, or while the link state stays, no packet, queue or step is touched (R157, R159). -/
theorem lostEffect_traffic (s : State) (h : s.test.runState ≠ .running ∨ (lostEffect s).link.state = s.link.state) :
    (lostEffect s).test = s.test ∧ (lostEffect s).tenants = s.tenants := by
  rcases lostEffect_cases s with ⟨k, c, e⟩ | ⟨-, e, -⟩
  · rcases h with h | h
    · obtain ⟨p, d⟩ := enterDown_idle c s h
      rw [e, d]
      exact ⟨rfl, rfl⟩
    · rw [lostEffect_link, lostFrame_loses k] at h
      exact absurd h.symm (losesNow_state k)
  · rw [e]
    exact ⟨rfl, rfl⟩

/-- Outside a run a forced profile stays (R31). -/
theorem lostEffect_forced (s : State) (h : s.test.runState ≠ .running) : (lostEffect s).ladder.forced = s.ladder.forced := by
  rcases lostEffect_cases s with ⟨-, c, e⟩ | ⟨-, e, -⟩
  · obtain ⟨p, d⟩ := enterDown_idle c s h
    rw [e, d]
    rfl
  · rw [e]
    rfl

/-- What the statements say of a frame that loses the link: DOWN with everything cleared, R_p at P0, both transfer lists
empty, LINK ABSENT, and a LINK_PATTERN or TENANT_PATH step ended (R17, R30, R120, R126, R130, R157, R159). -/
structure LinkLost (s t : State) : Prop where
  link : t.link = s.link.losing
  ladder : t.ladder = { s.ladder with rp := 0, dwell := 0, confirm := none, forced := t.ladder.forced }
  exchanges : t.timing.xfer.exchanges = []
  responses : t.timing.xfer.responses = []
  source : t.timing.xfer.link = s.timing.xfer.link.toAbsent
  step : ∀ w, s.test.runState = .running → s.test.work = some w →
    (w.step.body.kind = .linkPattern ∨ w.step.body.kind = .tenantPath) → stepEnded w .fail .linkLost s t

theorem lostEffect_linkLost (s : State) (h : s.link.losesNow) : LinkLost s (lostEffect s) := by
  obtain ⟨c, e⟩ := lostEffect_loses s h
  obtain ⟨exchanges, responses, source⟩ := linkDown_xfer s.timing
  rw [e]
  exact ⟨enterDown_link c s, enterDown_ladder c s, by rw [enterDown_timing, exchanges],
    by rw [enterDown_timing, responses], by rw [enterDown_timing, source], enterDown_stepEnded c s⟩

/-- The choice on a free line changes none of it. -/
theorem LinkLost.announced {s t : State} (h : LinkLost s t) : LinkLost s (announce t) where
  link := (announce_link t).trans h.link
  ladder := by rw [announce_ladder]; exact h.ladder
  exchanges := by rw [announce_timing]; exact h.exchanges
  responses := by rw [announce_timing]; exact h.responses
  source := by rw [announce_timing]; exact h.source
  step w a b k := (h.step w a b k).later (logGrows_of_eq (by simp) (by simp) (by simp) (by simp))

/-! ## An absent frame (R13) -/

/-- The state in which an absent frame found has been registered and counted. -/
def State.registered (s : State) : State :=
  s.withLink { s.link with absenceDue := false, counters := { s.link.counters with absent := bump s.link.counters.absent } }

theorem absentDue_none (s : State) (h : s.link.absenceDue = false) : absentDue s = s := by
  rw [absentDue, h]
  rfl

theorem absentDue_found (s : State) (h : s.link.absenceDue = true) : absentDue s = lostEffect s.registered := by
  rw [absentDue, h]
  rfl

/-- Settles O17: a registered absent frame is a lost frame without a sample. -/
theorem absentFrameEffect : Obligations.AbsentFrameEffect := by
  intro s
  refine ⟨fun h => congrArg (Host.Outcome.next ∘ announce) (absentDue_none s h), fun h => ?_⟩
  have frame := lostEffect_eventFrame s.registered
  have link := lostEffect_link s.registered
  have ladder := lostEffect_ladder s.registered
  have base := lostEffect_base s.registered
  refine ⟨announce (lostEffect s.registered), congrArg (Host.Outcome.next ∘ announce) (absentDue_found s h), ?_⟩
  simp only [announce_link, announce_ladder, announce_role, announce_planner, announce_store, announce_pending,
    announce_timing, announce_test, announce_tenants]
  refine ⟨?_, ?_, ?_, ?_, frame.record, frame.role, frame.planner, frame.store, frame.pending, frame.frames.1,
    frame.frames.2.1, ?_, fun k => lostEffect_traffic s.registered (k.imp id id), fun d => ?_, fun k => ?_, fun u n => ?_⟩
  · rw [link, lostFrame_absenceDue]; rfl
  · rw [link, lostFrame_absent]; rfl
  · rw [link, lostFrame_received]; rfl
  · rw [ladder]; rfl
  · rw [base]; rfl
  · have keeps : ¬ s.registered.link.losesNow := fun k => losesNow_state k d
    have same : s.registered.link.lostFrame = s.registered.link := lostFrame_down d
    rw [lostEffect_keeps _ keeps, same]
    exact ⟨rfl, rfl, rfl⟩
  · have lost := (lostEffect_linkLost s.registered k).announced
    obtain ⟨lk, ld, exchanges, responses, source, step⟩ := lost
    simp only [announce_link, announce_ladder, announce_timing] at lk ld exchanges responses source
    rw [lk, ld, exchanges, responses, source]
    exact ⟨rfl, rfl, rfl, rfl, rfl, rfl, rfl, rfl, rfl, rfl, rfl, rfl, rfl, rfl, fun _ => rfl, step⟩
  · have keeps : ¬ s.registered.link.losesNow := by
      rintro (k | ⟨-, k⟩)
      · exact absurd (u.symm.trans k) (by decide)
      · exact absurd k (by exact Nat.not_le.mpr n)
    have counted : s.registered.link.lostFrame = { s.registered.link with lost := s.link.lost + 1 } :=
      lostFrame_up u (Nat.not_le.mpr n)
    rw [lostEffect_keeps _ keeps, counted]
    exact ⟨u, rfl, rfl, rfl⟩

/-! ## The judgement of a header that is no good one (R12) -/

/-- The control kinds cannot be read: more than two are named, or a named position holds no kind (R12, R183). -/
theorem controlsAt_none (b : List Byte) : controlsAt b = none ↔
    2 < (byteAt b 5).toNat ∨ ((byteAt b 5).toNat = 1 ∧ ((byteAt b 6).toNat = 0 ∨ 4 < (byteAt b 6).toNat)) ∨
    ((byteAt b 5).toNat = 2 ∧ ((byteAt b 6).toNat = 0 ∨ 4 < (byteAt b 6).toNat ∨ (byteAt b 7).toNat = 0 ∨
      4 < (byteAt b 7).toNat)) := by
  have code (n : Nat) : ControlKind.ofCode n = none ↔ n = 0 ∨ 4 < n := by
    unfold ControlKind.ofCode
    split
    · simp
    · simp
    · simp
    · simp
    · next h1 h2 h3 h4 =>
      simp only [true_iff]
      have : n ≠ 1 := h1
      have : n ≠ 2 := h2
      have : n ≠ 3 := h3
      have : n ≠ 4 := h4
      omega
  have two : ((ControlKind.ofCode (byteAt b 6).toNat).bind fun k =>
      (ControlKind.ofCode (byteAt b 7).toNat).map fun l => [k, l]) = none ↔
      ControlKind.ofCode (byteAt b 6).toNat = none ∨ ControlKind.ofCode (byteAt b 7).toNat = none := by
    cases ControlKind.ofCode (byteAt b 6).toNat <;> simp
  unfold controlsAt
  split
  · next h => simp [h]
  · next h => simp [h, code]
  · next h => rw [two, code, code, h]; omega
  · next h0 h1 h2 =>
    simp only [true_iff]
    have : (byteAt b 5).toNat ≠ 0 := h0
    have : (byteAt b 5).toNat ≠ 1 := h1
    have : (byteAt b 5).toNat ≠ 2 := h2
    omega

/-- Control kinds that can be read have the count their byte names, and of two they pass the consistency test exactly
where the first is a timing kind and the second a TEST_REPORT (R12). -/
theorem controlsAt_some (b : List Byte) (c : List ControlKind) (h : controlsAt b = some c) :
    c.length = (byteAt b 5).toNat ∧ (controlsConsistent c = false ↔
      (byteAt b 5).toNat = 2 ∧ (3 < (byteAt b 6).toNat ∨ (byteAt b 7).toNat ≠ 4)) := by
  have kind (n : Nat) (k : ControlKind) (e : ControlKind.ofCode n = some k) : n ≤ 4 ∧ (k.timing = true ↔ n ≤ 3) := by
    unfold ControlKind.ofCode at e
    split at e <;> cases e <;> decide
  unfold controlsAt at h
  split at h
  · next e => cases h; simp [e, controlsConsistent]
  · next e =>
    obtain ⟨k, -, rfl⟩ := Option.map_eq_some_iff.mp h
    simp [e, controlsConsistent]
  · next e =>
    obtain ⟨k, hk, h⟩ := Option.bind_eq_some_iff.mp h
    obtain ⟨l, hl, rfl⟩ := Option.map_eq_some_iff.mp h
    obtain ⟨k4, kt⟩ := kind _ _ hk
    obtain ⟨l4, lt⟩ := kind _ _ hl
    refine ⟨e.symm, ?_⟩
    have c : controlsConsistent [k, l] = true ↔ k.timing = true ∧ ¬ l.timing = true := by
      simp [controlsConsistent]
    rw [← Bool.not_eq_true, c, kt, lt, e]
    omega
  · cases h

/-- A received header is inconsistent exactly by the conditions of R12. -/
theorem headerAt_none (b : List Byte) : headerAt b = none ↔
    (let num (k : Nat) : Nat := (byteAt b k).toNat
     7 < num 2 ∨ 2 < num 5 ∨ (num 5 = 1 ∧ (num 6 = 0 ∨ 4 < num 6)) ∨
      (num 5 = 2 ∧ (num 6 = 0 ∨ 3 < num 6 ∨ num 7 ≠ 4)) ∨ 64 < num 8 ∨
      Config.blocksOf (num 2) < 1 + num 5 + num 8 + num 12 + num 13 + num 14 + num 15) := by
  dsimp only
  cases h : controlsAt b with
  | none =>
    have k := (controlsAt_none b).mp h
    simp only [headerAt, h, true_iff]
    omega
  | some c =>
    obtain ⟨len, inconsistent⟩ := controlsAt_some b c h
    have readable := mt (controlsAt_none b).mpr (by simp [h])
    simp only [headerAt, h, ite_eq_right_iff, reduceCtorEq, imp_false, Quad.sum, len]
    have sum : 1 + (byteAt b 5).toNat + (byteAt b 8).toNat + ((byteAt b 12).toNat + (byteAt b 13).toNat +
        (byteAt b 14).toNat + (byteAt b 15).toNat) = 1 + (byteAt b 5).toNat + (byteAt b 8).toNat + (byteAt b 12).toNat +
        (byteAt b 13).toNat + (byteAt b 14).toNat + (byteAt b 15).toNat := by omega
    rw [sum]
    cases cc : controlsConsistent c
    · have k := inconsistent.mp cc
      simp only [Bool.false_eq_true, false_and, and_false, not_false_eq_true, true_iff]
      omega
    · have k := mt inconsistent.mpr (by simp [cc])
      simp only [true_and]
      omega

/-! ## A lost frame (R12) -/

theorem judgeHeader_nil (r : FrameRecord) (h : r.positions = []) : judgeHeader r = .flagged := by
  simp [judgeHeader, h]

theorem judgeHeader_bad (r : FrameRecord) (p : Position) (ps : List Position) (h : r.positions = p :: ps)
    (b : p.bad = true) : judgeHeader r = .flagged := by
  simp [judgeHeader, h, b]

theorem judgeHeader_crc (r : FrameRecord) (p : Position) (ps : List Position) (h : r.positions = p :: ps)
    (b : p.bad = false) (c : headerCheckPasses p.bytes = false) : judgeHeader r = .crc := by
  simp [judgeHeader, h, b, c]

theorem judgeHeader_inconsistent (r : FrameRecord) (p : Position) (ps : List Position) (h : r.positions = p :: ps)
    (b : p.bad = false) (c : headerCheckPasses p.bytes = true) (i : headerAt p.bytes = none) :
    judgeHeader r = .inconsistent := by
  simp [judgeHeader, h, b, c, i]

theorem judgeHeader_good (r : FrameRecord) (p : Position) (ps : List Position) (h : r.positions = p :: ps)
    (b : p.bad = false) (c : headerCheckPasses p.bytes = true) (x : Header) (i : headerAt p.bytes = some x) :
    judgeHeader r = .good x := by
  simp [judgeHeader, h, b, c, i]

/-- The ladder after a sample reads the ladder and the profile last requested (R27, R36). -/
theorem giveSample_ladder (x : Nat) (s : State) : (giveSample x s).ladder = (s.ladder.sample s.link.reqSent x).1 :=
  (foldl_onlyNotices _ (fun s _ => raiseProfile_onlyNotices s _) _ (s.withLadder _)).ladder

/-- A sample touches the ladder and raises notices, and nothing else. -/
theorem giveSample_eq (x : Nat) (s : State) : ∃ p, giveSample x s = (s.withLadder (giveSample x s).ladder).withPort p := by
  rw [giveSample_ladder]
  exact ⟨_, (foldl_onlyNotices _ (fun s _ => raiseProfile_onlyNotices s _) _ (s.withLadder _)).eq⟩

theorem sample_lastSample (l : Ladder) (q x : Nat) : (l.sample q x).1.lastSample = some x := by
  unfold Ladder.sample Ladder.judgeDown Ladder.judgeUp
  dsimp only
  repeat' split
  all_goals rfl

theorem sample_forced (l : Ladder) (q x : Nat) : (l.sample q x).1.forced = l.forced := by
  unfold Ladder.sample Ladder.judgeDown Ladder.judgeUp
  dsimp only
  repeat' split
  all_goals rfl

theorem taken_losses (c : LinkCounters) (j : HeaderJudgement) : (c.taken j).losses = c.losses := by cases j <;> rfl

/-- The state in which a lost frame has its effect on the link: counted, and its sample of 0 judged (log entry 13). -/
def State.lostSampled (s : State) (r : FrameRecord) : State := giveSample 0 (s.recordTaken r)

theorem lostSampled_eq (s : State) (r : FrameRecord) : ∃ p, s.lostSampled r =
    ((s.recordTaken r).withLadder (giveSample 0 s).ladder).withPort p := by
  obtain ⟨p, h⟩ := giveSample_eq 0 (s.recordTaken r)
  refine ⟨p, h.trans ?_⟩
  rw [giveSample_ladder, giveSample_ladder]
  rfl

/-- Settles O15: a lost frame is counted under its condition, gives a sample of 0, and then has the effect of
`lostEffect`. -/
theorem lostFrameEffect : Obligations.LostFrameEffect := by
  intro s r timing num flagged failed inconsistent
  refine ⟨fun h => ?_, fun role quiet bad => ?_⟩
  · exact congrArg Host.Outcome.next (congrArg announce (if_pos h))
  have asFlagged : flagged → judgeHeader r = .flagged := by
    rintro (h | ⟨p, ps, h, b⟩)
    · exact judgeHeader_nil r h
    · exact judgeHeader_bad r p ps h b
  have asFailed : failed → judgeHeader r = .crc := by
    rintro ⟨p, ps, h, b, c⟩
    exact judgeHeader_crc r p ps h b c
  have asInconsistent : inconsistent → judgeHeader r = .inconsistent := by
    rintro ⟨p, ps, h, b, c, i⟩
    exact judgeHeader_inconsistent r p ps h b c ((headerAt_none _).mpr i)
  have notGood (x : Header) : judgeHeader r ≠ .good x := by
    rcases bad with b | b | b
    · rw [asFlagged b]; exact nofun
    · rw [asFailed b]; exact nofun
    · rw [asInconsistent b]; exact nofun
  have run : exec (.receivedFrameRecord r) s = .next (announce (lostEffect (s.lostSampled r))) := by
    refine congrArg Host.Outcome.next (congrArg announce ?_)
    rw [if_neg role, settle_quiet s quiet, takeFrame_lost r s notGood]
    rfl
  obtain ⟨p, sampled⟩ := lostSampled_eq s r
  have vlink : (s.lostSampled r).link = { s.link with startsSince := 0, counters := s.link.counters.taken (judgeHeader r) } := by
    rw [sampled]; rfl
  have vladder : (s.lostSampled r).ladder = (giveSample 0 s).ladder := by rw [sampled]; rfl
  have vtiming : (s.lostSampled r).timing = timing := by rw [sampled]; rfl
  have vtest : (s.lostSampled r).test = s.test := by rw [sampled]; rfl
  have vtenants : (s.lostSampled r).tenants = s.tenants := by rw [sampled]; rfl
  have vrest : (s.lostSampled r).role = s.role ∧ (s.lostSampled r).planner = s.planner ∧
      (s.lostSampled r).store = s.store ∧ (s.lostSampled r).pending = s.pending ∧
      (s.lostSampled r).freeIndex = s.freeIndex := by rw [sampled]; exact ⟨rfl, rfl, rfl, rfl, rfl⟩
  obtain ⟨vrole, vplanner, vstore, vpending, vfree⟩ := vrest
  have frame := lostEffect_eventFrame (s.lostSampled r)
  have link := lostEffect_link (s.lostSampled r)
  have ladder := lostEffect_ladder (s.lostSampled r)
  have base := lostEffect_base (s.lostSampled r)
  have traffic := lostEffect_traffic (s.lostSampled r)
  have forced := lostEffect_forced (s.lostSampled r)
  have keeps := lostEffect_keeps (s.lostSampled r)
  have loses := fun h => (lostEffect_linkLost (s.lostSampled r) h).announced
  have losesIff : (s.lostSampled r).link.losesNow ↔ s.link.losesNow := by rw [vlink]; rfl
  have states := lostFrame_state (s.lostSampled r).link
  have free := lostEffect_freeIndex (s.lostSampled r)
  rw [← link] at states
  generalize s.lostSampled r = v at *
  refine ⟨announce (lostEffect v), run, ?_⟩
  have taken : ∀ j, judgeHeader r = j → v.link.counters = s.link.counters.taken j := fun j h => by rw [vlink, h]
  simp only [announce_link, announce_ladder, announce_role, announce_planner, announce_store, announce_pending,
    announce_timing, announce_test, announce_tenants, announce_freeIndex, link, lostFrame_received, lostFrame_goodHeaders,
    lostFrame_lostFlagged, lostFrame_lostCrc, lostFrame_lostInconsistent, lostFrame_startsSince, lostFrame_lastSeq]
  have sampleLast : (giveSample 0 s).ladder.lastSample = some 0 := by
    rw [giveSample_ladder]; exact sample_lastSample _ _ _
  have sampleForced : (giveSample 0 s).ladder.forced = s.ladder.forced := by
    rw [giveSample_ladder]; exact sample_forced _ _ _
  have lastSample : (lostEffect v).ladder.lastSample = v.ladder.lastSample := by rw [ladder]
  have record : (lostEffect v).ladder.record = v.ladder.record := by rw [ladder]
  have counters : (lostEffect v).ladder.counters = v.ladder.counters := by rw [ladder]
  have markers : (lostEffect v).timing.base.markers = v.timing.base.markers := by rw [base]
  have wentDown : v.link.lostFrame.state = .down → s.link.state ≠ .down → v.link.losesNow := fun k n => by
    rcases states with ⟨l, -⟩ | ⟨-, e⟩
    · exact l
    · rw [link, k, vlink] at e
      exact absurd e.symm n
  have stays : s.link.state = .down ∨ v.link.lostFrame.state = .up → ¬ v.link.losesNow := by
    rintro (d | u) l
    · exact losesNow_state (losesIff.mp l) d
    · rw [lostFrame_loses l] at u
      cases u
  have vstate : v.link.state = s.link.state := by rw [vlink]
  refine ⟨?_, fun h => ?_, fun h => ?_, fun h => ?_, ?_, lastSample.trans (vladder ▸ sampleLast), record.trans (vladder ▸ rfl),
    counters.trans (vladder ▸ rfl), fun down was => ?_, fun k => ?_, by rw [vlink], by rw [vlink],
    markers.trans (by rw [vtiming]), frame.role.trans vrole, frame.planner.trans vplanner, frame.store.trans vstore,
    frame.pending.trans vpending, ?_, ?_, free.trans vfree, fun k => ?_, fun d => ?_, fun k => ?_, fun u n => ?_⟩
  · cases e : judgeHeader r with
    | good x => exact absurd e (notGood x)
    | flagged => rw [taken _ e]; rfl
    | crc => rw [taken _ e]; rfl
    | inconsistent => rw [taken _ e]; rfl
  · rw [taken _ (asFlagged h)]; exact ⟨rfl, rfl, rfl⟩
  · rw [taken _ (asFailed h)]; exact ⟨rfl, rfl, rfl⟩
  · rw [taken _ (asInconsistent h)]; exact ⟨rfl, rfl, rfl⟩
  · cases e : judgeHeader r with
    | good x => exact absurd e (notGood x)
    | flagged => rw [taken _ e]; rfl
    | crc => rw [taken _ e]; rfl
    | inconsistent => rw [taken _ e]; rfl
  · have lost := (loses (wentDown down was)).ladder
    simp only [announce_ladder] at lost
    exact ⟨lost.trans (by rw [vladder]), fun q => (forced (vtest ▸ q)).trans (vladder ▸ sampleForced)⟩
  · rw [keeps (stays k)]
    exact vladder
  · rw [lostFrame_frame, vlink]
  · rw [lostFrame_frame, vlink]
  · have := traffic (k.imp (fun q => vtest ▸ q) fun e => link ▸ e.trans vstate.symm)
    rw [vtest, vtenants] at this
    exact this
  · rw [keeps (stays (.inl d)), lostFrame_down (vstate.trans d)]
    exact ⟨vstate.trans d, by rw [vlink], by rw [vlink], vtiming⟩
  · have lost := loses (losesIff.mpr k)
    obtain ⟨lk, ld, exchanges, responses, source, step⟩ := lost
    simp only [announce_link, announce_ladder, announce_timing, link, vtiming] at lk ld exchanges responses source
    rw [lk, ld, exchanges, responses, source]
    refine ⟨rfl, rfl, rfl, rfl, rfl, rfl, rfl, ?_, rfl, rfl, rfl, rfl, rfl, rfl, fun _ => rfl,
      fun w q hw kind => (step w (vtest ▸ q) (vtest ▸ hw) kind).before vtest⟩
    simp only [LinkUnit.losing, vlink, taken_losses]
  · have e : v.link.lostFrame = { v.link with lost := v.link.lost + 1 } := lostFrame_up (vstate.trans u) (by rw [vlink]; exact Nat.not_le.mpr n)
    rw [keeps (stays (.inr (by rw [e]; exact vstate.trans u))), e, vlink]
    exact ⟨u, rfl, rfl, rfl, rfl, vtiming⟩

end Sys2Proof.Machine
end

section
/-! PROOF. COMMAND-WARM (R23, R37, R59, R60, R81, R97, R135, R150, R165, R174, R176). -/

namespace Sys2Proof.Machine

/-! ## The selection without LINK (R112, R141) -/

/-- The choice among the two pulse inputs (R112). -/
def Timing.pulseSelection (t : Timing) : Option Source :=
  (betterSource (betterSource none (t.candidate .gnss) .gnss) (t.candidate .ext) .ext).map Prod.snd

/-- Where LINK is no candidate, the choice is among the pulse inputs. -/
theorem selection_of_no_link (t : Timing) (h : t.candidate .link = none) : t.selection = t.pulseSelection := by
  unfold Timing.selection Timing.pulseSelection
  rw [h]
  cases betterSource (betterSource none (t.candidate .gnss) .gnss) (t.candidate .ext) .ext <;> rfl

/-- A choice between LINK and others that does not fall on LINK is the one made without it. -/
theorem betterSource_not_link (b : Option (Nat × Source)) (l : Option Nat)
    (h : (betterSource b l .link).map Prod.snd ≠ some .link) :
    (betterSource b l .link).map Prod.snd = b.map Prod.snd := by
  cases l with
  | none => rfl
  | some l =>
    cases b with
    | none => exact absurd rfl h
    | some p =>
      unfold betterSource at h ⊢
      dsimp only at h ⊢
      split
      · next k => exact absurd (by rw [if_pos k]; rfl) h
      · rfl

/-- A choice that is not LINK is the choice among the pulse inputs. -/
theorem selection_of_not_link (t : Timing) (h : t.selection ≠ some .link) : t.selection = t.pulseSelection :=
  betterSource_not_link _ _ h

theorem pulseSelection_ne_link (t : Timing) : t.pulseSelection ≠ some .link := by
  unfold Timing.pulseSelection
  cases t.candidate .gnss <;> cases t.candidate .ext <;> simp only [betterSource]
  case some.some a b => split <;> simp
  all_goals simp

/-- Where neither pulse input is a candidate, none is chosen. -/
theorem pulseSelection_none (t : Timing) (h : ∀ y, y ≠ .link → t.candidate y = none) : t.pulseSelection = none := by
  rw [Timing.pulseSelection, h .gnss (by simp), h .ext (by simp)]
  rfl

/-- What is selected after a re-evaluation is the choice of R112 (R113). -/
theorem reselect_selected (t : Timing) : t.reselect.servo.selected = t.selection := by
  unfold Timing.reselect Timing.takeSelection Timing.enterHoldover Timing.rejudge
  dsimp only
  split
  · next h => exact h.symm
  · cases t.servo.selected <;> cases t.selection <;> dsimp only
    all_goals split <;> rfl

/-- A re-evaluation that finds the source held re-judges the class and nothing else (R141, R146). -/
theorem reselect_same (t : Timing) (h : t.selection = t.servo.selected) : t.reselect = t.rejudge := by
  unfold Timing.reselect Timing.takeSelection
  rw [if_pos h]

/-- A re-evaluation keeps F, F_hold, the ever-locked mark and the last offset (R141). -/
theorem reselect_integral (t : Timing) : t.reselect.servo.f = t.servo.f ∧ t.reselect.servo.fHold = t.servo.fHold ∧
    t.reselect.servo.everLocked = t.servo.everLocked ∧ t.reselect.servo.lastE = t.servo.lastE := by
  unfold Timing.reselect Timing.takeSelection Timing.enterHoldover Timing.rejudge
  dsimp only
  repeat' split
  all_goals exact ⟨rfl, rfl, rfl, rfl⟩

/-- The source held is lost with no other to take: HOLDOVER with S from F_hold where the Servo has locked, else FREERUN
(R141). -/
theorem reselect_lost (t : Timing) (x : Source) (h : t.servo.selected = some x) (n : t.selection = none) :
    (t.servo.everLocked = true → t.reselect = t.enterHoldover.rejudge) ∧
    (t.servo.everLocked = false → t.reselect = Timing.rejudge { t with servo := { t.servo with
      state := .freerun, selected := none, lock := 0, unlock := 0, lockedTime := 0 } }) := by
  unfold Timing.reselect Timing.takeSelection
  rw [n, h, if_neg (by simp)]
  dsimp only
  exact ⟨fun e => by rw [if_pos e], fun e => by rw [if_neg (by simp [e])]⟩

/-- Another source in the place of the one held changes what is selected and the class (R141). -/
theorem reselect_changed (t : Timing) (x y : Source) (h : t.servo.selected = some x) (n : t.selection = some y) :
    t.reselect = Timing.rejudge { t with servo := { t.servo with selected := some y } } := by
  unfold Timing.reselect Timing.takeSelection
  rw [n, h]
  split
  · next e =>
    rw [e, ← h]
  · rfl

/-! ## The timing blocks at COMMAND-WARM (R135, R150) -/

/-- The timing blocks at COMMAND-WARM before the selection is re-evaluated. -/
def Timing.emptied (t : Timing) : Timing :=
  { t with xfer := { t.xfer.abandonExchanges.abandonResponses with countdown := 0, link := t.xfer.link.warm } }

theorem warm_eq (t : Timing) : t.warm = t.emptied.reselect := rfl

theorem emptied_no_link (t : Timing) : t.emptied.candidate .link = none := rfl

theorem emptied_pulseSelection (t : Timing) : t.emptied.pulseSelection = t.pulseSelection := rfl

theorem emptied_selection (t : Timing) : t.emptied.selection = t.pulseSelection :=
  (selection_of_no_link _ (emptied_no_link t)).trans (emptied_pulseSelection t)

/-- The lists are empty, the countdown is 0 and LINK is ABSENT without a result (R120, R126, R135). -/
theorem warm_xfer (t : Timing) : t.warm.xfer = t.emptied.xfer := reselect_xfer _

theorem warm_base (t : Timing) : t.warm.base = { t.base with steer := t.warm.base.steer } := reselect_base _

/-- What is selected after COMMAND-WARM is the choice of R112 then. -/
theorem warm_selected (t : Timing) : t.warm.servo.selected = t.warm.selection := by
  have kept : t.warm.selection = t.pulseSelection := by
    have base := warm_base t
    have link : t.warm.candidate .link = none := by
      rw [Timing.candidate, Timing.sourceState, warm_xfer]
      rfl
    rw [selection_of_no_link _ link]
    unfold Timing.pulseSelection Timing.candidate Timing.sourceState Timing.level
    rw [base]
  rw [kept, warm_eq, reselect_selected, emptied_selection]

/-- Where LINK was not the source held, the Servo and S are kept whole (R135, R150). -/
theorem warm_keeps (s : State) (h : s.timing.xfer.link.state = .absent ∨ s.timing.servo.selected ≠ some .link)
    (inv : s.timingInv) (limit : s.timing.limitReached = false) :
    s.timing.warm.servo = s.timing.servo ∧ s.timing.warm.base = s.timing.base := by
  obtain ⟨selected, -, cls⟩ := inv
  have selection : s.timing.selection = s.timing.pulseSelection := by
    rcases h with h | h
    · exact selection_of_no_link _ (by rw [Timing.candidate, Timing.sourceState, h]; rfl)
    · exact selection_of_not_link _ (selected ▸ h)
  have same : s.timing.emptied.selection = s.timing.emptied.servo.selected := by
    rw [emptied_selection, ← selection]
    exact selected.symm
  have judged : judgedClass s.timing.servo s.timing.xfer.link.hubClass s.timing.base.record.holdoverLimit =
      s.timing.servo.cls := by
    rcases cls with c | c
    · rw [limit] at c
      cases c
    · exact c.symm
  rw [warm_eq, reselect_same _ same]
  refine ⟨?_, rfl⟩
  change ({ s.timing.servo with
    cls := (judgedClass s.timing.servo s.timing.xfer.link.hubClass s.timing.base.record.holdoverLimit) } : Servo) = _
  rw [judged]

/-- Where LINK was the source held, the Servo goes to HOLDOVER, to FREERUN or to another source (R141). -/
theorem warm_unlinked (t : Timing) (h : t.servo.selected = some .link) :
    ((∀ y, y ≠ .link → t.candidate y = none) →
      (t.servo.everLocked = true → t.warm.servo.state = .holdover ∧ t.warm.servo.elapsed = 0 ∧
        t.warm.base.steer = t.servo.fHold ∧ t.warm.servo.counters.holdoverEntries = bump t.servo.counters.holdoverEntries) ∧
      (t.servo.everLocked = false → t.warm.servo.state = .freerun ∧ t.warm.base.steer = t.base.steer ∧
        t.warm.servo.counters = t.servo.counters)) ∧
    ∀ y, t.warm.servo.selected = some y → y ≠ .link ∧ t.warm.servo.state = t.servo.state ∧
      t.warm.servo.lock = t.servo.lock ∧ t.warm.servo.unlock = t.servo.unlock ∧
      t.warm.servo.lockedTime = t.servo.lockedTime ∧ t.warm.base.steer = t.base.steer ∧
      t.warm.servo.counters = t.servo.counters := by
  refine ⟨fun none => ?_, fun y hy => ?_⟩
  · have lost := reselect_lost t.emptied .link h ((emptied_selection t).trans (pulseSelection_none t none))
    refine ⟨fun e => ?_, fun e => ?_⟩
    · rw [warm_eq, lost.1 e]
      exact ⟨rfl, rfl, rfl, rfl⟩
    · rw [warm_eq, lost.2 e]
      exact ⟨rfl, rfl, rfl⟩
  · rw [warm_eq, reselect_selected, emptied_selection] at hy
    have other : y ≠ .link := by
      rintro rfl
      exact pulseSelection_ne_link t hy
    rw [warm_eq, reselect_changed t.emptied .link y h ((emptied_selection t).trans hy)]
    exact ⟨other, rfl, rfl, rfl, rfl, rfl, rfl⟩

/-! ## A run aborted after every queue has been emptied (R165) -/

/-- A unit with an empty queue and its pause released, not DRAINING, whose halt level is none of 0. -/
structure Emptied (u : TenantUnit) : Prop where
  queue : u.queue = []
  paused : u.paused = false
  state : u.state ≠ .draining
  halt : u.record.ingressHalt ≠ 0

/-- The pause of an empty queue stays released (R53). -/
theorem Emptied.judgePause {u : TenantUnit} (h : Emptied u) : u.judgePause = u := by
  have low : hysteresis u.record.ingressHalt u.record.ingressResume (occupancy u.queue) u.paused = false := by
    rw [h.queue, h.paused]
    simp [hysteresis, occupancy, h.halt]
  unfold TenantUnit.judgePause
  split
  · rw [low, h.paused]
    obtain ⟨queue, paused, state, halt⟩ := h
    cases u
    simp_all [bumpIf]
  · rfl

theorem Emptied.removeTest {u : TenantUnit} (h : Emptied u) (r : BitVec 16) (k : Nat) : (u.removeTest r k).1 = u := by
  have same : ({ u with queue := u.queue.filter fun e => !e.unstartedOf r k } : TenantUnit) = u := by
    rw [h.queue, List.filter_nil, ← h.queue]
  unfold TenantUnit.removeTest
  dsimp only
  rw [same, h.judgePause]

theorem Emptied.drainIfEmpty {s : State} {x : Tenant} (h : Emptied (s.tenant x)) : drainIfEmpty x s = s :=
  if_neg fun k => h.state k.1

/-- The end of a step finds no entry to remove where every queue is empty. -/
theorem removeStepEntries_emptied (w : Working) (s : State) (h : ∀ x, Emptied (s.tenant x)) :
    (removeStepEntries w s).tenants = s.tenants ∧ (removeStepEntries w s).ladder = s.ladder := by
  unfold removeStepEntries
  split
  · next x _ _ _ _ _ _ _ =>
    have same : s.withTenant x ((s.tenant x).removeTest s.test.runId w.index).1 = s := by
      rw [(h x).removeTest]
      cases x <;> rfl
    dsimp only
    rw [same, Emptied.drainIfEmpty (by exact h x)]
    exact ⟨rfl, rfl⟩
  · exact ⟨rfl, rfl⟩

theorem closeStep_emptied (w : Working) (v : Verdict) (r : EndReason) (s : State) (h : ∀ x, Emptied (s.tenant x))
    (f : s.ladder.forced = none) :
    (closeStep w v r s).tenants = s.tenants ∧ (closeStep w v r s).ladder = s.ladder := by
  have force : removeForce s = s := by rw [removeForce, f]; rfl
  have e := raiseTest_onlyNotices ((removeStepEntries w s).withTest { (removeStepEntries w s).test.log w v r with work := none })
    .stepEnd
  unfold closeStep
  dsimp only
  rw [force, ite_self, e.tenants, e.ladder]
  exact removeStepEntries_emptied w s h

/-- A run aborted by the reset touches no tenant and no ladder value: the queues are empty and the force is gone. -/
theorem abortByReset_emptied (s : State) (h : ∀ x, Emptied (s.tenant x)) (f : s.ladder.forced = none) :
    (abortByReset s).tenants = s.tenants ∧ (abortByReset s).ladder = s.ladder := by
  have finish (u : State) : (finishRun true u).tenants = u.tenants ∧ (finishRun true u).ladder = u.ladder :=
    ⟨(raiseTest_onlyNotices _ _).tenants, (raiseTest_onlyNotices _ _).ladder⟩
  unfold abortByReset
  split
  · unfold abortRun
    split
    · exact finish s
    · next w _ =>
      obtain ⟨tenants, ladder⟩ := closeStep_emptied w .aborted .warmReset s h f
      exact ⟨(finish _).1.trans tenants, (finish _).2.trans ladder⟩
  · exact ⟨rfl, rfl⟩

/-- Steps logged as SKIPPED leave the acceptance record (R165). -/
theorem skipSteps_acceptance (reason : EndReason) (n : Nat) :
    ∀ i t, (skipSteps reason n i t).acceptance = t.acceptance := by
  induction n with
  | zero => exact fun _ _ => rfl
  | succ n ih =>
    intro i t
    unfold skipSteps
    split
    · exact ih _ _
    · exact (ih _ _).trans rfl

/-- A run in progress is DONE after the abort, and its acceptance is kept (R165). -/
theorem abortByReset_run (s : State) : (abortByReset s).test.acceptance = s.test.acceptance ∧
    (abortByReset s).test.runState = if s.test.runState = .running then .done else s.test.runState := by
  unfold abortByReset
  split
  · unfold abortRun
    split
    · rw [finishRun_test]
      exact ⟨by simp, rfl⟩
    · next w _ =>
      obtain ⟨-, -, -, -, acceptance⟩ := closeStep_log w .aborted .warmReset s
      rw [finishRun_test]
      refine ⟨?_, rfl⟩
      simp only [Bool.not_true, Bool.and_false, Bool.false_eq_true, if_false]
      exact (skipSteps_acceptance _ _ _ _).trans acceptance
  · exact ⟨rfl, rfl⟩

/-! ## COMMAND-WARM -/

/-- Every Tenant Unit after the blocks have been emptied is its warm value. -/
@[simp] theorem warmNoticed_tenant (s : State) (x : Tenant) : (warmNoticed s).tenant x = (s.tenant x).warm := by
  rw [State.tenant, (warmNoticed_onlyNotices s).tenants]
  simp [warmBlocks, State.tenant]

/-- No queue holds an entry, no pause is asserted, and no tenant drains (R59, R60). -/
theorem warmNoticed_emptied (s : State) (h : s.recordsInv) (x : Tenant) : Emptied ((warmNoticed s).tenant x) := by
  obtain ⟨⟨-, tenants, -⟩, -⟩ := h
  have range : (s.tenant x).record.inRange = true := by
    have := tenants x
    simpa [State.settings, State.tenant] using this
  have halt : (s.tenant x).record.ingressHalt ≠ 0 := by
    simp only [TenantRecord.inRange, TenantRecord.ok, Bool.and_eq_true, bne_iff_ne] at range
    tauto
  rw [warmNoticed_tenant]
  refine ⟨rfl, rfl, ?_, halt⟩
  simp only [TenantUnit.warm]
  split
  · simp
  · assumption

/-- What the reset leaves: the blocks at their warm values, and of the Test Controller what the abort leaves. -/
theorem warmReset_blocks (s : State) (h : s.recordsInv) :
    (warmReset s).role = s.role ∧ (warmReset s).store = s.store ∧ (warmReset s).pending = s.pending ∧
    (warmReset s).link = s.link.warm ∧ (warmReset s).ladder = s.ladder.warm ∧ (warmReset s).planner = s.planner.warm ∧
    (∀ x, (warmReset s).tenant x = (s.tenant x).warm) ∧ (warmReset s).timing = s.timing.warm := by
  have noticed := warmNoticed_onlyNotices s
  have frame := abortByReset_stepFrame (warmNoticed s)
  obtain ⟨tenants, ladder⟩ := abortByReset_emptied (warmNoticed s) (warmNoticed_emptied s h) (by rw [noticed.ladder]; rfl)
  rw [warmReset_eq]
  refine ⟨frame.role.trans noticed.role, frame.store.trans noticed.store, frame.pending.trans noticed.pending,
    frame.link.trans noticed.link, ladder.trans noticed.ladder, frame.planner.trans noticed.planner, fun x => ?_,
    frame.timing.trans noticed.timing⟩
  have e : (abortByReset (warmNoticed s)).tenant x = (warmNoticed s).tenant x := by rw [State.tenant, tenants]; rfl
  exact e.trans (warmNoticed_tenant s x)

/-- The Test Controller after the reset: its tables are kept, a run in progress is DONE, and neither a check record nor a
report stands (R165). -/
theorem warmReset_test (s : State) : (warmReset s).test.acceptance = s.test.acceptance ∧
    (warmReset s).test.runId = s.test.runId ∧ (warmReset s).test.steps = s.test.steps ∧
    (warmReset s).test.patterns = s.test.patterns ∧ (warmReset s).test.check = none ∧ (warmReset s).test.report = none ∧
    (warmReset s).test.runState = if s.test.runState = .running then .done else s.test.runState := by
  have noticed := (warmNoticed_onlyNotices s).test
  have tables := (abortByReset_runFrame (warmNoticed s)).tables
  obtain ⟨acceptance, runState⟩ := abortByReset_run (warmNoticed s)
  rw [noticed] at tables acceptance runState
  rw [warmReset_eq]
  exact ⟨acceptance, tables.runId, tables.steps, tables.patterns, rfl, rfl, runState⟩

/-- The BOOT notice begins on the line, and every other notice of the reset waits behind it (R172, R174). -/
theorem warmReset_port (s : State) :
    PortNoticed (s.port.booted .commandWarm s.warmNotice) (warmReset s).port := by
  rw [warmReset_eq]
  exact (warmNoticed_onlyNotices s).port.trans (abortByReset_stepFrame (warmNoticed s)).port

/-- COMMAND-WARM takes place where a RESET WARM has been answered (R174), and nothing more is announced. -/
theorem exec_warmReset (s : State) (pending : s.port.resetPending = some .warm) (reply : s.port.reply = none) :
    exec .commandWarmReset s = .next (warmReset s) := by
  have due : s.port.resetDue = some .warm := by simp [Port.resetDue, pending, reply]
  have e : commandResetOf .warm s = warmReset s := by rw [commandResetOf, if_pos due, commandReset]
  have busy : announce (warmReset s) = warmReset s :=
    announce_busy _ ((warmReset_port s).busy (booted_busy s.port .commandWarm s.warmNotice))
  exact congrArg Host.Outcome.next ((congrArg announce e).trans busy)

/-- Settles O4: the blocks at their warm values, the run aborted over emptied queues. -/
theorem warmResetKeepsSettingsAndEmptiesQueues : Obligations.WarmResetKeepsSettingsAndEmptiesQueues := by
  intro s records pending reply
  obtain ⟨role, store, waiting, link, ladder, planner, tenants, timing⟩ := warmReset_blocks s records
  have port := warmReset_port s
  refine ⟨warmReset s, exec_warmReset s pending reply, role, store, waiting, ?_, ?_, ?_, fun x => ?_, ?_, ?_, ?_, ?_, ?_,
    warmReset_test s, ?_⟩
  · rw [link]
    exact ⟨rfl, rfl, rfl, rfl, rfl, rfl, rfl, rfl, rfl, rfl, rfl, rfl⟩
  · rw [ladder]
    rfl
  · rw [planner]
    rfl
  · rw [tenants x]
    exact ⟨rfl, rfl, rfl, rfl, rfl, rfl, rfl, rfl, rfl, rfl, rfl, rfl⟩
  · rw [timing]
    exact warm_base s.timing
  · rw [timing, warm_xfer]
    exact ⟨rfl, rfl, rfl, rfl, rfl, rfl, rfl⟩
  · obtain ⟨f, fHold, everLocked, lastE⟩ := reselect_integral s.timing.emptied
    rw [timing]
    exact ⟨f, fHold, everLocked, lastE, warm_selected s.timing⟩
  · rw [timing]
    exact warm_keeps s
  · rw [timing]
    exact warm_unlinked s.timing
  · rw [port.eq, port.held (booted_busy s.port .commandWarm s.warmNotice)]
    exact ⟨rfl, rfl, rfl, rfl, rfl, rfl, rfl⟩

end Sys2Proof.Machine
end

section
/-! SUPPORT. A frame start (R3, R5): the state it begins from, and what it leaves of each unit. -/

namespace Sys2Proof.Machine

/-! ## The state a frame starts from -/

/-- The state on a frame boundary with the counts of the frame start made (R119, R126, R130). -/
def State.ticked (s : State) : State := s.withTiming (s.timing.frameTick s.role s.link.frameCounter)

@[simp] theorem ticked_role (s : State) : s.ticked.role = s.role := rfl
@[simp] theorem ticked_link (s : State) : s.ticked.link = s.link := rfl
@[simp] theorem ticked_ladder (s : State) : s.ticked.ladder = s.ladder := rfl
@[simp] theorem ticked_planner (s : State) : s.ticked.planner = s.planner := rfl
@[simp] theorem ticked_tenants (s : State) : s.ticked.tenants = s.tenants := rfl
@[simp] theorem ticked_tenant (s : State) (x : Tenant) : s.ticked.tenant x = s.tenant x := rfl
@[simp] theorem ticked_test (s : State) : s.ticked.test = s.test := rfl
@[simp] theorem ticked_base (s : State) : s.ticked.timing.base = s.timing.base := frameTick_base _ _ _

theorem frameTick_servo (t : Timing) (r : Option Role) (n : BitVec 32) : (t.frameTick r n).servo = t.servo := by
  unfold Timing.frameTick
  split <;> rfl

@[simp] theorem ticked_servo (s : State) : s.ticked.timing.servo = s.timing.servo := frameTick_servo _ _ _

/-- On a boundary whose frame has not started, with nothing due, the frame starts from the state as it stands. -/
theorem frameStart_here (s : State) (role : s.role ≠ none) (here : s.timing.base.frameHere = true)
    (second : s.timing.base.secondHere = false) (quiet : s.quiet = true) : frameStart s = sendFrame s.ticked := by
  have first : s.timing.base.secondFirst = false := by rw [TimeBase.secondFirst, second, here]; rfl
  have reach : reachFrame s = s.ticked := by
    simp only [reachFrame, first, Bool.false_eq_true, if_false, toFrame_here here, advanceBy_zero, State.withBase_self,
      settle_quiet s quiet]
    rfl
  rw [frameStart, if_neg role, reach]

theorem frameStart_none (s : State) (role : s.role = none) : frameStart s = s := if_pos role

theorem frameStart_role (s : State) (role : s.role ≠ none) : frameStart s = sendFrame (reachFrame s) := if_neg role

/-! ## Control blocks placed -/

/-- The state with the control blocks of a plan placed (R119, R121, R124, R164). -/
def State.placed (s : State) (c : List ControlKind) : State := c.foldl placeControl s

/-- Control blocks placed touch the Time Transfer Unit, and the pending report with its count. -/
structure Placed (s t : State) : Prop where
  eq : t = (s.withTiming { s.timing with xfer := t.timing.xfer }).withTest t.test
  test : t.test = { s.test with report := t.test.report, counters := { s.test.counters with
    reportsSent := t.test.counters.reportsSent } }

theorem placed_frame (s : State) (c : List ControlKind) : Placed s (s.placed c) :=
  foldl_keeps (P := Placed s) placeControl (fun u k h => by
    obtain ⟨eq, test⟩ := h
    cases k
    case testReport =>
      exact ⟨by rw [eq]; rfl, by simp only [placeControl, State.withTest, TestUnit.reportPlaced]; rw [test]⟩
    all_goals exact ⟨by rw [eq]; rfl, test⟩) c s ⟨rfl, rfl⟩

theorem placed_link (s : State) (c : List ControlKind) : (s.placed c).link = s.link := by rw [(placed_frame s c).eq]; rfl

/-! ## The frame handed over -/

/-- The planner has run, the header's values are the transmitter's, the control blocks are placed, and a capped profile
is counted; of the rest only a notice is raised. -/
theorem handOver_eq (p : Plan × Vector Tenant 8) (g : Quad TenantGiven) (s : State) : ∃ q, handOver p g s =
    ((((s.placed p.1.controls).withLink (s.link.sent (s.frameHeader p.1) (s.txFrame p.1 g))).withPlanner
      (s.planner.ran s.link.frameCounter (s.link.state == .up) s.link.rxXoff p)).withLadder
      { s.ladder with counters := { s.ladder.counters with
                                      capped := bumpIf s.cappedNow s.ladder.counters.capped } }).withPort q := by
  have placed := placed_frame s p.1.controls
  have ladder : (s.placed p.1.controls).ladder = s.ladder := by rw [placed.eq]; rfl
  have link : (s.placed p.1.controls).link = s.link := placed_link s _
  obtain ⟨q, e⟩ : ∃ q, raiseTxChange s.link.txProfile
      ((s.placed p.1.controls).withLink ((s.placed p.1.controls).link.sent (s.frameHeader p.1) (s.txFrame p.1 g))) =
      ((s.placed p.1.controls).withLink (s.link.sent (s.frameHeader p.1) (s.txFrame p.1 g))).withPort q :=
    by rw [link]; exact ⟨_, (raiseTxChange_onlyNotices _ _).eq⟩
  refine ⟨q, ?_⟩
  change ((raiseTxChange _ _).withPlanner _).withLadder { (raiseTxChange _ _).ladder with counters := _ } = _
  simp only [State.placed] at e ladder ⊢
  rw [e]
  simp only [State.withPort_ladder, State.withLink_ladder, State.withPlanner_ladder, ladder]
  rfl

/-! ## What the tenants give -/

/-- A unit after a drain that its queue completes (R45). -/
def TenantUnit.drained (u : TenantUnit) : TenantUnit :=
  if u.state = .draining ∧ u.queue = [] then { u with state := .off, paused := false } else u

theorem drainIfEmpty_eq (x : Tenant) (s : State) : ∃ q, drainIfEmpty x s = (s.withTenant x (s.tenant x).drained).withPort q := by
  unfold drainIfEmpty TenantUnit.drained
  split
  · exact ⟨_, (raiseTenant_onlyNotices _ _ _ _ _).eq⟩
  · exact ⟨s.port, by rw [State.withTenant_self, State.withPort_self]⟩

/-- A Tenant Unit after its aging, its grant, and the drain it may complete (R45, R53, R54). -/
def TenantGiven.unit (g : TenantGiven) : TenantUnit := (g.aged.gave g.given).drained

theorem tenantGives_eq (g : Quad TenantGiven) (s : State) (x : Tenant) :
    ∃ q, tenantGives g s x = (s.withTenant x (g.get x).unit).withPort q := by
  obtain ⟨q, h⟩ := drainIfEmpty_eq x (s.withTenant x ((g.get x).aged.gave (g.get x).given))
  refine ⟨q, h.trans ?_⟩
  rw [State.withTenant_same]
  simp only [State.withTenant, State.withTenants_tenants, Quad.set_set_same, State.withTenants_twice]
  rfl

/-- The tenants of a list give one after another, each with its own unit. -/
theorem foldl_tenantGives (g : Quad TenantGiven) (l : List Tenant) : ∀ s, ∃ q, l.foldl (tenantGives g) s =
    (s.withTenants (l.foldl (fun v x => v.set x (g.get x).unit) s.tenants)).withPort q := by
  induction l with
  | nil => exact fun s => ⟨s.port, rfl⟩
  | cons x l ih =>
    intro s
    obtain ⟨q, h⟩ := tenantGives_eq g s x
    obtain ⟨r, k⟩ := ih ((s.withTenant x (g.get x).unit).withPort q)
    exact ⟨r, by rw [List.foldl_cons, h, k]; rfl⟩

/-- The units of all four tenants after a frame start's aging and grants. -/
theorem giveUp_eq (p : Plan) (g : Quad TenantGiven) (n : Nat) (s : State) : ∃ q, giveUp p g n s =
    ((s.withTenants (g.map TenantGiven.unit)).withTest (s.test.countFrame p.testBlocks n)).withPort q := by
  obtain ⟨q, h⟩ := foldl_tenantGives g Tenant.all s
  have four : Tenant.all.foldl (fun v x => v.set x (g.get x).unit) s.tenants = g.map TenantGiven.unit :=
    Quad.ext_get fun x => by cases x <;> rfl
  rw [four] at h
  refine ⟨q, ?_⟩
  rw [giveUp, h]
  rfl

/-! ## The frame start as a whole -/

/-- The state after a frame has been handed over under a plan, with every block given up, before the occasion of a
TENANT_PATH step. -/
def State.frameSent (s : State) (p : Plan × Vector Tenant 8) (g : Quad TenantGiven) : State :=
  { s.placed p.1.controls with
    link := (s.link.sent (s.frameHeader p.1) (s.txFrame p.1 g)).started,
    planner := s.planner.ran s.link.frameCounter (s.link.state == .up) s.link.rxXoff p,
    ladder := { s.ladder with counters := { s.ladder.counters with
                                              capped := bumpIf s.cappedNow s.ladder.counters.capped } },
    tenants := g.map TenantGiven.unit,
    test := (s.placed p.1.controls).test.countFrame p.1.testBlocks s.nextTxProfile,
    timing := { (s.placed p.1.controls).timing with base := { s.timing.base with frameHere := false } } }

theorem frameDone_eq (s : State) (p : Plan × Vector Tenant 8) (g : Quad TenantGiven) :
    ∃ q, frameDone (giveUp p.1 g s.nextTxProfile (handOver p g s)) = (s.frameSent p g).withPort q := by
  obtain ⟨q, h⟩ := handOver_eq p g s
  obtain ⟨r, k⟩ := giveUp_eq p.1 g s.nextTxProfile (handOver p g s)
  have base : (s.placed p.1.controls).timing.base = s.timing.base := by rw [(placed_frame s p.1.controls).eq]; rfl
  refine ⟨r, ?_⟩
  rw [k, h, State.frameSent, ← base]
  rfl

theorem sendFrame_eq (s : State) : ∃ q, sendFrame s =
    pathOccasion s.tenants (s.given s.plan.1) ((s.frameSent s.plan (s.given s.plan.1)).withPort q) := by
  obtain ⟨q, h⟩ := frameDone_eq s s.plan (s.given s.plan.1)
  exact ⟨q, congrArg (pathOccasion s.tenants (s.given s.plan.1)) h⟩

/-! ## The occasion of a TENANT_PATH step (R158) -/

/-- The run state, and the current step's phase and body: what decides whether a step injects. -/
def TestUnit.injecting (t : TestUnit) : RunState × Option (Phase × StepBody) :=
  (t.runState, t.work.map fun w => (w.phase, w.step.body))

theorem injectsAt_congr {s t : State} (h : t.test.injecting = s.test.injecting) (x : Tenant) :
    t.injectsAt x ↔ s.injectsAt x := by
  have one (u : State) : u.injectsAt x ↔ ∃ p n k e m, u.test.injecting = (.running, some (.active, .tenantPath x p n k e m)) := by
    simp only [State.injectsAt, TestUnit.injecting, Prod.mk.injEq, Option.map_eq_some_iff]
    constructor
    · rintro ⟨r, w, p, n, k, e, m, hw, phase, body⟩
      exact ⟨p, n, k, e, m, r, w, hw, phase, body⟩
    · rintro ⟨p, n, k, e, m, r, w, hw, phase, body⟩
      exact ⟨r, w, p, n, k, e, m, hw, phase, body⟩
  rw [one, one, h]

theorem injectPackets_injecting (f : BitVec 32) (r : BitVec 16) (c l n : Nat) : ∀ x,
    (injectPackets f r c l n x).2.phase = x.2.phase ∧ (injectPackets f r c l n x).2.step = x.2.step := by
  induction n with
  | zero => exact fun _ => ⟨rfl, rfl⟩
  | succ n ih =>
    rintro ⟨u, w⟩
    unfold injectPackets
    split
    · exact ih _
    · exact ⟨rfl, rfl⟩

theorem countPathEntries_injecting (a b : List Entry) (s : State) :
    (countPathEntries a b s).test.injecting = s.test.injecting := by
  unfold countPathEntries
  split
  · next w r e =>
    split
    · simp only [TestUnit.injecting, State.withWork_test, e, r]
      rfl
    · rfl
  · rfl

theorem countPathEntries_tenants (a b : List Entry) (s : State) : (countPathEntries a b s).tenants = s.tenants := by
  unfold countPathEntries
  repeat' split
  all_goals rfl

theorem inject_injecting (x : Tenant) (s : State) : (inject x s).test.injecting = s.test.injecting := by
  unfold inject
  split
  · next w r e =>
    split
    · split
      · simp only [TestUnit.injecting, State.withWork_test, State.withTenant_test, Option.map_some,
          injectPackets_injecting, e, r]
        rfl
      · rfl
    · rfl
  · rfl

/-- A tenant that no step offers packets to takes none. -/
theorem inject_none (x : Tenant) (s : State) (h : ¬ s.injectsAt x) : inject x s = s := by
  unfold inject
  split
  · next w r e =>
    split
    · next y p n k em m body phase =>
      exact if_neg fun k => h ⟨r, w, _, _, _, _, _, e, phase, k ▸ body⟩
    · rfl
  · rfl

theorem inject_other (x y : Tenant) (s : State) (h : y ≠ x) : (inject x s).tenant y = s.tenant y := by
  unfold inject
  repeat' split
  all_goals first | rfl | exact State.withTenant_other _ _ _ _ h

/-- What the occasion leaves of a tenant that no step offers packets to. -/
theorem tenantTests_tenant (q : Quad TenantUnit) (g : Quad TenantGiven) (x y : Tenant) (s : State) (h : ¬ s.injectsAt y) :
    (tenantTests q g s x).tenant y = s.tenant y ∧ ¬ (tenantTests q g s x).injectsAt y := by
  have counted : (countPathEntries (g.get x).given.left (g.get x).removed s).tenant y = s.tenant y := by
    rw [State.tenant, countPathEntries_tenants]
    rfl
  have still := mt (injectsAt_congr (countPathEntries_injecting (g.get x).given.left (g.get x).removed s) y).mp h
  unfold tenantTests
  dsimp only
  split
  · by_cases e : y = x
    · subst e
      rw [inject_none _ _ still]
      exact ⟨counted, still⟩
    · exact ⟨(inject_other x y _ e).trans counted, mt (injectsAt_congr (inject_injecting _ _) y).mp still⟩
  · exact ⟨counted, still⟩

theorem endPathActive_tenants (s : State) : (endPathActive s).tenants = s.tenants := by
  unfold endPathActive
  repeat' split
  all_goals rfl

theorem pathOccasion_tenant (q : Quad TenantUnit) (g : Quad TenantGiven) (y : Tenant) (s : State) (h : ¬ s.injectsAt y) :
    (pathOccasion q g s).tenant y = s.tenant y := by
  have fold := foldl_keeps (P := fun u => u.tenant y = s.tenant y ∧ ¬ u.injectsAt y) (tenantTests q g)
    (fun u x k => ⟨(tenantTests_tenant q g x y u k.2).1.trans k.1, (tenantTests_tenant q g x y u k.2).2⟩) Tenant.all s ⟨rfl, h⟩
  rw [pathOccasion, State.tenant, endPathActive_tenants]
  exact fold.1

/-- Test packets taken leave a tenant in its state. -/
theorem inject_state (x y : Tenant) (s : State) : ((inject x s).tenant y).state = (s.tenant y).state := by
  by_cases e : y = x
  · subst e
    unfold inject
    repeat' split
    all_goals first | rfl | skip
    rw [State.tenant_withWork, State.withTenant_same, injectPackets_state]
  · rw [inject_other x y s e]

theorem tenantTests_state (q : Quad TenantUnit) (g : Quad TenantGiven) (x y : Tenant) (s : State) :
    ((tenantTests q g s x).tenant y).state = (s.tenant y).state := by
  have counted : (countPathEntries (g.get x).given.left (g.get x).removed s).tenant y = s.tenant y := by
    rw [State.tenant, countPathEntries_tenants]
    rfl
  unfold tenantTests
  dsimp only
  split
  · rw [inject_state, counted]
  · rw [counted]

theorem pathOccasion_state (q : Quad TenantUnit) (g : Quad TenantGiven) (s : State) (y : Tenant) :
    ((pathOccasion q g s).tenant y).state = (s.tenant y).state := by
  rw [pathOccasion, State.tenant, endPathActive_tenants]
  exact foldl_keeps (P := fun u => (u.tenant y).state = (s.tenant y).state) (tenantTests q g)
    (fun u x k => (tenantTests_state q g x y u).trans k) Tenant.all s rfl

/-- The counts of a frame start change neither phase nor step. -/
theorem countFrame_injecting (t : TestUnit) (n p : Nat) : (t.countFrame n p).injecting = t.injecting := by
  unfold TestUnit.countFrame
  split
  · next w r e =>
    simp only [TestUnit.injecting, e, r, Option.map_some]
    split <;> rfl
  · rfl

/-! ## The state after a frame start -/

/-- What a frame start leaves under a plan: the frame is handed over and counted, the planner has run, the control blocks
are placed, and a tenant that no step offers packets to has given its grant. -/
structure FrameStarted (s : State) (p : Plan × Vector Tenant 8) (g : Quad TenantGiven) (t : State) : Prop where
  role : t.role = s.role
  store : t.store = s.store
  pending : t.pending = s.pending
  link : t.link = (s.link.sent (s.frameHeader p.1) (s.txFrame p.1 g)).started
  ladder : t.ladder = { s.ladder with forced := t.ladder.forced, counters := { s.ladder.counters with
    capped := bumpIf s.cappedNow s.ladder.counters.capped } }
  planner : t.planner = s.planner.ran s.link.frameCounter (s.link.state == .up) s.link.rxXoff p
  timing : t.timing = { s.timing with base := { s.timing.base with frameHere := false },
                                      xfer := (s.placed p.1.controls).timing.xfer }
  report : t.test.report = (s.placed p.1.controls).test.report
  reportsSent : t.test.counters.reportsSent = (s.placed p.1.controls).test.counters.reportsSent
  units : ∀ x, RunUnit (g.get x).unit (t.tenant x) ∧ (t.tenant x).state = (g.get x).unit.state
  still : ∀ x, ¬ s.injectsAt x → t.tenant x = (g.get x).unit

theorem countFrame_report (t : TestUnit) (n p : Nat) : (t.countFrame n p).report = t.report ∧
    (t.countFrame n p).counters.reportsSent = t.counters.reportsSent := by
  unfold TestUnit.countFrame
  dsimp only
  split <;> exact ⟨rfl, rfl⟩

/-- Before the occasion of a TENANT_PATH step all of it holds, of every tenant. -/
theorem frameSent_started (s : State) (p : Plan × Vector Tenant 8) (g : Quad TenantGiven) (q : Port) :
    FrameStarted s p g ((s.frameSent p g).withPort q) ∧
    ∀ x, ¬ s.injectsAt x → ¬ ((s.frameSent p g).withPort q).injectsAt x := by
  have placed := placed_frame s p.1.controls
  have unit (x : Tenant) : ((s.frameSent p g).withPort q).tenant x = (g.get x).unit := Quad.get_map _ _ _
  have blocks : (s.placed p.1.controls).role = s.role ∧ (s.placed p.1.controls).store = s.store ∧
      (s.placed p.1.controls).pending = s.pending ∧
      (s.placed p.1.controls).timing = { s.timing with xfer := (s.placed p.1.controls).timing.xfer } := by
    rw [placed.eq]
    exact ⟨rfl, rfl, rfl, rfl⟩
  obtain ⟨role, store, pending, timing⟩ := blocks
  obtain ⟨report, sent⟩ := countFrame_report (s.placed p.1.controls).test p.1.testBlocks s.nextTxProfile
  refine ⟨⟨role, store, pending, rfl, rfl, rfl, ?_, report, sent, fun x => ?_, fun x _ => unit x⟩, fun x h => ?_⟩
  · change ({ (s.placed p.1.controls).timing with base := { s.timing.base with frameHere := false } } : Timing) = _
    rw [timing]
  · rw [unit x]
    exact ⟨.refl _, rfl⟩
  · refine mt (injectsAt_congr (t := (s.frameSent p g).withPort q) ?_ x).mp h
    refine (countFrame_injecting _ _ _).trans ?_
    rw [placed.test]
    rfl

/-- The occasion of a TENANT_PATH step keeps it. -/
theorem FrameStarted.occasion {s t : State} {p : Plan × Vector Tenant 8} {g : Quad TenantGiven} (h : FrameStarted s p g t)
    (old : Quad TenantUnit) (k : ∀ x, ¬ s.injectsAt x → ¬ t.injectsAt x) : FrameStarted s p g (pathOccasion old g t) := by
  have step := pathOccasion_stepFrame old g t
  have run := pathOccasion_runFrame old g t
  exact
    { role := step.role.trans h.role
      store := step.store.trans h.store
      pending := step.pending.trans h.pending
      link := step.link.trans h.link
      ladder := by rw [step.ladder, h.ladder]
      planner := step.planner.trans h.planner
      timing := step.timing.trans h.timing
      report := run.tables.report.trans h.report
      reportsSent := run.tables.reportsSent.trans h.reportsSent
      units := fun x => ⟨(h.units x).1.trans (run.units x), (pathOccasion_state old g t x).trans (h.units x).2⟩
      still := fun x n => (pathOccasion_tenant old g x t (k x n)).trans (h.still x n) }

theorem sendFrame_started (s : State) : FrameStarted s s.plan (s.given s.plan.1) (sendFrame s) := by
  obtain ⟨q, e⟩ := sendFrame_eq s
  obtain ⟨h, k⟩ := frameSent_started s s.plan (s.given s.plan.1) q
  rw [e]
  exact h.occasion s.tenants k

end Sys2Proof.Machine
end

section
/-! SUPPORT. The plan of a frame (R63 to R72): the grants within demand and capacity, and the blocks that it fills. -/

namespace Sys2Proof.Machine

/-! ## The spare stage (R67) -/

/-- What every visit of the spare stage keeps: spare and grants together, and each grant within its demand. -/
structure SpareKeeps (demand : Quad Nat) (n : Nat) (x : Spare) : Prop where
  total : x.left + x.grants.sum = n
  bound : ∀ t, x.grants.get t ≤ demand.get t

theorem sum_set_succ (q : Quad Nat) (t : Tenant) : (q.set t (q.get t + 1)).sum = q.sum + 1 := by
  cases t <;> simp only [Quad.sum, Quad.set, Quad.get] <;> omega

section
variable {shares : ShareTable} {demand : Quad Nat} {n : Nat}

theorem SpareKeeps.visit {x : Spare} (h : SpareKeeps demand n x) (level : Nat) (t : Tenant) :
    SpareKeeps demand n (x.visit shares demand level t) := by
  obtain ⟨total, bound⟩ := h
  unfold Spare.visit
  split
  · next k =>
    obtain ⟨left, -, unmet⟩ := k
    refine ⟨?_, fun y => ?_⟩
    · simp only [sum_set_succ]
      omega
    · by_cases e : y = t
      · subst e
        rw [Quad.get_set_same]
        exact unmet
      · rw [Quad.get_set_other _ _ _ _ e]
        exact bound y
  · exact ⟨total, bound⟩

theorem SpareKeeps.rounds (level : Nat) (p : Tenant) (m : Nat) : ∀ x, SpareKeeps demand n x →
    SpareKeeps demand n (Spare.rounds shares demand level p m x) := by
  induction m with
  | zero => exact fun _ h => h
  | succ m ih => exact fun x h => ih _ ((((h.visit level _).visit level _).visit level _).visit level _)

theorem SpareKeeps.level {x : Spare × Vector Tenant 8} (h : SpareKeeps demand n x.1) (level : Fin 8) :
    SpareKeeps demand n (spareLevel shares demand x level).1 := by
  have rounds := SpareKeeps.rounds (shares := shares) level.val x.2[level] x.1.left { x.1 with last := none }
    ⟨h.total, h.bound⟩
  unfold spareLevel
  dsimp only
  split <;> exact rounds

theorem SpareKeeps.stage (x : Spare × Vector Tenant 8) (h : SpareKeeps demand n x.1) :
    SpareKeeps demand n (spareStage shares demand x).1 := by
  unfold spareStage
  generalize [(0 : Fin 8), 1, 2, 3, 4, 5, 6, 7] = levels
  induction levels generalizing x with
  | nil => exact h
  | cons l ls ih => exact ih _ (h.level l)

end

/-! ## The plan -/

/-- The blocks that header and control blocks leave, and of them those that the reserved stage leaves (R65). -/
def PlanInputs.left (i : PlanInputs) : Nat := i.blocks - 1 - i.controls.length

def PlanInputs.capacity (i : PlanInputs) : Nat := i.left - reservedBlocks i.testRequest i.left

/-- The demands of the four tenants (R63). -/
def PlanInputs.demand (i : PlanInputs) : Quad Nat :=
  Quad.ofFn fun t => demandOf i.link (i.xoff.get t) (i.offers.get t) i.capacity

theorem reservedBlocks_le (r : Option (ReserveMode × Nat)) (n : Nat) : reservedBlocks r n ≤ n := by
  unfold reservedBlocks
  split
  · exact Nat.min_le_right _ _
  · exact Nat.zero_le n

theorem spareTestBlocks_le (r : Option (ReserveMode × Nat)) (n : Nat) : spareTestBlocks r n ≤ n := by
  unfold spareTestBlocks
  split
  · exact Nat.min_le_right _ _
  · exact Nat.zero_le n

/-- The committed grants of shares that sum to at most 256 lie within the capacity (R66, R77). -/
theorem committed_sum_le (c : Nat) (demand shares : Quad Nat) (h : shares.sum ≤ 256) :
    (Quad.ofFn fun t => committedOf (demand.get t) c (shares.get t)).sum ≤ c := by
  have one (t : Tenant) : committedOf (demand.get t) c (shares.get t) ≤ c * shares.get t / 256 := Nat.min_le_right _ _
  have h0 := one .t0
  have h1 := one .t1
  have h2 := one .t2
  have h3 := one .t3
  have all : c * shares.get .t0 + c * shares.get .t1 + c * shares.get .t2 + c * shares.get .t3 ≤ c * 256 := by
    have := Nat.mul_le_mul_left c h
    simp only [Quad.sum, Quad.get, Nat.mul_add] at this ⊢
    omega
  simp only [Quad.sum, Quad.ofFn]
  omega

/-- The committed grants (R66). -/
def PlanInputs.committed (i : PlanInputs) : Quad Nat :=
  Quad.ofFn fun t => committedOf (i.demand.get t) i.capacity (i.shares.get t).share

/-- The end of the spare stage (R67, R68). -/
def PlanInputs.spare (i : PlanInputs) : Spare × Vector Tenant 8 :=
  spareStage i.shares i.demand
    ({ left := i.capacity - i.committed.sum, grants := i.committed, last := none }, i.pointers)

/-- The plan, written with its stages. -/
theorem planFrame_eq (i : PlanInputs) : planFrame i =
    ({ blocks := i.blocks, controls := i.controls, request := i.testRequest,
       testBlocks := reservedBlocks i.testRequest i.left + spareTestBlocks i.testRequest i.spare.1.left,
       capacity := i.capacity,
       tenants := Quad.ofFn fun t =>
         { offer := i.offers.get t, demand := i.demand.get t, committed := i.committed.get t,
           grant := i.spare.1.grants.get t },
       idle := i.blocks - 1 - i.controls.length -
         (reservedBlocks i.testRequest i.left + spareTestBlocks i.testRequest i.spare.1.left) - i.spare.1.grants.sum,
       spareLeft := i.spare.1.left }, i.spare.2) := by
  unfold planFrame
  dsimp only
  have stage : spareStage i.shares i.demand
      ({ left := i.capacity - i.committed.sum, grants := i.committed, last := none }, i.pointers) = i.spare := rfl
  unfold PlanInputs.committed PlanInputs.demand PlanInputs.capacity PlanInputs.left at stage ⊢
  rw [stage]

theorem planFrame_controls (i : PlanInputs) : (planFrame i).1.controls = i.controls := by rw [planFrame_eq]
theorem planFrame_request (i : PlanInputs) : (planFrame i).1.request = i.testRequest := by rw [planFrame_eq]
theorem planFrame_testBlocks (i : PlanInputs) : (planFrame i).1.testBlocks =
    reservedBlocks i.testRequest i.left + spareTestBlocks i.testRequest i.spare.1.left := by rw [planFrame_eq]

theorem planFrame_offer (i : PlanInputs) (t : Tenant) : ((planFrame i).1.tenants.get t).offer = i.offers.get t := by
  rw [planFrame_eq, Quad.get_ofFn]

theorem planFrame_grant (i : PlanInputs) (t : Tenant) : (planFrame i).1.grant t = i.spare.1.grants.get t := by
  rw [Plan.grant, planFrame_eq, Quad.get_ofFn]

theorem planFrame_grants (i : PlanInputs) : (planFrame i).1.tenants.map TenantPlan.grant = i.spare.1.grants :=
  Quad.ext_get fun t => by rw [Quad.get_map]; exact planFrame_grant i t

theorem planFrame_idle (i : PlanInputs) : (planFrame i).1.idle =
    i.blocks - 1 - i.controls.length - (planFrame i).1.testBlocks - i.spare.1.grants.sum := by rw [planFrame_eq]

/-- The spare stage keeps every grant within its demand. -/
theorem spare_keeps (i : PlanInputs) :
    SpareKeeps i.demand (i.capacity - i.committed.sum + i.committed.sum) i.spare.1 :=
  SpareKeeps.stage _ ⟨rfl, fun t => by rw [PlanInputs.committed, Quad.get_ofFn]; exact Nat.min_le_left _ _⟩

/-- A grant is at most the offer, and 0 while the link is not UP (R63, R70, R71). -/
theorem planFrame_grant_le (i : PlanInputs) (t : Tenant) :
    (planFrame i).1.grant t ≤ if i.link = .up then i.offers.get t else 0 := by
  have demand : i.demand.get t ≤ if i.link = .up then i.offers.get t else 0 := by
    rw [PlanInputs.demand, Quad.get_ofFn, demandOf]
    by_cases up : i.link = .up
    · rw [if_pos up]
      split
      · exact Nat.min_le_left _ _
      · exact Nat.zero_le _
    · rw [if_neg up, if_neg fun k => up k.1]
  rw [planFrame_grant]
  exact ((spare_keeps i).bound t).trans demand

/-- Under shares that sum to at most 256, TEST blocks and grants fit behind header and control blocks (R65, R70). -/
theorem planFrame_fits (i : PlanInputs) (h : (i.shares.map Share.share).sum ≤ 256) :
    (planFrame i).1.testBlocks + ((planFrame i).1.tenants.map TenantPlan.grant).sum ≤ i.left := by
  have committed : i.committed.sum ≤ i.capacity := by
    have e : i.committed = Quad.ofFn fun t => committedOf (i.demand.get t) i.capacity ((i.shares.map Share.share).get t) := by
      unfold PlanInputs.committed
      simp only [Quad.get_map]
    rw [e]
    exact committed_sum_le i.capacity i.demand (i.shares.map Share.share) h
  have total := (spare_keeps i).total
  have reserved := reservedBlocks_le i.testRequest i.left
  have spare := spareTestBlocks_le i.testRequest i.spare.1.left
  have capacity : i.capacity = i.left - reservedBlocks i.testRequest i.left := rfl
  rw [planFrame_grants, planFrame_testBlocks]
  omega

/-- In DOWN a frame holds no block but its header and IDLE blocks (R71). -/
theorem planFrame_down (i : PlanInputs) (h : i.link = .down) : (planFrame i).1.controls = [] ∧
    (planFrame i).1.testBlocks = 0 ∧ (∀ t, (planFrame i).1.grant t = 0) ∧ (planFrame i).1.idle = i.blocks - 1 := by
  have controls : i.controls = [] := by rw [PlanInputs.controls, h]
  have request : i.testRequest = none := by rw [PlanInputs.testRequest, h]; rfl
  have test : (planFrame i).1.testBlocks = 0 := by rw [planFrame_testBlocks, request]; rfl
  have grant (t : Tenant) : (planFrame i).1.grant t = 0 := by
    have := planFrame_grant_le i t
    rw [h] at this
    simpa using this
  have none : i.spare.1.grants.sum = 0 := by
    have get (t : Tenant) : i.spare.1.grants.get t = 0 := (planFrame_grant i t).symm.trans (grant t)
    have h0 := get .t0
    have h1 := get .t1
    have h2 := get .t2
    have h3 := get .t3
    simp only [Quad.get] at h0 h1 h2 h3
    simp only [Quad.sum, h0, h1, h2, h3]
  refine ⟨(planFrame_controls i).trans controls, test, grant, ?_⟩
  rw [planFrame_idle, controls, test, none]
  rfl

end Sys2Proof.Machine
end

section
/-! PROOF. A frame started in DOWN (R11, R71), and the timing block of a frame (R118 to R126). -/

namespace Sys2Proof.Machine

/-! ## The plan that a frame start runs -/

theorem plan_controls (s : State) : s.plan.1.controls = s.planInputs.controls := by
  rw [State.plan, planFrame_controls]

/-- On its boundary with nothing due, a frame start leaves what its plan says. -/
theorem frameStart_started (s : State) (role : s.role ≠ none) (here : s.timing.base.frameHere = true)
    (second : s.timing.base.secondHere = false) (quiet : s.quiet = true) :
    FrameStarted s.ticked s.ticked.plan (s.ticked.given s.ticked.plan.1) (frameStart s) := by
  rw [frameStart_here s role here second quiet]
  exact sendFrame_started _

theorem testBlocks_none (t : TestUnit) : t.testBlocks 0 = [] := by
  unfold TestUnit.testBlocks
  split <;> rfl

/-- A tenant granted nothing gives no block. -/
theorem given_none (s : State) (p : Plan) (x : Tenant) (h : p.grant x = 0) : ((s.given p).get x).given.segments = [] := by
  rw [State.given, Quad.get_ofFn]
  dsimp only
  rw [h, giveBlocks]

/-- The plan of a frame start in DOWN: nothing but IDLE blocks behind the header (R71). -/
theorem frame_down (s : State) (h : s.link.state = .down) :
    s.frameHeader s.plan.1 =
      { seq := s.link.txSeq, txProfile := 0, requested := 0, force := false, xoff := Quad.const false, controls := [],
        testBlocks := 0, endMark := none, tenantBlocks := Quad.const 0 } ∧
    s.frameBlocks s.plan.1 (s.given s.plan.1) = (s.frameHeader s.plan.1).bytes :: List.replicate 9 idleBytes := by
  have plan : s.plan.1.controls = [] ∧ s.plan.1.testBlocks = 0 ∧ (∀ t, s.plan.1.grant t = 0) ∧
      s.plan.1.idle = s.planInputs.blocks - 1 := by
    rw [State.plan]
    exact planFrame_down s.planInputs h
  obtain ⟨controls, test, grant, idle⟩ := plan
  have blocks : s.planInputs.blocks = 10 := by
    have profile : s.nextTxProfile = 0 := by rw [State.nextTxProfile, h]; rfl
    have : s.planInputs.blocks = Config.blocksOf s.nextTxProfile := rfl
    rw [this, profile]
    rfl
  have grants : s.plan.1.tenants.map TenantPlan.grant = Quad.const 0 :=
    Quad.ext_get fun x => by rw [Quad.get_map, Quad.get_const]; exact grant x
  constructor
  · simp only [State.frameHeader, State.nextTxProfile, State.requestedProfile, State.frameXoff, State.frameEndMark, h,
      controls, test, grants, reduceCtorEq, if_false]
  · simp only [State.frameBlocks, controls, test, testBlocks_none, idle, blocks, given_none s _ _ (grant _), Tenant.all,
      List.map_nil, List.map_cons, List.flatten_cons, List.flatten_nil, List.append_nil,
      List.singleton_append]

/-- Settles O7. -/
theorem frameInDownIsHeaderAndIdle : Obligations.FrameInDownIsHeaderAndIdle := by
  intro s role down here second quiet
  have started := frameStart_started s role here second quiet
  obtain ⟨header, blocks⟩ := frame_down s.ticked down
  refine ⟨announce (frameStart s), rfl, ?_⟩
  simp only [announce_link, announce_ladder, announce_timing, started.link, started.timing]
  have frame : s.ticked.txFrame s.ticked.plan.1 (s.ticked.given s.ticked.plan.1) =
      { start := s.timing.base.now.stamp,
        blocks := (s.ticked.frameBlocks s.ticked.plan.1 (s.ticked.given s.ticked.plan.1)) } := by
    rw [State.txFrame, ticked_base]
  have capped : s.ticked.cappedNow = false := by simp [State.cappedNow, down]
  refine ⟨down, ?_, ?_, ?_, ?_, ?_, ?_, ?_⟩
  · exact congrArg Header.txProfile header
  · exact congrArg Header.requested header
  · exact congrArg Header.force header
  · exact congrArg Header.xoff header
  · rw [started.ladder, capped]
    rfl
  · rw [ticked_base]
  · refine congrArg some ?_
    rw [frame, blocks, header]
    rfl

/-! ## The timing block of a frame (R119, R121, R124, R126) -/

theorem hubOffer_eq (x : Transfer) (l : LinkState) : x.hubOffer l =
    if l = .up ∧ x.responses ≠ [] then some .delayResp else if l ≠ .down ∧ x.countdown = 0 then some .sync else none := by
  cases l
  case up => cases h : x.responses <;> simp [Transfer.hubOffer, h]
  all_goals simp [Transfer.hubOffer]

section
variable {s : State}

/-- A HUB's offer at a frame start: the countdown has been counted down (R119, R121). -/
theorem ticked_offer_hub (h : s.role = some .hub) : s.ticked.timingOffer =
    if s.link.state = .up ∧ s.timing.xfer.responses ≠ [] then some .delayResp
    else if s.link.state ≠ .down ∧ s.timing.xfer.countdown ≤ 1 then some .sync else none := by
  have xfer : s.ticked.timing.xfer = s.timing.xfer.countdownTick := by rw [State.ticked, h]; rfl
  have due : s.timing.xfer.countdown - 1 = 0 ↔ s.timing.xfer.countdown ≤ 1 := by omega
  rw [State.timingOffer, ticked_role, h, xfer]
  exact (hubOffer_eq _ _).trans (by simp only [Transfer.countdownTick, ticked_link, due])

/-- A TRAILER's offer at a frame start: entries of 64 frames or more have left the table (R124, R126). -/
theorem ticked_offer_trailer (h : s.role = some .trailer) : s.ticked.timingOffer =
    if s.link.state ≠ .down ∧ (s.timing.xfer.exchanges.any fun e =>
      e.t3.isNone && decide ((s.link.frameCounter - e.frame).toNat < 64)) = true then some .delayReq else none := by
  have exchanges : s.ticked.timing.xfer.exchanges =
      s.timing.xfer.exchanges.filter fun e => !e.timedOut s.link.frameCounter := by rw [State.ticked, h]; rfl
  have waiting : ((s.timing.xfer.exchanges.filter fun e => !e.timedOut s.link.frameCounter).any fun e => e.t3.isNone) =
      s.timing.xfer.exchanges.any fun e => e.t3.isNone && decide ((s.link.frameCounter - e.frame).toNat < 64) := by
    rw [List.any_filter]
    congr 1
    funext e
    simp only [Exchange.timedOut, Bool.and_comm, ← decide_not, Nat.not_le]
  rw [State.timingOffer, ticked_role, h]
  simp only [Transfer.trailerOffer, exchanges, waiting, ticked_link]

end

/-- The control blocks of a plan: the timing block offered, then in UP a pending report (R64, R71). -/
theorem planInputs_controls (s : State) : s.planInputs.controls =
    s.timingOffer.toList ++ if s.link.state = .up ∧ s.test.report.isSome = true then [.testReport] else [] := by
  have offered : s.link.state = .down → s.timingOffer = none := fun d => by
    unfold State.timingOffer
    split <;> simp [Transfer.hubOffer, Transfer.trailerOffer, d]
  have timing (k : ControlKind) : s.timingOffer = some k → s.link.state = .acquire → k = .sync ∨ k = .delayReq := by
    unfold State.timingOffer
    intro e a
    split at e
    · simp [Transfer.hubOffer, a] at e
      exact .inl e.2.symm
    · simp [Transfer.trailerOffer, a] at e
      exact .inr e.2.symm
    · cases e
  simp only [PlanInputs.controls, State.planInputs]
  cases l : s.link.state with
  | up => by_cases r : s.test.report.isSome = true <;> simp [r]
  | down => simp [offered l]
  | acquire =>
    cases e : s.timingOffer with
    | none => simp
    | some k => rcases timing k e l with rfl | rfl <;> simp

/-- The control blocks placed touch the Time Transfer Unit by the timing block alone. -/
theorem placed_xfer (s : State) : (s.placed s.plan.1.controls).timing.xfer =
    (s.timingOffer.map fun k => (placeControl s k).timing.xfer).getD s.timing.xfer := by
  rw [plan_controls, planInputs_controls]
  cases s.timingOffer <;> split <;> rfl

/-- The block behind the header is the timing block, where one is offered (R7, R64). -/
theorem frameBlocks_timing (s : State) (g : Quad TenantGiven) (k : ControlKind) (h : s.timingOffer = some k) :
    (s.frameBlocks s.plan.1 g)[1]? = some (s.controlBytes k) := by
  simp [State.frameBlocks, plan_controls, planInputs_controls, h]

/-- The t3 formed at a frame start goes to the oldest entry without one (R124). -/
theorem placeReq_append (t3 : Stamp) (before after : List Exchange) (e : Exchange)
    (h : ∀ d ∈ before, d.t3.isSome = true) (k : e.t3 = none) :
    placeReq t3 (before ++ e :: after) = before ++ { e with t3 := some t3 } :: after ∧
    (before ++ e :: after).find? (fun e => e.t3.isNone) = some e := by
  induction before with
  | nil => simp [placeReq, k]
  | cons d before ih =>
    have some' : d.t3.isSome = true := h d (List.mem_cons_self ..)
    have isNone : d.t3.isNone = false := by simpa [Option.isNone_eq_false_iff] using some'
    obtain ⟨placed, found⟩ := ih fun d m => h d (List.mem_cons_of_mem _ m)
    constructor
    · simp only [List.cons_append, placeReq, isNone, Bool.false_eq_true, if_false, placed]
    · simp only [List.cons_append, List.find?_cons, isNone, found]

/-- Settles O34. -/
theorem syncDueAndExchangeTimeout : Obligations.SyncDueAndExchangeTimeout := by
  intro s
  refine ⟨fun role one => ?_, fun h => ?_, fun role => ?_, fun role => ?_, fun here second quiet role => ?_⟩
  · have e : s.timing.xfer.countdownTick = { s.timing.xfer with countdown := 0 } := by rw [Transfer.countdownTick, one]
    exact congrArg (Host.Outcome.next ∘ announce) ((if_pos ⟨role, one⟩).trans (by rw [e]))
  · exact congrArg (Host.Outcome.next ∘ announce) (if_neg fun k => h.elim (· k.1) (· k.2))
  · have notices := announce_onlyNotices (timeoutsNow s)
    have e : timeoutsNow s = s.withTiming { s.timing with xfer := s.timing.xfer.timeouts s.link.frameCounter } := if_pos role
    refine ⟨announce (timeoutsNow s), rfl, ?_⟩
    have frame : sameTraffic s (announce (timeoutsNow s)) := by
      rw [sameTraffic, notices.role, notices.link, notices.planner, notices.store, notices.pending, notices.test,
        notices.tenants, notices.ladder, e]
      exact ⟨rfl, rfl, rfl, rfl, rfl, fun _ => ⟨rfl, rfl, rfl⟩⟩
    rw [notices.timing, notices.tenants, notices.test, notices.ladder]
    refine ⟨fun x => ?_, ?_, ?_, ?_, frame, ?_⟩
    · rw [e]
      simp [Transfer.timeouts, Exchange.timedOut]
    · rw [e]
      exact List.filter_sublist
    all_goals rw [e]
    · rfl
    · rfl
    · exact ⟨rfl, rfl, rfl⟩
  · exact congrArg (Host.Outcome.next ∘ announce) (if_neg role)
  · have started := frameStart_started s role here second quiet
    have stamp : s.ticked.sentStamp = s.timing.base.now.stamp.shift s.timing.base.record.ltx := by
      rw [State.sentStamp, ticked_base]
    refine ⟨announce (frameStart s), s.ticked.txFrame s.ticked.plan.1 (s.ticked.given s.ticked.plan.1), rfl, ?_, ?_⟩
    · rw [announce_link, started.link]
      rfl
    dsimp only
    rw [announce_timing, started.timing]
    dsimp only
    rw [placed_xfer]
    have hubXfer (hub : s.role = some .hub) : s.ticked.timing.xfer = s.timing.xfer.countdownTick := by
      rw [State.ticked, hub]; rfl
    refine ⟨fun r rest hub up responses => ?_, fun hub due link => ?_, fun hub idle => ?_,
      fun before e after trailer link kept isSome none => ?_⟩
    · have offer := ticked_offer_hub hub
      rw [if_pos ⟨up, by rw [responses]; simp⟩] at offer
      refine ⟨(frameBlocks_timing _ _ _ offer).trans ?_, ?_⟩
      · simp only [State.controlBytes, hubXfer hub, Transfer.countdownTick, responses, List.head?_cons]
      · simp only [offer, Option.map_some, Option.getD_some, placeControl, State.withTiming_timing, hubXfer hub,
          Transfer.respPlaced, Transfer.countdownTick, responses]
        simp
    · have offer := ticked_offer_hub hub
      rw [if_neg fun k => by rcases link with a | ⟨-, a⟩ <;> simp_all, if_pos ⟨by rcases link with a | ⟨a, -⟩ <;> simp [a], due⟩]
        at offer
      refine ⟨(frameBlocks_timing _ _ _ offer).trans ?_, ?_⟩
      · simp only [State.controlBytes, hubXfer hub, Transfer.countdownTick, stamp, ticked_servo]
      · simp only [offer, Option.map_some, Option.getD_some, placeControl, State.withTiming_timing, hubXfer hub,
          Transfer.syncPlaced, Transfer.countdownTick, ticked_base]
        simp
    · have offer := ticked_offer_hub hub
      rw [if_neg fun k => by rcases idle with a | ⟨-, a | ⟨-, a⟩⟩ <;> simp_all,
        if_neg fun k => by rcases idle with a | ⟨a, -⟩ <;> [exact k.1 a; omega]] at offer
      simp only [offer, Option.map_none, Option.getD_none, hubXfer hub]
      exact ⟨rfl, rfl, rfl, rfl⟩
    · have xfer : s.ticked.timing.xfer.exchanges = before ++ e :: after := by
        rw [← kept, State.ticked, trailer]
        simp only [State.withTiming_timing, Timing.frameTick, Transfer.timeouts, Exchange.timedOut, ← decide_not, Nat.not_le]
      obtain ⟨placed, found⟩ := placeReq_append s.ticked.sentStamp before after e isSome none
      have counter : s.ticked.timing.xfer.counters.reqSent = s.timing.xfer.counters.reqSent := by
        rw [State.ticked, trailer]; rfl
      have offer : s.ticked.timingOffer = some .delayReq := by
        rw [State.timingOffer, ticked_role, trailer]
        simp only [Transfer.trailerOffer, xfer, ticked_link]
        exact if_pos ⟨link, by simp [none]⟩
      refine ⟨(frameBlocks_timing _ _ _ offer).trans ?_, ?_⟩
      · simp only [State.controlBytes, Transfer.nextReq, xfer, found, Option.map_some, Option.getD_some]
      · simp only [offer, Option.map_some, Option.getD_some, placeControl, State.withTiming_timing, Transfer.reqPlaced, xfer,
          counter, ← stamp]
        exact ⟨placed, trivial⟩

end Sys2Proof.Machine
end

section
/-! SUPPORT. What each tenant gives to a frame (R45, R51, R53, R54, R73), and the watch for missing records (R13). -/

namespace Sys2Proof.Machine

/-! ## Aging (R53) -/

/-- Aging keeps the queue from its first entry that is not stale, and removes what stands before it. -/
theorem ageQueue_eq (limit : Nat) (frame : BitVec 32) (q : List Entry) : ageQueue limit frame q =
    (q.takeWhile (Entry.stale limit frame), q.dropWhile (Entry.stale limit frame)) := by
  induction q with
  | nil => rfl
  | cons e q ih =>
    cases h : e.stale limit frame <;> simp [ageQueue, h, ih]

/-- The first entries of a list, as many as a condition holds of. -/
theorem takeWhile_eq_take {α : Type} (p : α → Bool) (l : List α) :
    l.takeWhile p = l.take (l.length - (l.dropWhile p).length) := by
  have length := congrArg List.length (List.takeWhile_append_dropWhile (p := p) (l := l))
  rw [List.length_append] at length
  have n : l.length - (l.dropWhile p).length = (l.takeWhile p).length := by omega
  rw [n]
  exact List.prefix_iff_eq_take.mp (List.takeWhile_prefix p)

/-- The stale entries of R53, in the words of the statements. -/
theorem stale_eq (limit : Nat) (frame : BitVec 32) : Entry.stale limit frame =
    fun e => decide (e.sent = 0 ∧ limit ≠ 0 ∧ limit < (frame - e.arrival).toNat) := by
  funext e
  simp [Entry.stale, Bool.decide_and, Bool.and_assoc, bne, beq_eq_decide]

/-! ## The blocks of a grant (R54, R73, R75) -/

/-- The block sequence moves on by the blocks given. -/
theorem giveBlocks_seq (n : Nat) : ∀ q seq, (giveBlocks n q seq).seq =
    seq + BitVec.ofNat 8 (giveBlocks n q seq).segments.length := by
  induction n with
  | zero => exact fun q seq => by simp [giveBlocks]
  | succ n ih =>
    intro q seq
    cases q with
    | nil => simp [giveBlocks]
    | cons e q =>
      have next (m : Nat) : seq + 1 + BitVec.ofNat 8 m = seq + BitVec.ofNat 8 (m + 1) := by
        rw [Nat.add_comm m 1, BitVec.ofNat_add, ← BitVec.add_assoc]
        rfl
      unfold giveBlocks
      dsimp only
      split
      all_goals
        rw [ih, List.length_cons]
        exact next _

/-- A queue none of whose entries is used up gives as many blocks as the grant, while it holds them. -/
theorem giveBlocks_length (n : Nat) : ∀ q seq, (∀ e ∈ q, e.sent < e.total) → n ≤ occupancy q →
    (giveBlocks n q seq).segments.length = n := by
  induction n with
  | zero => exact fun q seq _ _ => by simp [giveBlocks]
  | succ n ih =>
    intro q seq sound room
    cases q with
    | nil => simp [occupancy] at room
    | cons e q =>
      have here := sound e (List.mem_cons_self ..)
      have later : ∀ d ∈ q, d.sent < d.total := fun d m => sound d (List.mem_cons_of_mem _ m)
      have unsent (d : Entry) (r : List Entry) : occupancy (d :: r) = d.total - d.sent + occupancy r := by
        simp [occupancy, Entry.unsent]
      rw [unsent] at room
      unfold giveBlocks
      dsimp only
      split
      · rw [List.length_cons, ih q _ later (by omega)]
      · next more =>
        rw [List.length_cons, ih]
        · intro d m
          rcases List.mem_cons.mp m with rfl | m
          · exact Nat.lt_of_not_le more
          · exact later d m
        · rw [unsent]
          dsimp only
          omega

/-- Entries left out of a queue hold no blocks that the queue does not. -/
theorem occupancy_filter_le (p : Entry → Bool) (q : List Entry) : occupancy (q.filter p) ≤ occupancy q :=
  (List.Sublist.map _ List.filter_sublist).sum_le_sum fun _ _ => Nat.zero_le _

/-! ## A unit after its grant (R45, R51) -/

/-- A unit with what it gave to a frame taken off, before its pause is judged. -/
def TenantUnit.handed (u : TenantUnit) (g : Given) : TenantUnit :=
  { u with queue := g.queue, blockSeq := g.seq, agedEarly := false,
           ingress := { u.ingress with packetsSent := addCount u.ingress.packetsSent g.left.length,
                                       blocksSent := addCount u.ingress.blocksSent g.segments.length } }

theorem unit_eq (g : TenantGiven) : g.unit = (g.aged.handed g.given).judgePause.drained := rfl

/-- In PENDING and ACTIVE the pause is judged on what is left (R51). -/
theorem judged_drained (u : TenantUnit) (h : u.state = .pending ∨ u.state = .active) : u.judgePause.drained =
    { u with paused := (hysteresis u.record.ingressHalt u.record.ingressResume (occupancy u.queue) u.paused),
             ingress := { u.ingress with pauses := (bumpIf
               (hysteresis u.record.ingressHalt u.record.ingressResume (occupancy u.queue) u.paused && !u.paused)
               u.ingress.pauses) } } := by
  have judged : u.state.judged = true := by rcases h with h | h <;> rw [h] <;> rfl
  rw [TenantUnit.judgePause, if_pos judged, TenantUnit.drained, if_neg]
  rintro ⟨k, -⟩
  rcases h with h | h <;> rw [h] at k <;> cases k

/-- In OFF nothing is judged. -/
theorem off_drained (u : TenantUnit) (h : u.state = .off) : u.judgePause.drained = u := by
  rw [TenantUnit.judgePause, if_neg (by rw [h]; exact Bool.false_ne_true), TenantUnit.drained, if_neg (by rw [h]; exact nofun)]

/-- In DRAINING the pause is released with the drain's end (R45). -/
theorem draining_drained (u : TenantUnit) (h : u.state = .draining) : u.judgePause.drained =
    { u with state := (if u.queue = [] then .off else .draining), paused := (!u.queue.isEmpty && u.paused) } := by
  rw [TenantUnit.judgePause, if_neg (by rw [h]; exact Bool.false_ne_true), TenantUnit.drained]
  obtain ⟨record, state, queue⟩ := u
  subst h
  cases queue <;> simp

/-- A unit is drained and judged; nothing else of it differs from what it was with its grant taken off. -/
theorem drained_runUnit (u : TenantUnit) : RunUnit u u.judgePause.drained := by
  refine (judgePause_runUnit u).trans ?_
  unfold TenantUnit.drained
  split <;> rfl

theorem drained_state (u : TenantUnit) :
    u.judgePause.drained.state = if u.state = .draining ∧ u.queue = [] then .off else u.state := by
  cases h : u.state
  case draining => rw [draining_drained u h]; simp
  case off => rw [off_drained u h]; simp [h]
  case pending => rw [judged_drained u (.inl h)]; simp [h]
  case active => rw [judged_drained u (.inr h)]; simp [h]

/-! ## The watch for missing records (R13) -/

/-- Every event that stands due but an absent frame leaves the link unit as it is. -/
theorem settle_link (s : State) :
    (settle s).link = (absentDue (overdueAbsence .ext (overdueAbsence .gnss s))).link := by
  have supervision (u : State) : (supervisionDue u).link = u.link := by
    unfold supervisionDue
    split
    · exact timingEvent_link _ u
    · rfl
  have aging (u : State) : (Machine.agingDue u).link = u.link := by
    unfold Machine.agingDue
    split <;> rfl
  have limit (u : State) : (limitDue u).link = u.link := by
    unfold limitDue
    split
    · exact timingEvent_link _ u
    · rfl
  rw [settle, (crossOver_stepFrame _).link, (waitOver_stepFrame _).link, (reportWaitOver_stepFrame _).link,
    (tailOver_stepFrame _).link, (activeOver_stepFrame _).link, (leadOver_stepFrame _).link, limit, aging, supervision]

theorem overdueAbsence_link (i : PulseInput) (s : State) : (overdueAbsence i s).link = s.link := by
  unfold overdueAbsence
  split
  · exact timingEvent_link _ s
  · rfl

/-- What stands due is taken: no absence stands due, and the frame starts since the last record are as they were (R13). -/
theorem settle_watch (s : State) : (settle s).link.absenceDue = false ∧ (settle s).link.startsSince = s.link.startsSince := by
  have link : (overdueAbsence .ext (overdueAbsence .gnss s)).link = s.link := by
    rw [overdueAbsence_link, overdueAbsence_link]
  rw [settle_link, ← link]
  generalize overdueAbsence .ext (overdueAbsence .gnss s) = u
  cases due : u.link.absenceDue with
  | false => rw [absentDue_none u due]; exact ⟨due, rfl⟩
  | true =>
    rw [absentDue_found u due, lostEffect_link, lostFrame_absenceDue, lostFrame_startsSince]
    exact ⟨rfl, rfl⟩

/-- A second boundary leaves the link unit as what stands due leaves it (R98). -/
theorem secondEvent_link (s : State) : (secondEvent s).link = (settle (s.withBase s.timing.base.reachSecond)).link := by
  have tenant (u : State) (x : Tenant) : (tenantSecond u x).link = u.link := by
    unfold tenantSecond
    dsimp only
    split
    · rfl
    · exact (raiseTenant_onlyNotices _ _ _ _ _).link
  have taken (u : State) (b : Bool) : (u.timeSetTaken b).link = u.link := by
    unfold State.timeSetTaken
    split <;> rfl
  have fold (u : State) : (Tenant.all.foldl tenantSecond u).link = u.link :=
    foldl_keeps (P := fun v => v.link = u.link) tenantSecond (fun v x k => (tenant v x).trans k) Tenant.all u rfl
  simp only [secondEvent, countSecond, State.withTest_link, State.withTiming_link, fold, taken]

/-- The state that a frame starts from: role, counters and the watch are as they were, and no absence stands due. -/
structure Reached (s u : State) : Prop where
  role : u.role = s.role
  frameCounter : u.link.frameCounter = s.link.frameCounter
  txSeq : u.link.txSeq = s.link.txSeq
  absenceDue : u.link.absenceDue = false
  startsSince : u.link.startsSince = s.link.startsSince

theorem reachFrame_reached (s : State) : Reached s (reachFrame s) := by
  have first : ∃ v : State, reachFrame s = (settle v).withTiming ((settle v).timing.frameTick (settle v).role
      (settle v).link.frameCounter) ∧ EventFrame s v ∧ v.link.startsSince = s.link.startsSince := by
    refine ⟨_, rfl, ?_⟩
    split
    · exact ⟨(secondEvent_eventFrame s).trans (withTiming_eventFrame _ _), by
        rw [State.withBase_link, secondEvent_link, (settle_watch _).2]; rfl⟩
    · exact ⟨withTiming_eventFrame _ _, rfl⟩
  obtain ⟨v, e, frame, since⟩ := first
  have settled := frame.trans (settle_eventFrame v)
  obtain ⟨due, kept⟩ := settle_watch v
  rw [e]
  exact ⟨settled.role, settled.frames.1, settled.frames.2.1, due, kept.trans since⟩

/-- A frame starts on a frame boundary of local time (R3). -/
theorem reachFrame_aligned (s : State) (h : s.timeInv) : (reachFrame s).timing.base.now.half % 250000 = 0 := by
  cases second : s.timing.base.secondHere with
  | false => exact (reachFrame_clock s h second).2.1
  | true =>
    obtain ⟨-, half, -, -⟩ := secondEvent_clock s h
    have first : s.timing.base.secondFirst = true := by rw [TimeBase.secondFirst, second]; rfl
    have settled (u : State) : (settle u).timing.base.now = u.timing.base.now := by
      have k := settle_clockKept u
      simp only [ClockKept, State.clock, Prod.mk.injEq] at k
      exact k.2.1
    simp only [reachFrame, first, if_true, State.withTiming_timing, frameTick_base, settled]
    cases here : (secondEvent s).timing.base.frameHere with
    | true => simp only [State.withBase_timing, toFrame_here here, advanceBy_zero, half]
    | false =>
      simp only [State.withBase_timing, toFrame_ahead here, half]
      rw [(advanceBy_moves _ _ (by decide)).1, half]

end Sys2Proof.Machine
end

section
/-! PROOF. A frame start hands over one frame, counts it, and gives each tenant's blocks by the plan. -/

namespace Sys2Proof.Machine

/-- What aging at this frame start keeps of a queue (R53). -/
def State.keptQueue (s : State) (x : Tenant) : List Entry :=
  (s.tenant x).queue.dropWhile (Entry.stale (s.tenant x).record.staleLimit s.link.frameCounter)

/-- What aging removes at this frame start. -/
def State.agedEntries (s : State) (x : Tenant) : List Entry :=
  (s.tenant x).queue.takeWhile (Entry.stale (s.tenant x).record.staleLimit s.link.frameCounter)

/-- A unit after aging. -/
theorem age_eq (s : State) (x : Tenant) : (s.tenant x).age s.link.frameCounter =
    ({ s.tenant x with queue := s.keptQueue x, ingress := (s.tenant x).ingress.aged (s.agedEntries x) },
      s.agedEntries x) := by
  unfold TenantUnit.age
  rw [ageQueue_eq]
  rfl

/-- What a tenant gives under a plan: the unit after aging, the entries aged, and the blocks from the head of what is
left. -/
theorem given_eq (s : State) (p : Plan) (x : Tenant) : (s.given p).get x =
    { aged := { s.tenant x with queue := s.keptQueue x, ingress := (s.tenant x).ingress.aged (s.agedEntries x) },
      removed := s.agedEntries x,
      given := (giveBlocks (p.grant x) (s.keptQueue x) (s.tenant x).blockSeq) } := by
  have e : s.agedUnits.get x = (s.tenant x).age s.link.frameCounter := by rw [State.agedUnits, Quad.get_map]; rfl
  rw [State.given, Quad.get_ofFn, e, age_eq]

/-- The offer of a queue after aging (R54). -/
def State.offerOf (s : State) (x : Tenant) : Nat := occupancy ((s.keptQueue x).filter (eligible (s.tenant x).state))

/-- The blocks that a tenant may send in each state (R54). -/
theorem occupancy_eligible (q : List Entry) (st : TenantState) : occupancy (q.filter (eligible st)) =
    match st with
    | .off => 0
    | .pending => ((q.filter fun e => e.origin == .test).map fun e => e.total - e.sent).sum
    | .active => (q.map fun e => e.total - e.sent).sum
    | .draining => (q.map fun e => e.total - e.sent).sum := by
  cases st
  case off => exact congrArg occupancy (List.filter_false q)
  case pending => rfl
  case active => exact congrArg occupancy (List.filter_true q)
  case draining => exact congrArg occupancy (List.filter_true q)

theorem planInputs_offers (s : State) (x : Tenant) : s.planInputs.offers.get x = s.offerOf x := by
  change (s.agedUnits.map fun x => x.1.offer).get x = _
  rw [Quad.get_map, State.agedUnits, Quad.get_map]
  change ((s.tenant x).age s.link.frameCounter).1.offer = _
  rw [age_eq]
  rfl

/-- A grant is at most what aging leaves in the queue. -/
theorem plan_grant_le (s : State) (x : Tenant) : s.plan.1.grant x ≤ occupancy (s.keptQueue x) := by
  have grant : s.plan.1.grant x ≤ s.offerOf x := by
    have := planFrame_grant_le s.planInputs x
    rw [planInputs_offers] at this
    rw [State.plan]
    split at this
    · exact this
    · exact this.trans (Nat.zero_le _)
  exact grant.trans (occupancy_filter_le _ _)

/-- In a state whose queues are sound, a tenant gives as many blocks as its grant (R54, R75). -/
theorem given_length (s : State) (x : Tenant) (h : s.queueInv) :
    (giveBlocks (s.plan.1.grant x) (s.keptQueue x) (s.tenant x).blockSeq).segments.length = s.plan.1.grant x := by
  obtain ⟨-, -, sound, -⟩ := h.1 x
  exact giveBlocks_length _ _ _ (fun e m => (sound e ((List.dropWhile_sublist _).subset m)).2.2) (plan_grant_le s x)

/-! ## The Tenant Units after a frame start -/

section
variable {s t : State} {p : Plan × Vector Tenant 8} (h : FrameStarted s p (s.given p.1) t) (x : Tenant)
include h

/-- What a frame start leaves of a tenant in every case. -/
theorem started_unit :
    let u := s.tenant x
    let g := giveBlocks (p.1.grant x) (s.keptQueue x) u.blockSeq
    (t.tenant x).blockSeq = g.seq ∧ (t.tenant x).record = u.record ∧ (t.tenant x).egress = u.egress ∧
    (t.tenant x).state = (if u.state = .draining ∧ g.queue = [] then .off else u.state) ∧
    (t.tenant x).ingress.packetsSent = addCount u.ingress.packetsSent g.left.length ∧
    (t.tenant x).ingress.blocksSent = addCount u.ingress.blocksSent g.segments.length ∧
    (t.tenant x).ingress.staleRemovals =
      addCount u.ingress.staleRemovals ((s.agedEntries x).filter fun e => e.origin == .tenant).length ∧
    (t.tenant x).ingress.testAged =
      addCount u.ingress.testAged ((s.agedEntries x).filter fun e => e.origin == .test).length := by
  obtain ⟨unit, state⟩ := h.units x
  rw [given_eq, unit_eq] at unit state
  have e := (drained_runUnit _).trans unit
  rw [drained_state] at state
  have fields {u v : TenantUnit} (k : RunUnit u v) : v.blockSeq = u.blockSeq ∧ v.ingress.packetsSent = u.ingress.packetsSent ∧
      v.ingress.blocksSent = u.ingress.blocksSent ∧ v.ingress.staleRemovals = u.ingress.staleRemovals ∧
      v.ingress.testAged = u.ingress.testAged := by
    rw [k]
    exact ⟨rfl, rfl, rfl, rfl, rfl⟩
  obtain ⟨seq, packets, blocks, stale, aged⟩ := fields e
  exact ⟨seq, e.record, e.egress, state, packets, blocks, stale, aged⟩

/-- What it leaves of the queue and the pause where no step offers packets (R51, R53, R54). -/
theorem started_still (still : ¬ s.injectsAt x) :
    let u := s.tenant x
    let g := giveBlocks (p.1.grant x) (s.keptQueue x) u.blockSeq
    let judged := hysteresis u.record.ingressHalt u.record.ingressResume (occupancy g.queue) u.paused
    (t.tenant x).queue = g.queue ∧ (t.tenant x).nextSeq = u.nextSeq ∧
    (u.state = .pending ∨ u.state = .active → (t.tenant x).paused = judged ∧
      (t.tenant x).ingress.pauses = if judged = true ∧ u.paused = false then bump u.ingress.pauses else u.ingress.pauses) ∧
    (u.state = .draining → (t.tenant x).paused = (!g.queue.isEmpty && u.paused) ∧
      (t.tenant x).ingress.pauses = u.ingress.pauses) ∧
    (u.state = .off → (t.tenant x).paused = u.paused ∧ (t.tenant x).ingress.pauses = u.ingress.pauses) := by
  have e := h.still x still
  rw [given_eq, unit_eq] at e
  rw [e]
  dsimp only
  cases state : (s.tenant x).state with
  | off =>
    rw [off_drained _ rfl]
    exact ⟨rfl, rfl, by simp, by simp, fun _ => ⟨rfl, rfl⟩⟩
  | draining =>
    rw [draining_drained _ rfl]
    exact ⟨rfl, rfl, by simp, fun _ => ⟨rfl, rfl⟩, by simp⟩
  | pending =>
    rw [judged_drained _ (.inl rfl)]
    refine ⟨rfl, rfl, fun _ => ⟨rfl, ?_⟩, by simp, by simp⟩
    simp [TenantUnit.handed, bumpIf, IngressCounters.aged]
  | active =>
    rw [judged_drained _ (.inr rfl)]
    refine ⟨rfl, rfl, fun _ => ⟨rfl, ?_⟩, by simp, by simp⟩
    simp [TenantUnit.handed, bumpIf, IngressCounters.aged]

end

/-! ## The planner after a frame start -/

/-- The planner counters of a plan (R80). -/
theorem planner_counters (c : PlannerCounters) (up : Bool) (xoff : Quad Bool) (p : Plan) :
    (∀ m n, p.request = some (m, n) → p.testBlocks < n →
      (c.count up xoff p).reserveLimited = (if m = .reserved then bump c.reserveLimited else c.reserveLimited) ∧
      (c.count up xoff p).spareShort = (if m = .spare then bump c.spareShort else c.spareShort)) ∧
    ((p.request = none ∨ ∃ m n, p.request = some (m, n) ∧ n ≤ p.testBlocks) →
      (c.count up xoff p).reserveLimited = c.reserveLimited ∧ (c.count up xoff p).spareShort = c.spareShort) := by
  refine ⟨fun m n request short => ?_, fun enough => ?_⟩
  · simp only [PlannerCounters.count, Plan.short, request, short, bumpIf]
    cases m <;> simp
  · have met (mode : ReserveMode) : p.short mode = false := by
      unfold Plan.short
      rcases enough with request | ⟨m, n, request, enough⟩
      · rw [request]
      · rw [request]
        simp [Nat.not_lt.mpr enough]
    simp only [PlannerCounters.count, met, bumpIf]
    exact ⟨rfl, rfl⟩

/-! ## The frame start -/

/-- The Link Transmitter after a frame has been handed over and counted (R1, R3, R13). -/
theorem sent_started (l : LinkUnit) (h : Header) (f : TxFrame) :
    (l.sent h f).started.txSeq = l.txSeq + 1 ∧ (l.sent h f).started.frameCounter = l.frameCounter + 1 ∧
    (l.sent h f).started.frame = some f ∧ (l.sent h f).started.startsSince = min (l.startsSince + 1) 2 ∧
    (l.sent h f).started.absenceDue = (l.absenceDue || decide (2 ≤ l.startsSince)) := ⟨rfl, rfl, rfl, rfl, rfl⟩

theorem txFrame_start (s : State) (p : Plan) (g : Quad TenantGiven) :
    (s.txFrame p g).start.ns = s.timing.base.now.half / 2 := rfl

/-- Settles O5. -/
theorem frameStartCountsOneFrame : Obligations.FrameStartCountsOneFrame := by
  intro s
  refine ⟨fun role => ?_, fun role => congrArg (Host.Outcome.next ∘ announce) (frameStart_none s role),
    fun role here second quiet => ?_⟩
  · have started := sendFrame_started (reachFrame s)
    rw [← frameStart_role s role] at started
    obtain ⟨reachedRole, counter, seq, due, since⟩ := reachFrame_reached s
    obtain ⟨txSeq, frameCounter, frame, startsSince, absenceDue⟩ := sent_started (reachFrame s).link
      ((reachFrame s).frameHeader (reachFrame s).plan.1)
      ((reachFrame s).txFrame (reachFrame s).plan.1 ((reachFrame s).given (reachFrame s).plan.1))
    refine ⟨announce (frameStart s), (reachFrame s).txFrame (reachFrame s).plan.1
      ((reachFrame s).given (reachFrame s).plan.1), rfl, ?_⟩
    rw [announce_link, announce_role, started.link, started.role, txSeq, frameCounter, frame, startsSince, absenceDue, seq,
      counter, due, since]
    refine ⟨rfl, rfl, rfl, reachedRole, rfl, rfl, fun time => ?_⟩
    have aligned := reachFrame_aligned s time
    rw [txFrame_start]
    omega
  · have started := frameStart_started s role here second quiet
    intro up kept aged offer timing i
    have keptEq : kept = s.keptQueue := by
      funext x
      simp only [kept, State.keptQueue, stale_eq]
    have agedEq : aged = s.agedEntries := by
      funext x
      simp only [aged, keptEq, State.keptQueue, State.agedEntries, takeWhile_eq_take]
    have offerEq : offer = s.offerOf := by
      funext x
      simp only [offer, keptEq, State.offerOf]
      exact (occupancy_eligible _ _).symm
    have timingEq : s.ticked.timingOffer = timing := by
      simp only [timing, up]
      cases r : s.role with
      | none => exact absurd r role
      | some r' =>
        cases r' with
        | hub => exact ticked_offer_hub r
        | trailer => exact ticked_offer_trailer r
    have inputs : s.ticked.planInputs = i := by
      have offers : s.ticked.planInputs.offers = ⟨offer .t0, offer .t1, offer .t2, offer .t3⟩ :=
        Quad.ext_get fun x => by
          rw [planInputs_offers, offerEq]
          cases x <;> rfl
      simp only [i, ← offers, ← timingEq]
      rfl
    have plan : s.ticked.plan = planFrame i := by rw [State.plan, inputs]
    rw [plan] at started
    have offers (x : Tenant) : ((planFrame i).1.tenants.get x).offer = offer x := by
      rw [planFrame_offer, ← inputs, planInputs_offers, offerEq]
      rfl
    have blocks (x : Tenant) (sound : s.queueInv) : (giveBlocks ((planFrame i).1.grant x) (s.keptQueue x)
        (s.tenant x).blockSeq).segments.length = (planFrame i).1.grant x := by
      rw [← plan]
      exact given_length s.ticked x sound
    have counted := announce_planner (frameStart s)
    rw [started.planner, ticked_planner, ticked_link] at counted
    clear_value kept aged offer i
    subst keptEq agedEq
    clear plan inputs
    obtain ⟨r, hr⟩ : ∃ r, r = planFrame i := ⟨_, rfl⟩
    rw [← hr] at started offers blocks counted ⊢
    intro p c
    obtain ⟨limited, met⟩ := planner_counters c (s.link.state == .up) s.link.rxXoff r.1
    refine ⟨announce (frameStart s), rfl, ?_, ?_, ?_, ⟨?_, ?_, ?_, ?_, ?_, fun x => ⟨?_, ?_, ?_⟩⟩, fun x => ?_⟩
    · rw [counted]; rfl
    · rw [counted]; rfl
    · rw [counted]; rfl
    · rw [counted]; rfl
    · rw [counted]
      simp [Planner.ran, PlannerCounters.count, bumpIf, up, c]
    · rw [counted]; rfl
    · rw [counted]
      exact limited
    · rw [counted]
      exact met
    · rw [counted]
      exact Quad.get_ofFn _ _
    · rw [counted]
      exact Quad.get_ofFn _ _
    · rw [counted]
      refine (Quad.get_ofFn _ _).trans ?_
      simp [bumpIf, up, c, offers, and_assoc]
    · have same : (announce (frameStart s)).tenant x = (frameStart s).tenant x := by
        rw [State.tenant, announce_tenants]; rfl
      obtain ⟨seq, record, egress, state, packets, sent, stale, testAged⟩ := started_unit started x
      have still := started_still started x
      rw [same]
      exact ⟨seq, record, egress, state, packets, sent, stale, testAged,
        fun sound => ⟨blocks x sound, (giveBlocks_seq _ _ _).trans (by rw [blocks x sound])⟩, still⟩

end Sys2Proof.Machine
end

section
/-! PROOF. Every transmitted frame is exactly the blocks of its profile (R1, R6 to R11). -/

namespace Sys2Proof.Machine

/-! ## Queues without an entry that is all sent -/

/-- No entry of a queue is all sent (R54). -/
def State.unsent (s : State) : Prop := ∀ x, ∀ e ∈ (s.tenant x).queue, e.sent < e.total

theorem RunFrame.unsent {s t : State} (h : RunFrame s t) (k : s.unsent) : t.unsent :=
  fun x e m => (h.queues x e m).elim (k x e) id

theorem unsent_of_queueInv {s : State} (h : s.queueInv) : s.unsent := fun x e m => ((h.1 x).2.2.1 e m).2.2

theorem unsent_congr {s t : State} (h : t.tenants = s.tenants) (k : s.unsent) : t.unsent := fun x e m =>
  k x e (by rw [State.tenant, ← h]; exact m)

theorem enterDown_runFrame (c : LinkCause) (s : State) : RunFrame s (enterDown c s) := by
  have entered : RunFrame s (downEntered c s) := by
    obtain ⟨p, e⟩ := downEntered_eq c s
    rw [e]
    exact runFrame_of_eq rfl rfl
  exact (entered.trans (stepLinkLost_runFrame _)).trans (stepWatch_runFrame _)

theorem lostEffect_runFrame (s : State) : RunFrame s (lostEffect s) := by
  rcases lostEffect_cases s with ⟨-, c, e⟩ | ⟨-, e, -⟩
  · rw [e]
    exact enterDown_runFrame c s
  · rw [e]
    exact runFrame_of_eq rfl rfl

theorem absentDue_runFrame (s : State) : RunFrame s (absentDue s) := by
  cases due : s.link.absenceDue with
  | false => rw [absentDue_none s due]; exact .refl s
  | true =>
    rw [absentDue_found s due]
    exact (runFrame_of_eq rfl rfl : RunFrame s s.registered).trans (lostEffect_runFrame _)

/-- What stands due are events of the Test Controller, of the link and of the timing blocks. -/
theorem settle_runFrame (s : State) : RunFrame s (settle s) := by
  have overdue (i : PulseInput) (u : State) : RunFrame u (overdueAbsence i u) := by
    unfold overdueAbsence
    split
    · exact timingEvent_runFrame _ u
    · exact .refl u
  have supervision (u : State) : RunFrame u (supervisionDue u) := by
    unfold supervisionDue
    split
    · exact timingEvent_runFrame _ u
    · exact .refl u
  have aging (u : State) : RunFrame u (Machine.agingDue u) := by
    unfold Machine.agingDue
    split
    · exact withTiming_runFrame u _
    · exact .refl u
  have limit (u : State) : RunFrame u (limitDue u) := by
    unfold limitDue
    split
    · exact timingEvent_runFrame _ u
    · exact .refl u
  unfold settle
  exact (((((((((((overdue _ _).trans (overdue _ _)).trans (absentDue_runFrame _)).trans (supervision _)).trans
    (aging _)).trans (limit _)).trans (leadOver_runFrame _)).trans (activeOver_runFrame _)).trans
    (tailOver_runFrame _)).trans (reportWaitOver_runFrame _)).trans (waitOver_runFrame _)).trans (crossOver_runFrame _)

/-- A second boundary touches no queue but through what stands due (R98). -/
theorem secondEvent_unsent (s : State) (h : s.unsent) : (secondEvent s).unsent := by
  have tenant (u : State) (x : Tenant) (k : u.unsent) : (tenantSecond u x).unsent := by
    have queue : ((u.tenant x).second u.timing.servo.cls u.timing.base.now.sec).queue = (u.tenant x).queue := by
      unfold TenantUnit.second
      repeat' split
      all_goals rfl
    have kept : (u.withTenant x ((u.tenant x).second u.timing.servo.cls u.timing.base.now.sec)).unsent := by
      intro y e m
      by_cases same : y = x
      · subst same
        rw [State.withTenant_same, queue] at m
        exact k y e m
      · rw [State.withTenant_other _ _ _ _ same] at m
        exact k y e m
    unfold tenantSecond
    dsimp only
    split
    · exact kept
    · exact (raiseTenant_onlyNotices _ _ _ _ _).runFrame.unsent kept
  have based : (s.withBase s.timing.base.reachSecond).unsent := h
  have taken (u : State) (b : Bool) (k : u.unsent) : (u.timeSetTaken b).unsent := by
    unfold State.timeSetTaken
    split
    · exact k
    · exact k
  have fold := foldl_keeps (P := State.unsent) tenantSecond tenant Tenant.all _
    (taken _ s.timing.base.pendingSet.isSome ((settle_runFrame _).unsent based))
  have same : (secondEvent s).tenants = (Tenant.all.foldl tenantSecond
      ((settle (s.withBase s.timing.base.reachSecond)).timeSetTaken s.timing.base.pendingSet.isSome)).tenants := by
    simp only [secondEvent, countSecond, State.withTest_tenants, State.withTiming_tenants]
  exact unsent_congr same fold

theorem reachFrame_unsent (s : State) (h : s.unsent) : (reachFrame s).unsent := by
  have based (u : State) (b : TimeBase) (k : u.unsent) : (u.withBase b).unsent := k
  have ticked (u : State) (t : Timing) (k : u.unsent) : (u.withTiming t).unsent := k
  unfold reachFrame
  dsimp only
  refine ticked _ _ ((settle_runFrame _).unsent (based _ _ ?_))
  split
  · exact secondEvent_unsent s h
  · exact h

theorem reachFrame_eventFrame (s : State) : EventFrame s (reachFrame s) := by
  unfold reachFrame
  dsimp only
  refine EventFrame.trans ?_ (withTiming_eventFrame _ _)
  refine EventFrame.trans ?_ (settle_eventFrame _)
  split
  · exact (secondEvent_eventFrame s).trans (withTiming_eventFrame _ _)
  · exact withTiming_eventFrame s _

/-! ## Every block is of 128 bytes (R1) -/

theorem padTo_length (n : Nat) (b : List Byte) : (padTo n b).length = n := by
  simp only [padTo, List.length_append, List.length_take, List.length_replicate]
  omega

theorem Segment.bytes_length (g : Segment) : g.bytes.length = 128 := by
  simp [Segment.bytes, padTo_length, numBytes_length, Config.segmentBytes]

theorem testBlockBytes_length (r : BitVec 16) (k : Nat) (p : Pattern) (n : Nat) : (testBlockBytes r k p n).length = 128 := by
  simp [testBlockBytes, Pattern.descriptor, padTo_length, numBytes_length]

theorem controlBytes_length (s : State) (k : ControlKind) : (s.controlBytes k).length = 128 := by
  cases k
  case sync => exact padTo_length _ _
  case delayReq => exact padTo_length _ _
  case delayResp =>
    unfold State.controlBytes
    dsimp only
    split
    · exact padTo_length _ _
    · rfl
  case testReport =>
    unfold State.controlBytes
    dsimp only
    split
    · exact padTo_length _ _
    · rfl

theorem testBlocks_bytes (t : TestUnit) (n : Nat) : ∀ b ∈ t.testBlocks n, b.length = 128 := by
  unfold TestUnit.testBlocks
  split
  · intro b m
    obtain ⟨k, -, rfl⟩ := List.mem_map.mp m
    exact testBlockBytes_length _ _ _ _
  · simp

theorem frameBlocks_bytes (s : State) (p : Plan) (g : Quad TenantGiven) : ∀ b ∈ s.frameBlocks p g, b.length = 128 := by
  intro b m
  simp only [State.frameBlocks, List.mem_append, List.mem_singleton, List.mem_map, List.mem_flatten, List.mem_replicate]
    at m
  rcases m with (((rfl | ⟨k, -, rfl⟩) | m) | ⟨l, ⟨x, -, rfl⟩, m⟩) | ⟨-, rfl⟩
  · exact Header.bytes_length _
  · exact controlBytes_length s k
  · exact testBlocks_bytes _ _ b m
  · obtain ⟨g, -, rfl⟩ := List.mem_map.mp m
    exact Segment.bytes_length g
  · rfl

/-! ## The TEST blocks of a plan (R72, R156) -/

theorem reservedBlocks_pos {r : Option (ReserveMode × Nat)} {k l : Nat} (h : reservedBlocks r k + spareTestBlocks r l ≠ 0) :
    ∃ m n, r = some (m, n) ∧ reservedBlocks r k + spareTestBlocks r l ≤ n := by
  match r with
  | none => exact absurd rfl h
  | some (.reserved, n) =>
    refine ⟨.reserved, n, rfl, ?_⟩
    simp only [reservedBlocks, spareTestBlocks]
    omega
  | some (.spare, n) =>
    refine ⟨.spare, n, rfl, ?_⟩
    simp only [reservedBlocks, spareTestBlocks]
    omega

/-- A test request is that of an ACTIVE LINK_PATTERN step (R72). -/
theorem request_some {t : TestUnit} {m : ReserveMode} {n : Nat} (h : t.request = some (m, n)) :
    ∃ w profile k lead active tail errors misses, t.runState = .running ∧ t.work = some w ∧ w.phase = .active ∧
      w.step.body = .linkPattern profile k n m lead active tail errors misses := by
  unfold TestUnit.request at h
  split at h
  · next w r hw =>
    split at h
    · next body phase =>
      cases h
      exact ⟨w, _, _, _, _, _, _, _, r, hw, phase, body⟩
    · cases h
  · cases h

/-- A plan with TEST blocks is that of a request read in UP (R65, R69, R71). -/
theorem plan_test (s : State) (h : s.plan.1.testBlocks ≠ 0) : ∃ (w : Working) (m : ReserveMode) (n : Nat),
    s.test.runState = .running ∧ s.test.work = some w ∧ w.phase = .active ∧ s.link.state = .up ∧
    s.plan.1.request = some (m, n) ∧ s.plan.1.testBlocks ≤ n ∧
    ∃ profile k lead active tail errors misses,
      w.step.body = .linkPattern profile k n m lead active tail errors misses := by
  rw [State.plan, planFrame_testBlocks] at h
  obtain ⟨m, n, request, le⟩ := reservedBlocks_pos h
  rw [State.plan, planFrame_testBlocks, planFrame_request]
  have read : s.planInputs.testRequest = if s.link.state = .up then s.test.request else none := rfl
  have both : s.link.state = .up ∧ s.test.request = some (m, n) := by
    rw [read] at request
    split at request
    · next up => exact ⟨up, request⟩
    · cases request
  obtain ⟨w, profile, k, lead, active, tail, errors, misses, r, hw, phase, body⟩ := request_some both.2
  exact ⟨w, m, n, r, hw, phase, both.1, request, le, profile, k, lead, active, tail, errors, misses, body⟩

theorem testBlocks_length (t : TestUnit) (n : Nat) (h : n ≠ 0 → t.work ≠ none) : (t.testBlocks n).length = n := by
  unfold TestUnit.testBlocks
  split
  · simp
  · next e =>
    by_cases z : n = 0
    · rw [z]; rfl
    · exact absurd e (h z)

theorem plan_test_length (s : State) : (s.test.testBlocks s.plan.1.testBlocks).length = s.plan.1.testBlocks :=
  testBlocks_length _ _ fun h => by
    obtain ⟨w, -, -, -, hw, -⟩ := plan_test s h
    rw [hw]
    exact Option.some_ne_none w

/-! ## The frame is filled (R1, R7, R70) -/

/-- Queues without an entry that is all sent give each grant whole. -/
theorem given_whole (s : State) (x : Tenant) (h : s.unsent) :
    (giveBlocks (s.plan.1.grant x) (s.keptQueue x) (s.tenant x).blockSeq).segments.length = s.plan.1.grant x :=
  giveBlocks_length _ _ _ (fun e m => h x e ((List.dropWhile_sublist _).subset m)) (plan_grant_le s x)

theorem given_segments (s : State) (p : Plan) (x : Tenant) : ((s.given p).get x).given.segments =
    (giveBlocks (p.grant x) (s.keptQueue x) (s.tenant x).blockSeq).segments := by rw [given_eq]

theorem blocksOf_ge (p : Nat) (h : p ≤ 7) : 10 ≤ Config.blocksOf p := by
  interval_cases p <;> decide

/-- The tx profile of a frame start is one of P0 to P7 (R25, R34). -/
theorem nextTxProfile_le (s : State) (h : s.ladder.record.cap ≤ 7) : s.nextTxProfile ≤ 7 := by
  unfold State.nextTxProfile
  split
  · exact (Nat.min_le_right _ _).trans h
  · exact Nat.zero_le _

/-- Header, control blocks, TEST blocks and grants fit the profile, and IDLE blocks fill it. -/
theorem plan_fills (s : State) (cap : s.ladder.record.cap ≤ 7) (shares : (s.planner.shares.map Share.share).sum ≤ 256) :
    1 + s.plan.1.controls.length + s.plan.1.testBlocks + (s.plan.1.tenants.map TenantPlan.grant).sum + s.plan.1.idle =
      Config.blocksOf s.nextTxProfile := by
  have fits := planFrame_fits s.planInputs shares
  have idle := planFrame_idle s.planInputs
  have blocks : s.planInputs.blocks = Config.blocksOf s.nextTxProfile := rfl
  have ten := blocksOf_ge s.nextTxProfile (nextTxProfile_le s cap)
  have two : s.planInputs.controls.length ≤ 2 := by
    rw [planInputs_controls, List.length_append]
    have one : s.timingOffer.toList.length ≤ 1 := by cases s.timingOffer <;> simp
    split
    · simp only [List.length_singleton]; omega
    · simp only [List.length_nil]; omega
  rw [← planFrame_grants] at idle
  rw [State.plan, planFrame_controls]
  rw [PlanInputs.left, blocks] at fits
  rw [blocks] at idle
  omega

theorem frameBlocks_length (s : State) (unsent : s.unsent) (cap : s.ladder.record.cap ≤ 7)
    (shares : (s.planner.shares.map Share.share).sum ≤ 256) :
    (s.frameBlocks s.plan.1 (s.given s.plan.1)).length = Config.blocksOf s.nextTxProfile := by
  have segments (x : Tenant) : ((s.given s.plan.1).get x).given.segments.length =
      (s.plan.1.tenants.map TenantPlan.grant).get x := by
    rw [given_segments, given_whole s x unsent, Quad.get_map]
    rfl
  have h0 := segments .t0
  have h1 := segments .t1
  have h2 := segments .t2
  have h3 := segments .t3
  rw [← plan_fills s cap shares]
  simp only [Quad.get] at h0 h1 h2 h3
  simp only [State.frameBlocks, List.length_append, List.length_singleton, List.length_map, plan_test_length,
    List.length_flatten, Tenant.all, List.map_cons, List.map_nil, h0, h1, h2, h3, List.length_replicate, List.sum_cons,
    List.sum_nil, Quad.sum, Quad.get]
  omega

/-! ## The control blocks of a frame (R64, R119, R121, R124, R164) -/

/-- A pending report is offered by the Test Controller alone. -/
theorem timingOffer_ne_report (s : State) : s.timingOffer ≠ some .testReport := by
  unfold State.timingOffer
  split
  · rw [hubOffer_eq]
    repeat' split
    all_goals simp
  · unfold Transfer.trailerOffer
    split <;> simp
  · simp

theorem report_mem_controls (s : State) : .testReport ∈ s.plan.1.controls ↔
    s.link.state = .up ∧ s.test.report.isSome = true := by
  rw [plan_controls, planInputs_controls, List.mem_append]
  have none : ControlKind.testReport ∉ s.timingOffer.toList := fun m => timingOffer_ne_report s (Option.mem_toList.mp m)
  by_cases h : s.link.state = .up ∧ s.test.report.isSome = true
  · simp [h]
  · simp [none, h]

/-- A report placed is no longer pending and is counted (R164). -/
theorem placed_test (s : State) : (s.placed s.plan.1.controls).test =
    if .testReport ∈ s.plan.1.controls then s.test.reportPlaced else s.test := by
  have timing : ∀ k, s.timingOffer = some k → (placeControl s k).test = s.test := fun k h => by
    cases k
    case testReport => exact absurd h (timingOffer_ne_report s)
    all_goals rfl
  simp only [report_mem_controls]
  rw [plan_controls, planInputs_controls]
  cases e : s.timingOffer with
  | none => split <;> rfl
  | some k =>
    split
    · exact congrArg TestUnit.reportPlaced (timing k e)
    · exact timing k e

/-- The oldest exchange without t3 that has not timed out (R124, R126). -/
theorem ticked_nextReq (s : State) (h : s.role = some .trailer) : s.ticked.timing.xfer.nextReq =
    s.timing.xfer.exchanges.find? fun e => e.t3.isNone && decide ((s.link.frameCounter - e.frame).toNat < 64) := by
  have exchanges : s.ticked.timing.xfer.exchanges =
      s.timing.xfer.exchanges.filter fun e => !e.timedOut s.link.frameCounter := by rw [State.ticked, h]; rfl
  rw [Transfer.nextReq, exchanges, List.find?_filter]
  congr 1
  funext e
  simp only [Exchange.timedOut, Bool.decide_and, Bool.decide_eq_true, Bool.and_comm, ← decide_not, Nat.not_le]

theorem ticked_syncSeq (s : State) : s.ticked.timing.xfer.syncSeq = s.timing.xfer.syncSeq := by
  unfold State.ticked Timing.frameTick
  split <;> rfl

theorem ticked_responses (s : State) : s.ticked.timing.xfer.responses = s.timing.xfer.responses := by
  unfold State.ticked Timing.frameTick
  split <;> rfl

/-- The bytes of the control blocks placed, from the state before the counts of the frame start. -/
theorem controlBytes_ticked (s : State) (k : ControlKind) (h : k ∈ s.ticked.plan.1.controls) :
    some (s.ticked.controlBytes k) =
      match k with
      | .sync => some (syncBytes s.timing.xfer.syncSeq (s.timing.base.now.stamp.shift s.timing.base.record.ltx)
          s.timing.servo.cls)
      | .delayReq => (s.timing.xfer.exchanges.find? fun e =>
          e.t3.isNone && decide ((s.link.frameCounter - e.frame).toNat < 64)).map fun e => delayReqBytes e.seq
      | .delayResp => s.timing.xfer.responses.head?.map fun r => delayRespBytes r.seq r.t4
      | .testReport => s.test.report.map Report.bytes := by
  cases k with
  | sync => simp only [State.controlBytes, State.sentStamp, ticked_syncSeq, ticked_base, ticked_servo]
  | testReport =>
    obtain ⟨r, e⟩ := Option.isSome_iff_exists.mp ((report_mem_controls _).mp h).2
    rw [ticked_test] at e
    simp only [State.controlBytes, ticked_test, e, Option.map_some]
  | delayReq =>
    have offer : s.ticked.timingOffer = some .delayReq := by
      rw [plan_controls, planInputs_controls, List.mem_append] at h
      rcases h with h | h
      · exact Option.mem_toList.mp h
      · split at h <;> simp at h
    have trailer : s.role = some .trailer := by
      unfold State.timingOffer at offer
      split at offer
      · rw [hubOffer_eq] at offer
        split at offer
        · cases offer
        · split at offer <;> cases offer
      · assumption
      · cases offer
    have waits : (s.timing.xfer.exchanges.find? fun e =>
        e.t3.isNone && decide ((s.link.frameCounter - e.frame).toNat < 64)).isSome = true := by
      rw [ticked_offer_trailer trailer] at offer
      split at offer
      · next k => simpa using k.2
      · cases offer
    obtain ⟨e, found⟩ := Option.isSome_iff_exists.mp waits
    simp only [State.controlBytes, ticked_nextReq s trailer, found, Option.map_some, Option.getD_some]
  | delayResp =>
    have offer : s.ticked.timingOffer = some .delayResp := by
      rw [plan_controls, planInputs_controls, List.mem_append] at h
      rcases h with h | h
      · exact Option.mem_toList.mp h
      · split at h <;> simp at h
    have waits : s.timing.xfer.responses ≠ [] := by
      unfold State.timingOffer at offer
      split at offer
      · rw [hubOffer_eq] at offer
        split at offer
        · next k => exact ticked_responses s ▸ k.2
        · split at offer <;> cases offer
      · unfold Transfer.trailerOffer at offer
        split at offer <;> cases offer
      · cases offer
    obtain ⟨r, rest, e⟩ := List.exists_cons_of_ne_nil waits
    simp only [State.controlBytes, ticked_responses, e, List.head?_cons, Option.map_some]

/-! ## The frame as a whole -/

theorem reachFrame_here (s : State) (here : s.timing.base.frameHere = true) (second : s.timing.base.secondHere = false)
    (quiet : s.quiet = true) : reachFrame s = s.ticked := by
  have first : s.timing.base.secondFirst = false := by rw [TimeBase.secondFirst, second, here]; rfl
  simp only [reachFrame, first, Bool.false_eq_true, if_false, toFrame_here here, advanceBy_zero, State.withBase_self,
    settle_quiet s quiet]
  rfl

/-- The end mark of a frame in UP (R10, R164). -/
theorem endMark_eq (t : TestUnit) : (∀ w, t.runState = .running → t.work = some w →
    t.endMark = if w.phase = .tail then some t.runId else none) ∧ (t.runState ≠ .running → t.endMark = none) := by
  refine ⟨fun w r hw => ?_, fun r => ?_⟩
  · simp only [TestUnit.endMark, r, hw]
  · unfold TestUnit.endMark
    split
    · next e _ => exact absurd e r
    · rfl

/-- The header of a frame in UP and below it (R10, R11, R32, R34). -/
theorem header_values (s : State) (p : Plan) :
    (s.link.state = .up → (s.frameHeader p).txProfile = min s.link.farReq s.ladder.record.cap ∧
      (∀ q, s.ladder.forced = some q → (s.frameHeader p).requested = q ∧ (s.frameHeader p).force = true) ∧
      (s.ladder.forced = none → (s.frameHeader p).force = false ∧
        (s.frameHeader p).requested = if s.link.farForce = true then s.link.farReq else s.ladder.rp) ∧
      (s.frameHeader p).xoff = ⟨(s.tenant .t0).xoff, (s.tenant .t1).xoff, (s.tenant .t2).xoff, (s.tenant .t3).xoff⟩ ∧
      (∀ w, s.test.runState = .running → s.test.work = some w →
        (s.frameHeader p).endMark = if w.phase = .tail then some s.test.runId else none) ∧
      (s.test.runState ≠ .running → (s.frameHeader p).endMark = none)) ∧
    (s.link.state ≠ .up → (s.frameHeader p).txProfile = 0 ∧ (s.frameHeader p).requested = 0 ∧
      (s.frameHeader p).force = false ∧ (s.frameHeader p).xoff = Quad.const false ∧ (s.frameHeader p).endMark = none) := by
  refine ⟨fun up => ?_, fun down => ?_⟩
  · obtain ⟨tail, idle⟩ := endMark_eq s.test
    simp only [State.frameHeader, State.nextTxProfile, State.requestedProfile, State.frameXoff, State.frameEndMark, up,
      if_true]
    refine ⟨trivial, fun q e => ?_, fun e => ?_, rfl, tail, idle⟩
    · rw [e]
      exact ⟨rfl, rfl⟩
    · rw [e]
      dsimp only
      split <;> exact ⟨rfl, rfl⟩
  · simp only [State.frameHeader, State.nextTxProfile, State.requestedProfile, State.frameXoff, State.frameEndMark, down,
      if_false]
    exact ⟨trivial, trivial, trivial, trivial, trivial⟩

section
variable (s : State) (p : Plan) (g : Quad TenantGiven)
theorem frameHeader_controls : (s.frameHeader p).controls = p.controls := rfl
theorem frameHeader_testBlocks : (s.frameHeader p).testBlocks = p.testBlocks := rfl
theorem frameHeader_tenantBlocks : (s.frameHeader p).tenantBlocks = p.tenants.map TenantPlan.grant := rfl
theorem frameHeader_txProfile : (s.frameHeader p).txProfile = s.nextTxProfile := rfl
theorem frameHeader_seq : (s.frameHeader p).seq = s.link.txSeq := rfl
theorem txFrame_blocks : (s.txFrame p g).blocks = s.frameBlocks p g := rfl
theorem txFrame_stamp : (s.txFrame p g).start = s.timing.base.now.stamp := rfl
theorem frameBlocks_head : (s.frameBlocks p g).head? = some (s.frameHeader p).bytes := rfl
end

/-- The kept plan of a run (R79). -/
theorem ran_last (n : Planner) (frame : BitVec 32) (up : Bool) (xoff : Quad Bool) (r : Plan × Vector Tenant 8) :
    (n.ran frame up xoff r).last = some (frame, r.1) := rfl

/-- A tenant's part of a frame under a plan: the blocks from the head of what aging leaves. -/
theorem tenantBlocks_eq (s : State) (p : Plan) : (Tenant.all.map fun t =>
      ((s.given p).get t).given.segments.map Segment.bytes).flatten =
    ((giveBlocks (p.grant .t0) (s.keptQueue .t0) (s.tenant .t0).blockSeq).segments.map Segment.bytes ++
      (giveBlocks (p.grant .t1) (s.keptQueue .t1) (s.tenant .t1).blockSeq).segments.map Segment.bytes ++
      (giveBlocks (p.grant .t2) (s.keptQueue .t2) (s.tenant .t2).blockSeq).segments.map Segment.bytes ++
      (giveBlocks (p.grant .t3) (s.keptQueue .t3) (s.tenant .t3).blockSeq).segments.map Segment.bytes) := by
  simp only [given_segments, Tenant.all, List.map_cons, List.map_nil, List.flatten_cons, List.flatten_nil, List.append_nil,
    List.append_assoc]

/-- The blocks of a frame in R7's order, each control block as its owner gives it. -/
theorem frameBlocks_eq (s : State) (p : Plan) (control : ControlKind → Option (List Byte))
    (h : ∀ k ∈ p.controls, some (s.controlBytes k) = control k) :
    (s.frameBlocks p (s.given p)).map some = some (s.frameHeader p).bytes :: p.controls.map control ++
      (s.test.testBlocks p.testBlocks ++
        ((giveBlocks (p.grant .t0) (s.keptQueue .t0) (s.tenant .t0).blockSeq).segments.map Segment.bytes ++
          (giveBlocks (p.grant .t1) (s.keptQueue .t1) (s.tenant .t1).blockSeq).segments.map Segment.bytes ++
          (giveBlocks (p.grant .t2) (s.keptQueue .t2) (s.tenant .t2).blockSeq).segments.map Segment.bytes ++
          (giveBlocks (p.grant .t3) (s.keptQueue .t3) (s.tenant .t3).blockSeq).segments.map Segment.bytes) ++
        List.replicate p.idle idleBytes).map some := by
  have controls : (p.controls.map s.controlBytes).map some = p.controls.map control := by
    rw [List.map_map]
    exact List.map_congr_left h
  rw [State.frameBlocks, tenantBlocks_eq, ← controls]
  simp only [List.map_append, List.map_cons, List.nil_append, List.cons_append, List.append_assoc]

theorem sent_txProfile (l : LinkUnit) (h : Header) (f : TxFrame) : (l.sent h f).started.txProfile = h.txProfile := rfl

/-- Settles O6. -/
theorem everyFrameFillsItsProfile : Obligations.EveryFrameFillsItsProfile := by
  intro s queues records role
  have frame := reachFrame_eventFrame s
  have started := sendFrame_started (reachFrame s)
  rw [← frameStart_role s role] at started
  have unsent := reachFrame_unsent s (unsent_of_queueInv queues)
  obtain ⟨⟨link, -, shares, -⟩, -⟩ := records
  have cap : (reachFrame s).ladder.record.cap ≤ 7 := by
    rw [frame.record]
    simp only [LinkRecord.ok, Bool.and_eq_true, decide_eq_true_eq] at link
    exact link.2
  have sum : ((reachFrame s).planner.shares.map Share.share).sum ≤ 256 := by
    rw [frame.planner]
    simp only [ShareTable.ok, Bool.and_eq_true, decide_eq_true_eq] at shares
    exact shares.2
  have fills := plan_fills (reachFrame s) cap sum
  have length := frameBlocks_length (reachFrame s) unsent cap sum
  refine ⟨announce (frameStart s), (reachFrame s).txFrame (reachFrame s).plan.1
    ((reachFrame s).given (reachFrame s).plan.1), (reachFrame s).frameHeader (reachFrame s).plan.1, rfl, ?_⟩
  rw [announce_link, started.link, (sent_started _ _ _).2.2.1, sent_txProfile, txFrame_blocks, frameBlocks_head,
    frameHeader_controls, frameHeader_testBlocks, frameHeader_tenantBlocks, frameHeader_txProfile, length]
  refine ⟨rfl, rfl, rfl, nextTxProfile_le _ cap, by omega, rfl, frameBlocks_bytes _ _ _, fun here second quiet => ?_⟩
  have reach := reachFrame_here s here second quiet
  rw [reach] at started unsent ⊢
  have values := header_values s.ticked s.ticked.plan.1
  rw [txFrame_stamp, ticked_base, frameHeader_seq]
  refine ⟨rfl, rfl, ?_, values⟩
  intro up counter x waiting timing control kept
  have keptEq : kept = s.ticked.keptQueue := by
    funext y
    simp only [kept, counter, State.keptQueue, stale_eq, ticked_tenant, ticked_link]
  have timingEq : s.ticked.timingOffer = timing := by
    simp only [timing, up, waiting, x, counter]
    cases r : s.role with
    | none => exact absurd r role
    | some r' =>
      cases r' with
      | hub => exact ticked_offer_hub r
      | trailer => rw [ticked_offer_trailer r]; simp only [List.find?_isSome, List.any_eq_true]
  have controlEq (k : ControlKind) (m : k ∈ s.ticked.plan.1.controls) : some (s.ticked.controlBytes k) = control k :=
    (controlBytes_ticked s k m).trans (by cases k <;> rfl)
  have last : (announce (frameStart s)).planner.last = some (counter, s.ticked.plan.1) := by
    rw [announce_planner, started.planner, ran_last]
    rfl
  have report := started.report
  have sent := started.reportsSent
  rw [placed_test] at report sent
  have test := plan_test s.ticked
  have testLength := plan_test_length s.ticked
  have whole := fun y => given_whole s.ticked y unsent
  have controls : s.ticked.plan.1.controls = timing.toList ++
      if s.link.state = .up ∧ s.test.report.isSome = true then [.testReport] else [] := by
    rw [plan_controls, planInputs_controls, timingEq]
    rfl
  clear fills length started values
  obtain ⟨r, hr⟩ : ∃ r, r = s.ticked.plan := ⟨_, rfl⟩
  rw [← hr] at last report sent test testLength whole controls controlEq ⊢
  refine ⟨r.1, last, controls, rfl, rfl, rfl, test, ⟨?_, testLength, fun y => ?_⟩, fun m => ?_, fun m => ?_⟩
  · rw [keptEq]
    exact frameBlocks_eq s.ticked r.1 control controlEq
  · rw [keptEq, List.length_map, Quad.get_map]
    exact whole y
  · rw [announce_test, report, sent, if_pos m]
    exact ⟨rfl, rfl⟩
  · rw [announce_test, report, sent, if_neg m]
    exact ⟨rfl, rfl⟩

end Sys2Proof.Machine
end

section
/-! SUPPORT. What a good header and the control blocks of its frame leave alone (R15 to R20), and when no step of the Test
Controller ends by them. -/

namespace Sys2Proof.Machine

/-! ## What control blocks can change -/

/-- What a good header's effect and control blocks leave: of the ladder the forced profile differs, of the units what a
step's events change; captures, timing record and free values stay. -/
structure Received (s t : State) : Prop where
  freeIndex : t.freeIndex = s.freeIndex
  ladder : t.ladder = { s.ladder with forced := t.ladder.forced }
  markers : t.timing.base.markers = s.timing.base.markers
  record : t.timing.base.record = s.timing.base.record
  units : ∀ x, RunUnit (s.tenant x) (t.tenant x)

theorem Received.refl (s : State) : Received s s := ⟨rfl, rfl, rfl, rfl, fun _ => .refl _⟩

theorem Received.trans {s t u : State} (h : Received s t) (k : Received t u) : Received s u where
  freeIndex := k.freeIndex.trans h.freeIndex
  ladder := by rw [k.ladder, h.ladder]
  markers := k.markers.trans h.markers
  record := k.record.trans h.record
  units x := (h.units x).trans (k.units x)

theorem StepFrame.received {s t : State} (h : StepFrame s t) (k : RunFrame s t) : Received s t :=
  ⟨h.freeIndex, h.ladder, by rw [h.timing], by rw [h.timing], k.units⟩

theorem OnlyNotices.received {s t : State} (h : OnlyNotices s t) : Received s t := h.stepFrame.received h.runFrame

/-- Timing blocks replaced by ones with the same captures and the same record. -/
theorem withTiming_received (s : State) (t : Timing) (h : t.base.markers = s.timing.base.markers)
    (k : t.base.record = s.timing.base.record) : Received s (s.withTiming t) := ⟨rfl, rfl, h, k, fun _ => .refl _⟩

theorem withLink_received (s : State) (l : LinkUnit) : Received s (s.withLink l) := ⟨rfl, rfl, rfl, rfl, fun _ => .refl _⟩

theorem stepWatch_received (s : State) : Received s (stepWatch s) := (stepWatch_stepFrame s).received (stepWatch_runFrame s)

theorem timingEvent_received (s : State) (t : Timing) (h : t.base.markers = s.timing.base.markers)
    (k : t.base.record = s.timing.base.record) : Received s (timingEvent t s) :=
  ((withTiming_received s t h k).trans (raiseTiming_onlyNotices _ _ _).received).trans (stepWatch_received _)

theorem reselect_markers (t : Timing) : t.reselect.base.markers = t.base.markers := by rw [reselect_base]

theorem makeStep_markers (t : Timing) (x : Source) (m w : Int) : (t.makeStep x m w).base.markers = t.base.markers := by
  unfold Timing.makeStep
  dsimp only
  split <;> rfl

theorem averageStage_markers (t : Timing) : t.averageStage.base.markers = t.base.markers := by
  unfold Timing.averageStage
  split <;> rfl

theorem countStage_markers (t : Timing) (e : Int) : (t.countStage e).base.markers = t.base.markers := by
  unfold Timing.countStage
  dsimp only
  repeat' split
  all_goals rfl

theorem measure_markers (t : Timing) (x : Source) (m w : Int) : (t.measure x m w).1.base.markers = t.base.markers := by
  unfold Timing.measure
  dsimp only
  split
  · split
    · exact makeStep_markers _ _ _ _
    · exact (countStage_markers _ _).trans (averageStage_markers _)
  · rfl

theorem handOn_received (x : Source) (m w : Int) (s : State) : Received s (handOn x m w s) :=
  ((withTiming_received s _ (measure_markers _ _ _ _) (measure_record _ _ _ _)).trans
    (raiseTiming_onlyNotices _ _ _).received).trans (stepWatch_received _)

theorem takeReport_received (r : Report) (s : State) : Received s (takeReport r s) := by
  have test (u : State) (t : TestUnit) : Received u (u.withTest t) := ⟨rfl, rfl, rfl, rfl, fun _ => .refl _⟩
  unfold takeReport
  dsimp only
  repeat' split
  · exact test _ _
  · exact (test _ _).trans ((endStep_stepFrame _ _ _).received (endStep_runFrame _ _ _))
  · exact test _ _

theorem takeSync_received (b : List Byte) (m : Stamp) (s : State) : Received s (takeSync b m s) := by
  have judged := timingEvent_received s (s.timing.syncJudged (hubClassAt b) (s.link.state == .up)) (reselect_markers _)
    (syncJudged_record _ _ _)
  exact judged.trans (withTiming_received _ _ rfl rfl)

theorem takeDelayResp_received (b : List Byte) (s : State) : Received s (takeDelayResp b s) := by
  have taken := timingEvent_received s ({ s.timing with
    xfer := (s.timing.xfer.takeResp (timingSeqAt b) (stampAt b 2) s.timing.base.record.asymmetry).1 } : Timing).reselect
    (reselect_markers _) (reselect_record _)
  unfold takeDelayResp
  dsimp only
  split
  · exact taken
  · exact taken.trans (handOn_received _ _ _ _)

theorem routeControl_received (m : Stamp) (s : State) (kp : ControlKind × Position) : Received s (routeControl m s kp) := by
  unfold routeControl
  repeat' split
  · exact withLink_received s _
  · exact takeSync_received _ _ s
  · exact withTiming_received s _ rfl rfl
  · exact takeDelayResp_received _ s
  · exact takeReport_received _ s

/-! ## The link unit under control blocks (R20) -/

/-- A control block is discarded exactly where it is bad, role or link state does not take it, or its timestamp is none
(R20, R183). -/
def discards (role : Option Role) (link : LinkState) (kp : ControlKind × Position) : Bool :=
  kp.2.bad || !controlAccepted role link kp.1 || badStamp kp.1 kp.2.bytes

theorem routeControl_discards (m : Stamp) (s : State) (kp : ControlKind × Position)
    (h : discards s.role s.link.state kp = true) : routeControl m s kp = discardControl s := if_pos h

theorem routeControl_takes (m : Stamp) (s : State) (k : ControlKind) (p : Position)
    (h : discards s.role s.link.state (k, p) = false) : routeControl m s (k, p) =
      match k with
      | .sync => takeSync p.bytes m s
      | .delayReq => takeDelayReq p.bytes m s
      | .delayResp => takeDelayResp p.bytes s
      | .testReport => takeReport (reportAt p.bytes) s := by
  have n : ¬ (p.bad || !controlAccepted s.role s.link.state k || badStamp k p.bytes) = true :=
    Bool.eq_false_iff.mp h
  unfold routeControl
  rw [if_neg n]
  cases k <;> rfl

theorem takeDelayResp_link (b : List Byte) (s : State) : (takeDelayResp b s).link = s.link := by
  have hand (x : Source) (m w : Int) (u : State) : (handOn x m w u).link = u.link := by
    simp [handOn, (stepWatch_stepFrame _).link]
  unfold takeDelayResp
  dsimp only
  split
  · exact timingEvent_link _ s
  · rw [hand]
    exact timingEvent_link _ s

/-- The count of control blocks discarded, and nothing else of the link unit. -/
theorem routeControl_link (m : Stamp) (s : State) (kp : ControlKind × Position) : (routeControl m s kp).link =
    { s.link with counters := { s.link.counters with controlDiscarded :=
        (if discards s.role s.link.state kp = true then bump s.link.counters.controlDiscarded
          else s.link.counters.controlDiscarded) } } := by
  obtain ⟨k, p⟩ := kp
  cases d : discards s.role s.link.state (k, p) with
  | true => rw [routeControl_discards m s _ d]; rfl
  | false =>
    rw [routeControl_takes m s k p d]
    cases k
    case sync => exact timingEvent_link _ s
    case delayReq => rfl
    case delayResp => exact takeDelayResp_link _ s
    case testReport => exact (takeReport_stepFrame _ s).link

theorem routeControls_link (m : Stamp) (l : List (ControlKind × Position)) : ∀ s, (l.foldl (routeControl m) s).role = s.role ∧
    (l.foldl (routeControl m) s).link = { s.link with counters := { s.link.counters with controlDiscarded :=
      (l.foldl (fun c kp => if discards s.role s.link.state kp = true then bump c else c)
        s.link.counters.controlDiscarded) } } := by
  induction l with
  | nil => exact fun _ => ⟨rfl, rfl⟩
  | cons kp l ih =>
    intro s
    obtain ⟨role, link⟩ := ih (routeControl m s kp)
    have r := (routeControl_eventFrame m s kp).role
    have e := routeControl_link m s kp
    refine ⟨role.trans r, ?_⟩
    rw [List.foldl_cons, List.foldl_cons, link, r, e]

/-! ## Events that end no step -/

/-- No event of the timing blocks or of the link ends a step: outside a run, or with no current step that waits on them. -/
def State.stepsHeld (s : State) : Prop := s.test.runState ≠ .running ∨
  ∀ w, s.test.work = some w → w.step.body.kind = .linkPattern ∨ w.step.body.kind = .tenantPath

theorem stepWatch_held (s : State) (h : s.stepsHeld) : stepWatch s = s := by
  rcases h with h | h
  · exact stepWatch_idle s h
  · unfold stepWatch
    split
    · rfl
    · next w e =>
      split
      · next body => have := h w e; simp [body, StepBody.kind] at this
      · next body => have := h w e; simp [body, StepBody.kind] at this
      · rfl

/-- Test Controller, units and ladder are untouched. -/
structure Untouched (s t : State) : Prop where
  test : t.test = s.test
  tenants : t.tenants = s.tenants
  ladder : t.ladder = s.ladder

theorem Untouched.refl (s : State) : Untouched s s := ⟨rfl, rfl, rfl⟩

theorem Untouched.trans {s t u : State} (h : Untouched s t) (k : Untouched t u) : Untouched s u :=
  ⟨k.test.trans h.test, k.tenants.trans h.tenants, k.ladder.trans h.ladder⟩

theorem OnlyNotices.untouched {s t : State} (h : OnlyNotices s t) : Untouched s t := ⟨h.test, h.tenants, h.ladder⟩

theorem Untouched.held {s t : State} (h : Untouched s t) (k : s.stepsHeld) : t.stepsHeld := by
  rw [State.stepsHeld, h.test]
  exact k

theorem withTiming_untouched (s : State) (t : Timing) : Untouched s (s.withTiming t) := ⟨rfl, rfl, rfl⟩

theorem withLink_untouched (s : State) (l : LinkUnit) : Untouched s (s.withLink l) := ⟨rfl, rfl, rfl⟩

theorem timingEvent_untouched (s : State) (t : Timing) (h : s.stepsHeld) : Untouched s (timingEvent t s) := by
  have raised : Untouched s ((s.withTiming t).raiseTiming s.timing (timingCauses s.timing t false)) :=
    (withTiming_untouched s t).trans (raiseTiming_onlyNotices _ _ _).untouched
  rw [timingEvent, stepWatch_held _ (raised.held h)]
  exact raised

theorem handOn_untouched (x : Source) (m w : Int) (s : State) (h : s.stepsHeld) : Untouched s (handOn x m w s) := by
  have raised : Untouched s ((s.withTiming (s.timing.measure x m w).1).raiseTiming s.timing
      (timingCauses s.timing (s.timing.measure x m w).1 (s.timing.measure x m w).2)) :=
    (withTiming_untouched s _).trans (raiseTiming_onlyNotices _ _ _).untouched
  rw [handOn, stepWatch_held _ (raised.held h)]
  exact raised

theorem takeDelayResp_untouched (b : List Byte) (s : State) (h : s.stepsHeld) : Untouched s (takeDelayResp b s) := by
  have taken := timingEvent_untouched s ({ s.timing with
    xfer := (s.timing.xfer.takeResp (timingSeqAt b) (stampAt b 2) s.timing.base.record.asymmetry).1 } : Timing).reselect h
  unfold takeDelayResp
  dsimp only
  split
  · exact taken
  · exact taken.trans (handOn_untouched _ _ _ _ (taken.held h))

/-- A control block that is no TEST_REPORT taken ends no step where none waits on the timing blocks. -/
theorem routeControl_untouched (m : Stamp) (s : State) (kp : ControlKind × Position) (h : s.stepsHeld)
    (k : kp.1 = .testReport → discards s.role s.link.state kp = true) : Untouched s (routeControl m s kp) := by
  obtain ⟨kind, p⟩ := kp
  cases d : discards s.role s.link.state (kind, p) with
  | true => rw [routeControl_discards m s _ d]; exact withLink_untouched s _
  | false =>
    rw [routeControl_takes m s kind p d]
    cases kind
    case sync => exact (timingEvent_untouched s _ h).trans (withTiming_untouched _ _)
    case delayReq => exact withTiming_untouched s _
    case delayResp => exact takeDelayResp_untouched _ s h
    case testReport => rw [k rfl] at d; cases d

/-! ## A good header's effect (R15, R16, R130) -/

/-- The timing blocks at a good header: at a TRAILER's entry to UP LINK may leave ABSENT, else nothing. -/
theorem goodEffect_timing (s : State) : (goodEffect s).timing = s.timing ∨ (goodEffect s).timing =
    Timing.reselect { s.timing with xfer := { s.timing.xfer with link := s.timing.xfer.link.entersUp } } := by
  unfold goodEffect
  split
  · exact .inl (raiseLink_onlyNotices _ _ _).timing
  · split
    · unfold enterUpTiming
      split
      · refine .inr ?_
        rw [timingEvent_timing, (raiseLink_onlyNotices _ _ _).timing]
        rfl
      · exact .inl ((stepWatch_stepFrame _).timing.trans (raiseLink_onlyNotices _ _ _).timing)
    · exact .inl rfl
  · exact .inl rfl

theorem goodEffect_received (s : State) : Received s (goodEffect s) := by
  unfold goodEffect
  split
  · exact (withLink_received s _).trans (raiseLink_onlyNotices _ _ _).received
  · split
    · have raised : Received s ((s.withLink { s.link with state := .up, good := s.link.good + 1, lost := 0 }).raiseLink
          .acquire .acquired) :=
        (withLink_received s _).trans (raiseLink_onlyNotices _ _ _).received
      refine raised.trans ?_
      unfold enterUpTiming
      split
      · exact timingEvent_received _ _ (reselect_markers _) (reselect_record _)
      · exact stepWatch_received _
    · exact withLink_received s _
  · exact withLink_received s _

/-- Outside a run, or in UP, a good header ends no step. -/
theorem goodEffect_untouched (s : State) (h : s.test.runState ≠ .running ∨ s.link.state = .up) :
    Untouched s (goodEffect s) := by
  unfold goodEffect
  split
  · exact (withLink_untouched s _).trans (raiseLink_onlyNotices _ _ _).untouched
  · next acquire =>
    split
    · have idle : s.stepsHeld := .inl (h.resolve_right (by rw [acquire]; simp))
      have raised : Untouched s ((s.withLink { s.link with state := .up, good := s.link.good + 1, lost := 0 }).raiseLink
          .acquire .acquired) :=
        (withLink_untouched s _).trans (raiseLink_onlyNotices _ _ _).untouched
      unfold enterUpTiming
      split
      · exact raised.trans (timingEvent_untouched _ _ (raised.held idle))
      · rw [stepWatch_held _ (raised.held idle)]
        exact raised
    · exact withLink_untouched s _
  · exact withLink_untouched s _

end Sys2Proof.Machine
end

section
/-! SUPPORT. The TEST and TENANT blocks of a received frame at their owners (R21, R87 to R89, R163, R164). -/

namespace Sys2Proof.Machine

/-! ## One TENANT block -/

/-- A unit after one TENANT block: the packet it completes goes to the checker or to the buffer (R83 to R89). -/
def takesBlock (u : TenantUnit) (p : Position) : TenantUnit :=
  match u.takeBlock (segmentAt p.bytes) p.bad with
  | (v, .nothing) => v
  | (v, .packet q) =>
    match q.origin with
    | .test => v.completeTest
    | .tenant => (v.completeTenant q).1

/-- The Test Controller after one TENANT block of a unit: a completed test packet enters the check record (R164). -/
def checksBlock (u : TenantUnit) (p : Position) (t : TestUnit) : TestUnit :=
  match (u.takeBlock (segmentAt p.bytes) p.bad).2 with
  | .nothing => t
  | .packet q =>
    match q.origin with
    | .test => t.checkPacket q
    | .tenant => t

theorem withTenant_twice (s : State) (x : Tenant) (u v : TenantUnit) : (s.withTenant x u).withTenant x v = s.withTenant x v := by
  simp only [State.withTenant, State.withTenants_tenants, Quad.set_set_same, State.withTenants_twice]

theorem packetDone_eq (x : Tenant) (p : Packet) (s : State) (u : TenantUnit) : ∃ q, packetDone x p (s.withTenant x u) =
    ((s.withTenant x (match p.origin with
        | .test => u.completeTest
        | .tenant => (u.completeTenant p).1)).withTest (match p.origin with
        | .test => s.test.checkPacket p
        | .tenant => s.test)).withPort q := by
  unfold packetDone
  cases p.origin with
  | test =>
    dsimp only
    rw [State.withTenant_same, withTenant_twice]
    exact ⟨s.port, rfl⟩
  | tenant =>
    dsimp only
    rw [State.withTenant_same, withTenant_twice]
    split
    · have raised : ∃ q, raiseOverrun x p.length (s.withTenant x (u.completeTenant p).1) =
          (s.withTenant x (u.completeTenant p).1).withPort q := ⟨_, (raiseTenant_onlyNotices _ _ _ _ _).eq⟩
      exact raised
    · exact ⟨s.port, rfl⟩

theorem routeTenant_eq (x : Tenant) (s : State) (p : Position) : ∃ q, routeTenant x s p =
    ((s.withTenant x (takesBlock (s.tenant x) p)).withTest (checksBlock (s.tenant x) p s.test)).withPort q := by
  unfold routeTenant takesBlock checksBlock
  dsimp only
  cases e : (s.tenant x).takeBlock (segmentAt p.bytes) p.bad with
  | mk v done =>
    cases done with
    | nothing => exact ⟨s.port, rfl⟩
    | packet pk =>
      obtain ⟨q, h⟩ := packetDone_eq x pk s v
      exact ⟨q, h⟩

/-! ## The blocks of one tenant, of all four, and the TEST blocks -/

/-- The Test Controller after the TENANT blocks of one unit. -/
def checksBlocks (l : List Position) (u : TenantUnit) (t : TestUnit) : TestUnit :=
  (l.foldl (fun ut p => (takesBlock ut.1 p, checksBlock ut.1 p ut.2)) (u, t)).2

theorem foldl_routeTenant (x : Tenant) (l : List Position) : ∀ s, ∃ q, l.foldl (routeTenant x) s =
    ((s.withTenant x (l.foldl takesBlock (s.tenant x))).withTest (checksBlocks l (s.tenant x) s.test)).withPort q := by
  induction l with
  | nil =>
    intro s
    exact ⟨s.port, by rw [List.foldl_nil, List.foldl_nil, State.withTenant_self]; rfl⟩
  | cons p l ih =>
    intro s
    obtain ⟨q, h⟩ := routeTenant_eq x s p
    obtain ⟨r, k⟩ := ih (((s.withTenant x (takesBlock (s.tenant x) p)).withTest (checksBlock (s.tenant x) p s.test)).withPort q)
    refine ⟨r, ?_⟩
    rw [List.foldl_cons, h, k]
    simp only [State.tenant_withPort, State.tenant_withTest, State.withTenant_same, State.withPort_test, State.withTest_test]
    have twice := withTenant_twice s x (takesBlock (s.tenant x) p) (l.foldl takesBlock (takesBlock (s.tenant x) p))
    rw [List.foldl_cons, ← twice]
    rfl

/-- The blocks of each tenant in a frame: they follow one another in tenant order (R14). -/
def tenantPart (counts : Quad Nat) (ps : List Position) (x : Tenant) : List Position :=
  (ps.drop (match x with
    | .t0 => 0
    | .t1 => counts.t0
    | .t2 => counts.t0 + counts.t1
    | .t3 => counts.t0 + counts.t1 + counts.t2)).take (counts.get x)

/-- The Test Controller after the TENANT blocks of all four tenants. -/
def State.checksAll (s : State) (l : Tenant → List Position) : TestUnit :=
  checksBlocks (l .t3) (s.tenant .t3) (checksBlocks (l .t2) (s.tenant .t2) (checksBlocks (l .t1) (s.tenant .t1)
    (checksBlocks (l .t0) (s.tenant .t0) s.test)))

/-- The blocks of one tenant, with what the tenants before it have changed spelled out. -/
theorem foldl_routeTenant_fed (x : Tenant) (l : List Position) (s : State) (us : Quad TenantUnit) (t : TestUnit) (p : Port) :
    ∃ q, l.foldl (routeTenant x) (((s.withTenants us).withTest t).withPort p) =
      ((s.withTenants (us.set x (l.foldl takesBlock (us.get x)))).withTest (checksBlocks l (us.get x) t)).withPort q := by
  obtain ⟨q, h⟩ := foldl_routeTenant x l (((s.withTenants us).withTest t).withPort p)
  exact ⟨q, h⟩

theorem routeTenants_eq (counts : Quad Nat) (ps : List Position) (s : State) : ∃ q, routeTenants counts ps s =
    ((s.withTenants (Quad.ofFn fun x => (tenantPart counts ps x).foldl takesBlock (s.tenant x))).withTest
      (s.checksAll (tenantPart counts ps))).withPort q := by
  have parts : routeTenants counts ps s = (tenantPart counts ps .t3).foldl (routeTenant .t3)
      ((tenantPart counts ps .t2).foldl (routeTenant .t2)
        ((tenantPart counts ps .t1).foldl (routeTenant .t1) ((tenantPart counts ps .t0).foldl (routeTenant .t0) s))) := by
    simp only [routeTenants, tenantPart, List.drop_drop, List.drop_zero, Quad.get]
  obtain ⟨q0, h0⟩ := foldl_routeTenant_fed .t0 (tenantPart counts ps .t0) s s.tenants s.test s.port
  have start : ((s.withTenants s.tenants).withTest s.test).withPort s.port = s := rfl
  rw [start] at h0
  obtain ⟨q1, h1⟩ := foldl_routeTenant_fed .t1 (tenantPart counts ps .t1) s _ _ q0
  obtain ⟨q2, h2⟩ := foldl_routeTenant_fed .t2 (tenantPart counts ps .t2) s _ _ q1
  obtain ⟨q3, h3⟩ := foldl_routeTenant_fed .t3 (tenantPart counts ps .t3) s _ _ q2
  refine ⟨q3, ?_⟩
  rw [parts, h0, h1, h2, h3]
  rfl

theorem foldl_routeTest (l : List Position) : ∀ s, l.foldl routeTest s =
    s.withTest (l.foldl (fun u p => u.checkBlock p.bytes p.bad) s.test) := by
  induction l with
  | nil => exact fun _ => rfl
  | cons p l ih => exact fun s => by rw [List.foldl_cons, ih, routeTest]; rfl

end Sys2Proof.Machine
end

section
/-! SUPPORT. A frame with a good header up to its blocks (R12, R15 to R19, R27), and the routing of the blocks (R14, R20,
R21). -/

namespace Sys2Proof.Machine

/-! ## The state in which the blocks of a frame are routed -/

/-- The judgement of a sample does not read the forced profile. -/
theorem sample_withForced (l : Ladder) (f : Option Nat) (q x : Nat) :
    (Ladder.sample { l with forced := f } q x).1 = { (l.sample q x).1 with forced := f } := by
  unfold Ladder.sample Ladder.judgeDown Ladder.judgeUp Ladder.passesUp
  dsimp only
  repeat' split
  all_goals rfl

/-- A good header leaves of the link unit all but state and counts. -/
theorem goodHeader_frame (l : LinkUnit) : l.goodHeader =
    { l with state := l.goodHeader.state, good := l.goodHeader.good, lost := l.goodHeader.lost } := by
  unfold LinkUnit.goodHeader
  repeat' split
  all_goals rfl

/-- The Test Controller after the end mark of a header taken in UP (R19, R164). -/
def TestUnit.marked (t : TestUnit) : Option (BitVec 16) → TestUnit
  | some run => t.endMarkTaken run
  | none => t

theorem passEndMark_eq (h : Header) (s : State) :
    passEndMark h s = s.withTest (if s.link.state = .up then s.test.marked h.endMark else s.test) := by
  unfold passEndMark
  cases h.endMark with
  | none => rw [TestUnit.marked, ite_self]; rfl
  | some run =>
    dsimp only
    split <;> rfl

/-- The state in which the blocks behind a good header are routed: link state, sample, stored fields and end mark are done. -/
def State.headerTaken (s : State) (r : FrameRecord) (h : Header) : State :=
  let u := giveSample r.snr (goodEffect (s.recordTaken r))
  (passEndMark h (u.withLink (u.link.store h))).withFreeIndex
    (s.freeIndex + 1 + (Config.blocksOf h.txProfile - r.positions.length))

theorem takeFrame_routes (r : FrameRecord) (s : State) (h : Header) (e : judgeHeader r = .good h) : takeFrame r s =
    routeFrame h s.recordMarker (padPositions (Config.blocksOf h.txProfile) s.freeIndex r.positions) (s.headerTaken r h) :=
  takeFrame_good r s h e

/-- Behind the link state only the ladder, the stored fields, the end mark and the free index change. -/
theorem headerStored_eq (h : Header) (x n : Nat) (g : State) : ∃ p,
    (passEndMark h ((giveSample x g).withLink ((giveSample x g).link.store h))).withFreeIndex n =
      ((((g.withLink (g.link.store h)).withLadder (giveSample x g).ladder).withTest
        (if g.link.state = .up then g.test.marked h.endMark else g.test)).withFreeIndex n).withPort p := by
  obtain ⟨p, e⟩ := giveSample_eq x g
  rw [giveSample_link, e, passEndMark_eq]
  exact ⟨p, rfl⟩

section
variable (s : State) (r : FrameRecord) (h : Header)

theorem headerTaken_eq : ∃ p, s.headerTaken r h =
    (((((goodEffect (s.recordTaken r)).withLink ((goodEffect (s.recordTaken r)).link.store h)).withLadder
      (giveSample r.snr (goodEffect (s.recordTaken r))).ladder).withTest
        (if (goodEffect (s.recordTaken r)).link.state = .up then (goodEffect (s.recordTaken r)).test.marked h.endMark
          else (goodEffect (s.recordTaken r)).test)).withFreeIndex
        (s.freeIndex + 1 + (Config.blocksOf h.txProfile - r.positions.length))).withPort p :=
  headerStored_eq h r.snr _ (goodEffect (s.recordTaken r))

/-- The record counted, the link unit moves by the good header and stores its fields (R15, R16, R19, R22). -/
theorem headerTaken_link (e : judgeHeader r = .good h) : (s.headerTaken r h).link =
    (LinkUnit.goodHeader
      { s.link with startsSince := 0, counters := s.link.counters.taken (.good h) }).store h := by
  obtain ⟨p, k⟩ := headerTaken_eq s r h
  have link : (s.headerTaken r h).link = (goodEffect (s.recordTaken r)).link.store h := by rw [k]; rfl
  rw [link, goodEffect_link, State.recordTaken, e]
  rfl

theorem headerTaken_freeIndex : (s.headerTaken r h).freeIndex =
    s.freeIndex + 1 + (Config.blocksOf h.txProfile - r.positions.length) := by
  rw [State.headerTaken]
  rfl

theorem headerTaken_role : (s.headerTaken r h).role = s.role := by
  obtain ⟨p, k⟩ := headerTaken_eq s r h
  have role : (s.headerTaken r h).role = (goodEffect (s.recordTaken r)).role := by rw [k]; rfl
  exact role.trans (goodEffect_eventFrame _).role

/-- The ladder takes the sample; only a forced profile can differ, where a step ends (R27). -/
theorem headerTaken_ladder : (s.headerTaken r h).ladder =
    { (giveSample r.snr s).ladder with forced := (goodEffect (s.recordTaken r)).ladder.forced } := by
  obtain ⟨p, k⟩ := headerTaken_eq s r h
  have ladder : (s.headerTaken r h).ladder = (giveSample r.snr (goodEffect (s.recordTaken r))).ladder := by rw [k]; rfl
  have frame := (goodEffect_received (s.recordTaken r)).ladder
  have sent : (goodEffect (s.recordTaken r)).link.reqSent = s.link.reqSent := by
    rw [goodEffect_link, goodHeader_frame]
    rfl
  rw [ladder, giveSample_ladder, giveSample_ladder, frame, sent, sample_withForced]
  rfl

theorem headerTaken_timing : (s.headerTaken r h).timing = (goodEffect (s.recordTaken r)).timing := by
  obtain ⟨p, k⟩ := headerTaken_eq s r h
  rw [k]
  rfl

theorem headerTaken_tenants : (s.headerTaken r h).tenants = (goodEffect (s.recordTaken r)).tenants := by
  obtain ⟨p, k⟩ := headerTaken_eq s r h
  rw [k]
  rfl

theorem headerTaken_base : (s.headerTaken r h).timing.base.markers = s.timing.base.markers.tail ∧
    (s.headerTaken r h).timing.base.record = s.timing.base.record := by
  have k := goodEffect_received (s.recordTaken r)
  rw [headerTaken_timing]
  exact ⟨k.markers, k.record⟩

/-- Of the Time Transfer Unit a good header reaches the LINK source only (R130). -/
theorem headerTaken_xfer : (s.headerTaken r h).timing.xfer =
    { s.timing.xfer with link := (s.headerTaken r h).timing.xfer.link } := by
  rw [headerTaken_timing]
  rcases goodEffect_timing (s.recordTaken r) with e | e
  · rw [e]; rfl
  · rw [e, reselect_xfer]; rfl

theorem headerTaken_units (x : Tenant) : RunUnit (s.tenant x) ((s.headerTaken r h).tenant x) := by
  have k := (goodEffect_received (s.recordTaken r)).units x
  have e : (s.headerTaken r h).tenant x = (goodEffect (s.recordTaken r)).tenant x := by
    rw [State.tenant, headerTaken_tenants]
    rfl
  rw [e]
  exact k

/-- Outside a run, or in UP before, the Test Controller takes the end mark alone, and no unit and no force changes. -/
theorem headerTaken_untouched (k : s.test.runState ≠ .running ∨ s.link.state = .up) :
    (s.headerTaken r h).tenants = s.tenants ∧ (s.headerTaken r h).ladder.forced = s.ladder.forced ∧
    (s.headerTaken r h).test =
      if (s.headerTaken r h).link.state = .up then s.test.marked h.endMark else s.test := by
  obtain ⟨test, tenants, ladder⟩ := goodEffect_untouched (s.recordTaken r) k
  obtain ⟨p, e⟩ := headerTaken_eq s r h
  have vtest : (s.headerTaken r h).test = if (s.headerTaken r h).link.state = .up
      then (goodEffect (s.recordTaken r)).test.marked h.endMark else (goodEffect (s.recordTaken r)).test := by
    rw [e]; rfl
  refine ⟨(headerTaken_tenants s r h).trans tenants, ?_, by rw [vtest, test]; rfl⟩
  rw [headerTaken_ladder, ladder]
  rfl

end

/-! ## The blocks routed -/

/-- The state after the control blocks of a frame. -/
def State.controlsRouted (s : State) (h : Header) (m : Stamp) (ps : List Position) : State :=
  (h.controls.zip (ps.drop 1)).foldl (routeControl m) s

theorem controlsRouted_received (s : State) (h : Header) (m : Stamp) (ps : List Position) :
    Received s (s.controlsRouted h m ps) := by
  unfold State.controlsRouted
  generalize h.controls.zip (ps.drop 1) = l
  induction l generalizing s with
  | nil => exact .refl s
  | cons kp l ih => exact (routeControl_received m s kp).trans (ih (routeControl m s kp))

theorem routeFrame_below (h : Header) (m : Stamp) (ps : List Position) (s : State) (k : s.link.state ≠ .up) :
    routeFrame h m ps s = discardTraffic h.tenantBlocks.sum (s.controlsRouted h m ps) := if_neg k

/-- In UP the TEST blocks reach the checker, and then the TENANT blocks their units (R14, R21). -/
theorem routeFrame_up (h : Header) (m : Stamp) (ps : List Position) (s : State) (k : s.link.state = .up) :
    ∃ q, routeFrame h m ps s =
      (((s.controlsRouted h m ps).withTenants (Quad.ofFn fun x =>
        (tenantPart h.tenantBlocks (ps.drop (1 + h.controls.length + h.testBlocks)) x).foldl takesBlock
          ((s.controlsRouted h m ps).tenant x))).withTest
        (((s.controlsRouted h m ps).withTest (((ps.drop (1 + h.controls.length)).take h.testBlocks).foldl
          (fun u p => u.checkBlock p.bytes p.bad) (s.controlsRouted h m ps).test)).checksAll
          (tenantPart h.tenantBlocks (ps.drop (1 + h.controls.length + h.testBlocks))))).withPort q := by
  have e : routeFrame h m ps s = routeTenants h.tenantBlocks (ps.drop (1 + h.controls.length + h.testBlocks))
      (((ps.drop (1 + h.controls.length)).take h.testBlocks).foldl routeTest (s.controlsRouted h m ps)) := if_pos k
  rw [e, foldl_routeTest]
  exact routeTenants_eq _ _ _

/-- Behind the control blocks only the count of TENANT blocks discarded, the units, the checker and notices change. -/
theorem routeFrame_keeps (h : Header) (m : Stamp) (ps : List Position) (s : State) :
    (routeFrame h m ps s).timing = (s.controlsRouted h m ps).timing ∧
    (routeFrame h m ps s).ladder = (s.controlsRouted h m ps).ladder ∧
    (routeFrame h m ps s).freeIndex = (s.controlsRouted h m ps).freeIndex := by
  by_cases k : s.link.state = .up
  · obtain ⟨q, e⟩ := routeFrame_up h m ps s k
    rw [e]
    exact ⟨rfl, rfl, rfl⟩
  · rw [routeFrame_below h m ps s k]
    exact ⟨rfl, rfl, rfl⟩

/-- The link unit counts control blocks discarded, and below UP every TENANT block. -/
theorem routeFrame_link (h : Header) (m : Stamp) (ps : List Position) (s : State) : (routeFrame h m ps s).link =
    { s.link with counters := { s.link.counters with
        controlDiscarded := (h.controls.zip (ps.drop 1)).foldl
          (fun c kp => if discards s.role s.link.state kp = true then bump c else c) s.link.counters.controlDiscarded,
        tenantDiscarded := (if s.link.state = .up then s.link.counters.tenantDiscarded
          else addCount s.link.counters.tenantDiscarded h.tenantBlocks.sum) } } := by
  have link : (s.controlsRouted h m ps).link = _ := (routeControls_link m (h.controls.zip (ps.drop 1)) s).2
  by_cases k : s.link.state = .up
  · obtain ⟨q, e⟩ := routeFrame_up h m ps s k
    have same : (routeFrame h m ps s).link = (s.controlsRouted h m ps).link := by rw [e]; rfl
    rw [same, link, if_pos k]
  · rw [routeFrame_below h m ps s k, if_neg k, discardTraffic, State.withLink_link, link]

/-- Below UP no block reaches a unit. -/
theorem routeFrame_below_tenants (h : Header) (m : Stamp) (ps : List Position) (s : State) (k : s.link.state ≠ .up) :
    (routeFrame h m ps s).tenants = (s.controlsRouted h m ps).tenants := by
  rw [routeFrame_below h m ps s k]
  rfl

end Sys2Proof.Machine
end

section
/-! SUPPORT. What the blocks of a frame do to the Test Controller: the check record (R163, R164) and a received report
(R157, R164). -/

namespace Sys2Proof.Machine

/-! ## What the checker changes -/

/-- What the checker changes of the Test Controller: the check record, the pending report, and what it counts. -/
def CheckerOnly (a b : TestUnit) : Prop :=
  b = { a with check := b.check, report := b.report,
               counters := { a.counters with unassignedBad := b.counters.unassignedBad,
                                             reportsReplaced := b.counters.reportsReplaced } }

theorem CheckerOnly.refl (a : TestUnit) : CheckerOnly a a := rfl

theorem CheckerOnly.trans {a b c : TestUnit} (h : CheckerOnly a b) (k : CheckerOnly b c) : CheckerOnly a c := by
  unfold CheckerOnly at *
  rw [k, h]

section
variable {a b : TestUnit} (h : CheckerOnly a b)
include h
theorem CheckerOnly.runState : b.runState = a.runState := by rw [h]
theorem CheckerOnly.runId : b.runId = a.runId := by rw [h]
theorem CheckerOnly.work : b.work = a.work := by rw [h]
theorem CheckerOnly.results : b.results = a.results := by rw [h]
theorem CheckerOnly.acceptance : b.acceptance = a.acceptance := by rw [h]
theorem CheckerOnly.flag : b.flag = a.flag := by rw [h]
theorem CheckerOnly.unmatchedReports : b.counters.unmatchedReports = a.counters.unmatchedReports := by rw [h]
end

theorem marked_checkerOnly (t : TestUnit) (e : Option (BitVec 16)) : CheckerOnly t (t.marked e) := by
  unfold TestUnit.marked
  split
  · unfold TestUnit.endMarkTaken
    repeat' split
    all_goals rfl
  · rfl

theorem checkBlock_checkerOnly (t : TestUnit) (b : List Byte) (bad : Bool) : CheckerOnly t (t.checkBlock b bad) := by
  unfold TestUnit.checkBlock
  dsimp only
  split <;> rfl

theorem checkBlocks_checkerOnly (l : List Position) : ∀ t,
    CheckerOnly t (l.foldl (fun u p => u.checkBlock p.bytes p.bad) t) := by
  induction l with
  | nil => exact .refl
  | cons p l ih => exact fun t => (checkBlock_checkerOnly t p.bytes p.bad).trans (ih _)

/-! ## The check record under TENANT blocks (R164) -/

/-- A check record, if any, after a completed test packet: it goes into the record of its run and step, else into a new
one. -/
def recordsPacket (q : Packet) (c : Option CheckRecord) : CheckRecord :=
  let run := BitVec.ofNat 16 (numAt q.data 0 2)
  let step := (byteAt q.data 2).toNat
  let d := match CheckRecord.matchesTraffic c run step, c with
    | true, some d => d
    | _, _ => CheckRecord.fresh run step
  { d with packets := d.packets + 1, erroredBytes := d.erroredBytes + q.differing,
           erroredPackets := d.erroredPackets + (q.errored || decide (0 < q.differing)).toNat }

theorem checkPacket_eq (t : TestUnit) (q : Packet) : t.checkPacket q = { t with check := some (recordsPacket q t.check) } := rfl

/-- A unit and the check record after one TENANT block. -/
def recordsBlock (uc : TenantUnit × Option CheckRecord) (p : Position) : TenantUnit × Option CheckRecord :=
  match uc.1.takeBlock (segmentAt p.bytes) p.bad with
  | (_, .packet q) => (takesBlock uc.1 p, if q.origin = .test then some (recordsPacket q uc.2) else uc.2)
  | (_, .nothing) => (takesBlock uc.1 p, uc.2)

theorem recordsBlock_unit (uc : TenantUnit × Option CheckRecord) (p : Position) : (recordsBlock uc p).1 = takesBlock uc.1 p := by
  unfold recordsBlock
  split <;> rfl

theorem checksBlock_eq (u : TenantUnit) (p : Position) (t : TestUnit) :
    checksBlock u p t = { t with check := (recordsBlock (u, t.check) p).2 } := by
  unfold checksBlock recordsBlock
  dsimp only
  cases u.takeBlock (segmentAt p.bytes) p.bad with
  | mk v done =>
    cases done with
    | nothing => rfl
    | packet q =>
      cases o : q.origin with
      | test => simp only [o, if_true, checkPacket_eq]
      | tenant => simp only [o, reduceCtorEq, if_false]

theorem checksBlocks_eq (l : List Position) : ∀ (u : TenantUnit) (t : TestUnit),
    checksBlocks l u t = { t with check := (l.foldl recordsBlock (u, t.check)).2 } := by
  induction l with
  | nil => exact fun _ _ => rfl
  | cons p l ih =>
    intro u t
    have step : recordsBlock (u, t.check) p = (takesBlock u p, (recordsBlock (u, t.check) p).2) :=
      Prod.ext (recordsBlock_unit _ _) rfl
    have tail := ih (takesBlock u p) (checksBlock u p t)
    rw [checksBlock_eq] at tail
    rw [List.foldl_cons, step]
    exact (show checksBlocks (p :: l) u t = checksBlocks l (takesBlock u p) (checksBlock u p t) from rfl).trans
      ((congrArg _ (checksBlock_eq u p t)).trans tail)

/-- The TENANT blocks of a frame reach the Test Controller in its check record only. -/
theorem checksAll_eq (s : State) (l : Tenant → List Position) : s.checksAll l =
    { s.test with check := ((l .t3).foldl recordsBlock (s.tenant .t3, ((l .t2).foldl recordsBlock (s.tenant .t2,
      ((l .t1).foldl recordsBlock (s.tenant .t1, ((l .t0).foldl recordsBlock (s.tenant .t0, s.test.check)).2)).2)).2)).2 } := by
  simp only [State.checksAll, checksBlocks_eq]

theorem checksAll_checkerOnly (s : State) (l : Tenant → List Position) : CheckerOnly s.test (s.checksAll l) := by
  rw [checksAll_eq]
  rfl

/-- Behind the control blocks only the checker touches the Test Controller. -/
theorem routeFrame_checkerOnly (h : Header) (m : Stamp) (ps : List Position) (s : State) :
    CheckerOnly (s.controlsRouted h m ps).test (routeFrame h m ps s).test := by
  by_cases k : s.link.state = .up
  · obtain ⟨q, e⟩ := routeFrame_up h m ps s k
    rw [e]
    exact (checkBlocks_checkerOnly _ _).trans (checksAll_checkerOnly _ _)
  · rw [routeFrame_below h m ps s k]
    exact .refl _

/-! ## Control blocks outside a run, and without a report -/

/-- Outside a run a report is unmatched and nothing else (R164). -/
theorem takeReport_unmatched (r : Report) (s : State) (h : s.test.matchingWork r = none) : takeReport r s =
    s.withTest { s.test with counters := { s.test.counters with
      unmatchedReports := bump s.test.counters.unmatchedReports } } := by
  rw [takeReport, h]

theorem matchingWork_idle (t : TestUnit) (r : Report) (h : t.runState ≠ .running) : t.matchingWork r = none := by
  unfold TestUnit.matchingWork
  split
  · next e _ => exact absurd e h
  · rfl

/-- Control blocks that are no reports leave Test Controller, units and ladder where no step waits on them. -/
theorem routeControls_untouched (m : Stamp) (l : List (ControlKind × Position)) (k : ∀ kp ∈ l, kp.1 ≠ .testReport) :
    ∀ s : State, s.stepsHeld → Untouched s (l.foldl (routeControl m) s) := by
  induction l with
  | nil => exact fun s _ => .refl s
  | cons kp l ih =>
    intro s h
    have one := routeControl_untouched m s kp h fun e => absurd e (k kp (.head l))
    exact one.trans (ih (fun q i => k q (.tail kp i)) _ (one.held h))

/-- Outside a run no control block touches a unit, the forced profile or the run. -/
theorem routeControl_idle (m : Stamp) (s : State) (kp : ControlKind × Position) (h : s.test.runState ≠ .running) :
    (routeControl m s kp).tenants = s.tenants ∧ (routeControl m s kp).ladder = s.ladder ∧
    (routeControl m s kp).test.runState = s.test.runState := by
  by_cases k : kp.1 = .testReport ∧ discards s.role s.link.state kp = false
  · obtain ⟨kind, p⟩ := kp
    obtain ⟨rfl, d⟩ := k
    rw [routeControl_takes m s _ p d]
    dsimp only
    rw [takeReport_unmatched _ s (matchingWork_idle _ _ h)]
    exact ⟨rfl, rfl, rfl⟩
  · have u := routeControl_untouched m s kp (.inl h) fun e => Bool.eq_true_of_not_eq_false fun d => k ⟨e, d⟩
    exact ⟨u.tenants, u.ladder, by rw [u.test]⟩

theorem routeControls_idle (m : Stamp) (l : List (ControlKind × Position)) : ∀ s : State, s.test.runState ≠ .running →
    (l.foldl (routeControl m) s).tenants = s.tenants ∧ (l.foldl (routeControl m) s).ladder = s.ladder := by
  induction l with
  | nil => exact fun _ _ => ⟨rfl, rfl⟩
  | cons kp l ih =>
    intro s h
    obtain ⟨tenants, ladder, run⟩ := routeControl_idle m s kp h
    obtain ⟨t, k⟩ := ih (routeControl m s kp) (by rw [run]; exact h)
    exact ⟨t.trans tenants, k.trans ladder⟩

/-! ## The control blocks of a consistent header (R12) -/

/-- At most a TEST_REPORT follows the first control block. -/
theorem controls_cons (c : List ControlKind) (ps : List Position) (h : controlsConsistent c = true)
    (kp : ControlKind × Position) (e : (c.zip ps).head? = some kp) :
    ∃ rest, c.zip ps = kp :: rest ∧ ∀ q ∈ rest, q.1 = .testReport := by
  obtain ⟨rest, split⟩ := List.head?_eq_some_iff.mp e
  refine ⟨rest, split, fun q i => ?_⟩
  match c, ps, h, split with
  | [_], [_], _, split => cases split; simp at i
  | [_], _ :: _ :: _, _, split => cases split; simp at i
  | [_, _], [_], _, split => cases split; simp at i
  | [k, l], _ :: _ :: _, h, split =>
    cases split
    have notTiming : l.timing = false := by
      simp only [controlsConsistent, Bool.and_eq_true, Bool.not_eq_true'] at h
      exact h.2
    obtain rfl := List.mem_singleton.mp (by simpa using i)
    cases l with
    | testReport => rfl
    | _ => cases notTiming

/-- A TEST_REPORT is the last control block, and the only report. -/
theorem controls_report (c : List ControlKind) (ps : List Position) (h : controlsConsistent c = true) (p : Position)
    (i : (ControlKind.testReport, p) ∈ c.zip ps) :
    ∃ before, c.zip ps = before ++ [(.testReport, p)] ∧ ∀ q ∈ before, q.1 ≠ .testReport := by
  have single (k : ControlKind) (a : Position) (e : (ControlKind.testReport, p) ∈ [(k, a)]) :
      ∃ before, [(k, a)] = before ++ [(.testReport, p)] ∧ ∀ q ∈ before, q.1 ≠ ControlKind.testReport :=
    ⟨[], by rw [List.mem_singleton.mp e, List.nil_append], by simp⟩
  match c, ps, h with
  | [k], [a], _ => exact single k a i
  | [k], a :: _ :: _, _ => exact single k a (by simpa using i)
  | [k, _], [a], _ => exact single k a (by simpa using i)
  | [k, l], p1 :: p2 :: _, h =>
    have timing : k.timing = true := by
      simp only [controlsConsistent, Bool.and_eq_true] at h
      exact h.1
    have first : k ≠ .testReport := by rintro rfl; cases timing
    simp only [List.zip_cons_cons, List.zip_nil_left, List.mem_cons, List.not_mem_nil, or_false, Prod.mk.injEq] at i
    rcases i with ⟨e, -⟩ | ⟨rfl, rfl⟩
    · exact absurd e.symm first
    · exact ⟨[(k, p1)], rfl, by simpa using first⟩

/-! ## A received report (R157, R164) -/

/-- Outside a run a good TEST_REPORT in UP is counted as unmatched. -/
theorem controlsRouted_unmatched (s : State) (h : Header) (m : Stamp) (ps : List Position)
    (c : controlsConsistent h.controls = true) (idle : s.test.runState ≠ .running) (up : s.link.state = .up)
    (role : s.role ≠ none) (p : Position) (i : (ControlKind.testReport, p) ∈ h.controls.zip (ps.drop 1))
    (good : p.bad = false) : (s.controlsRouted h m ps).test.counters.unmatchedReports =
      bump s.test.counters.unmatchedReports := by
  obtain ⟨before, e, none⟩ := controls_report _ _ c p i
  have u := routeControls_untouched m before none s (.inl idle)
  obtain ⟨r, l⟩ := routeControls_link m before s
  have taken : discards (before.foldl (routeControl m) s).role (before.foldl (routeControl m) s).link.state
      (.testReport, p) = false := by
    rw [r, l]
    simp [discards, good, controlAccepted, up, badStamp, Option.isSome_iff_ne_none.mpr role]
  have calm : (before.foldl (routeControl m) s).test.runState ≠ .running := by rw [u.test]; exact idle
  rw [State.controlsRouted, e, List.foldl_append, List.foldl_cons, List.foldl_nil, routeControl_takes m _ _ _ taken]
  dsimp only
  rw [takeReport_unmatched _ _ (matchingWork_idle _ _ calm), u.test]
  rfl

/-- A report is matching exactly in TAIL or AWAIT_REPORT of a LINK_PATTERN or TENANT_PATH step that it names (R164). -/
theorem matchingWork_running (t : TestUnit) (g : Report) (w : Working) (run : t.runState = .running) (work : t.work = some w) :
    t.matchingWork g = if (w.step.body.kind = .linkPattern ∨ w.step.body.kind = .tenantPath) ∧
      (w.phase = .tail ∨ w.phase = .awaitReport) ∧ g.run = t.runId ∧ g.step = w.index then some w else none := by
  rw [TestUnit.matchingWork, run, work]

/-- `stepEnded` reads the log and the acceptance flag of the state before. -/
theorem stepEnded.of_log {w : Working} {v : Verdict} {e : EndReason} {s s' t : State} (h : stepEnded w v e s' t)
    (results : s'.test.results = s.test.results) (flag : s'.test.flag = s.test.flag) : stepEnded w v e s t := by
  simpa only [stepEnded, results, flag] using h

/-- A matching report taken in AWAIT_REPORT ends the step by its limits (R157). -/
theorem takeReport_ends (g : Report) (s : State) (w : Working) (h : s.test.matchingWork g = some w)
    (run : s.test.runState = .running) (phase : w.phase = .awaitReport) :
    stepEnded { w with report := some g } (evaluateReport { w with report := some g } g).1
      (evaluateReport { w with report := some g } g).2 s (takeReport g s) := by
  have e : takeReport g s = endOnReport { w with report := some g } g (s.withWork (some { w with report := some g })) := by
    rw [takeReport, h]
    exact if_pos phase
  rw [e]
  exact (endStep_stepEnded _ _ (s.withWork (some { w with report := some g })) _ run rfl).of_log rfl rfl

theorem takeReport_holds (g : Report) (s : State) (w : Working) (h : s.test.matchingWork g = some w)
    (phase : w.phase = .tail) : takeReport g s = s.withWork (some { w with report := some g }) := by
  rw [takeReport, h]
  exact if_neg (by rw [phase]; decide)

theorem evaluateReport_linkPattern (w : Working) (g : Report) (profile pattern blocks mode lead active tail errors miss)
    (body : w.step.body = .linkPattern profile pattern blocks mode lead active tail errors miss) : evaluateReport w g =
      if w.blocksSent ≤ g.blocks + miss ∧ g.erroredBlocks ≤ errors then (.pass, .none) else (.fail, .limitExceeded) := by
  simp only [evaluateReport, body, Nat.sub_le_iff_le_add]

theorem evaluateReport_tenantPath (w : Working) (g : Report) (x pattern packets length errors miss)
    (body : w.step.body = .tenantPath x pattern packets length errors miss) : evaluateReport w g =
      if w.sent ≤ g.packets + miss ∧ g.erroredPackets ≤ errors then (.pass, .none) else (.fail, .limitExceeded) := by
  simp only [evaluateReport, body, Nat.sub_le_iff_le_add]

end Sys2Proof.Machine
end

section
/-! SUPPORT. The timing control block of a frame at the Time Transfer Unit (R120, R123, R125, R126). -/

namespace Sys2Proof.Machine

/-! ## DELAY_REQ at the response list (R120) -/

section
variable (x : Transfer) (q : BitVec 16) (t : Stamp)

theorem takeReq_counted : (x.takeReq q t).counters.reqTaken = bump x.counters.reqTaken := by
  unfold Transfer.takeReq
  dsimp only
  repeat' split
  all_goals rfl

theorem takeReq_duplicate (h : ∃ e ∈ x.responses, e.seq = q) : (x.takeReq q t).responses = x.responses ∧
    (x.takeReq q t).counters.duplicates = bump x.counters.duplicates := by
  have k : (x.responses.any fun r => r.seq == q) = true := by simpa using h
  rw [Transfer.takeReq, if_pos k]
  exact ⟨rfl, rfl⟩

theorem takeReq_full (h : ∀ e ∈ x.responses, e.seq ≠ q) (n : 4 ≤ x.responses.length) :
    (x.takeReq q t).responses = x.responses ∧ (x.takeReq q t).counters.listFull = bump x.counters.listFull := by
  have k : ¬ (x.responses.any fun r => r.seq == q) = true := by simpa using h
  rw [Transfer.takeReq, if_neg k, if_pos n]
  exact ⟨rfl, rfl⟩

theorem takeReq_joins (h : ∀ e ∈ x.responses, e.seq ≠ q) (n : x.responses.length < 4) :
    (x.takeReq q t).responses = x.responses ++ [{ seq := q, t4 := t }] := by
  have k : ¬ (x.responses.any fun r => r.seq == q) = true := by simpa using h
  rw [Transfer.takeReq, if_neg k, if_neg (Nat.not_le.mpr n)]

end

/-! ## SYNC at the LINK source and the exchange table (R123, R130) -/

theorem judgeHubClass_class (l : LinkSource) (c : QClass) (up : Bool) : (l.judgeHubClass c up).1.hubClass = some c := by
  unfold LinkSource.judgeHubClass
  repeat' split
  all_goals rfl

theorem judgeHubClass_absent (l : LinkSource) (c : QClass) (up : Bool) (h : 3 < c.num) :
    (l.judgeHubClass c up).1.state = .absent := by
  have bad : ¬ QClassGood c = true := by simpa [QClassGood] using h
  unfold LinkSource.judgeHubClass
  rw [if_neg bad]
  split
  · assumption
  · rfl

theorem syncJudged_xfer (t : Timing) (c : QClass) (up : Bool) :
    (t.syncJudged c up).xfer.link = (t.xfer.link.judgeHubClass c up).1 ∧
    (t.syncJudged c up).xfer.counters.syncTaken = bump t.xfer.counters.syncTaken ∧
    (t.syncJudged c up).xfer.exchanges = t.xfer.exchanges := by
  rw [Timing.syncJudged, reselect_xfer]
  exact ⟨rfl, rfl, rfl⟩

/-- A SYNC taken: the hub class is judged at the source, then the exchange is entered. -/
theorem takeSync_xfer (b : List Byte) (m : Stamp) (s : State) : (takeSync b m s).timing.xfer =
    (s.timing.syncJudged (hubClassAt b) (s.link.state == .up)).xfer.enterSync (timingSeqAt b) (stampAt b 2)
      (m.shift (-(s.timing.base.record.lrx : Int))) s.link.frameCounter := by
  rw [takeSync, State.withTiming_timing, timingEvent_timing, timingEvent_link, syncJudged_record]

/-! ## DELAY_RESP at the exchange table (R125, R126) -/

theorem complete_frame (x : Transfer) (t1 t2 t3 t4 : Stamp) (a : Int) : (x.complete t1 t2 t3 t4 a).1.exchanges = x.exchanges ∧
    (x.complete t1 t2 t3 t4 a).1.counters.completed = bump x.counters.completed := by
  unfold Transfer.complete
  dsimp only
  split <;> exact ⟨rfl, rfl⟩

theorem takeResp_unmatched (x : Transfer) (q : BitVec 16) (t4 : Stamp) (a : Int)
    (h : ∀ e ∈ x.exchanges, e.seq = q → e.t3 = none) : x.takeResp q t4 a =
      ({ x with counters := { x.counters with unmatched := bump x.counters.unmatched } }, none) := by
  have none : (x.exchanges.find? fun e => e.seq == q && e.t3.isSome) = none := by
    refine List.find?_eq_none.mpr fun e i => ?_
    by_cases k : e.seq = q
    · simp [h e i k]
    · simp [k]
  rw [Transfer.takeResp, none]

/-- The exchange of a DELAY_RESP is completed and leaves the table. -/
theorem takeResp_completes (x : Transfer) (q : BitVec 16) (t4 : Stamp) (a : Int)
    (h : ∃ e ∈ x.exchanges, e.seq = q ∧ e.t3.isSome = true) :
    (x.takeResp q t4 a).1.exchanges = x.exchanges.filter (fun e => e.seq != q) ∧
    (x.takeResp q t4 a).1.counters.completed = bump x.counters.completed := by
  obtain ⟨e, i, k⟩ := h
  have found : (x.exchanges.find? fun e => e.seq == q && e.t3.isSome).isSome = true :=
    List.find?_isSome.mpr ⟨e, i, by simpa using k⟩
  obtain ⟨f, hf⟩ := Option.isSome_iff_exists.mp found
  have third := List.find?_some hf
  obtain ⟨seq, t1, t2, t3, f4, frame⟩ := f
  cases t3 with
  | none => simp at third
  | some t3 =>
    rw [Transfer.takeResp, hf]
    exact complete_frame _ _ _ _ _ _

/-- A measurement handed on changes the Time Transfer Unit only where a step of local time empties the exchange table. -/
theorem measure_xfer (t : Timing) (x : Source) (m w : Int) :
    (t.measure x m w).1.xfer = t.xfer ∨ (t.measure x m w).1.xfer = t.xfer.abandonExchanges := by
  have steps (u : Timing) : (u.makeStep x m w).xfer = u.xfer.abandonExchanges := by
    unfold Timing.makeStep
    dsimp only
    split <;> rfl
  have averages (u : Timing) : u.averageStage.xfer = u.xfer := by
    unfold Timing.averageStage
    split <;> rfl
  have counts (u : Timing) (e : Int) : (u.countStage e).xfer = u.xfer := by
    unfold Timing.countStage
    dsimp only
    repeat' split
    all_goals rfl
  unfold Timing.measure
  dsimp only
  split
  · split
    · exact .inr (steps _)
    · exact .inl ((counts _ _).trans (averages _))
  · exact .inl rfl

theorem handOn_xfer (x : Source) (m w : Int) (s : State) :
    (handOn x m w s).timing.xfer = s.timing.xfer ∨ (handOn x m w s).timing.xfer = s.timing.xfer.abandonExchanges := by
  have e : (handOn x m w s).timing = (s.timing.measure x m w).1 := by
    simp [handOn, (stepWatch_stepFrame _).timing]
  rw [e]
  exact measure_xfer _ _ _ _

/-- A DELAY_RESP without its exchange is counted and otherwise ignored. -/
theorem takeDelayResp_unmatched (b : List Byte) (s : State)
    (h : ∀ e ∈ s.timing.xfer.exchanges, e.seq = timingSeqAt b → e.t3 = none) : (takeDelayResp b s).timing.xfer =
      { s.timing.xfer with counters := { s.timing.xfer.counters with
          unmatched := bump s.timing.xfer.counters.unmatched } } := by
  unfold takeDelayResp
  rw [takeResp_unmatched _ _ _ _ h]
  dsimp only
  rw [timingEvent_timing, reselect_xfer]

theorem takeDelayResp_completes (b : List Byte) (s : State)
    (h : ∃ e ∈ s.timing.xfer.exchanges, e.seq = timingSeqAt b ∧ e.t3.isSome = true) :
    (takeDelayResp b s).timing.xfer.counters.completed = bump s.timing.xfer.counters.completed ∧
    ∀ e ∈ (takeDelayResp b s).timing.xfer.exchanges, e ∈ s.timing.xfer.exchanges ∧ e.seq ≠ timingSeqAt b := by
  obtain ⟨exchanges, completed⟩ :=
    takeResp_completes s.timing.xfer (timingSeqAt b) (stampAt b 2) s.timing.base.record.asymmetry h
  have left (e : Exchange) (i : e ∈ s.timing.xfer.exchanges.filter fun e => e.seq != timingSeqAt b) :
      e ∈ s.timing.xfer.exchanges ∧ e.seq ≠ timingSeqAt b := by simpa using i
  unfold takeDelayResp
  generalize s.timing.xfer.takeResp (timingSeqAt b) (stampAt b 2) s.timing.base.record.asymmetry = y at exchanges completed
  have taken : (timingEvent ({ s.timing with xfer := y.1 } : Timing).reselect s).timing.xfer = y.1 := by
    rw [timingEvent_timing, reselect_xfer]
  dsimp only
  split
  · rw [taken, completed, exchanges]
    exact ⟨rfl, left⟩
  · next m w _ =>
    rcases handOn_xfer .link m w (timingEvent ({ s.timing with xfer := y.1 } : Timing).reselect s) with e | e
    · rw [e, taken, completed, exchanges]
      exact ⟨rfl, left⟩
    · rw [e, taken]
      exact ⟨completed, by simp [Transfer.abandonExchanges]⟩

/-! ## The first control block of a frame -/

/-- A report, taken or not, leaves the timing blocks alone. -/
theorem routeReports_timing (m : Stamp) (l : List (ControlKind × Position)) (h : ∀ q ∈ l, q.1 = .testReport) :
    ∀ s, (l.foldl (routeControl m) s).timing = s.timing := by
  induction l with
  | nil => exact fun _ => rfl
  | cons kp l ih =>
    intro s
    obtain ⟨k, p⟩ := kp
    obtain rfl : k = .testReport := h _ (.head l)
    rw [List.foldl_cons, ih fun q i => h q (.tail _ i)]
    cases d : discards s.role s.link.state (.testReport, p) with
    | true => rw [routeControl_discards m s _ d]; rfl
    | false =>
      rw [routeControl_takes m s _ p d]
      exact (takeReport_stepFrame _ s).timing

/-- The timing blocks are changed by the first control block of a frame alone (R12). -/
theorem controlsRouted_timing (s : State) (h : Header) (m : Stamp) (ps : List Position)
    (c : controlsConsistent h.controls = true) (kp : ControlKind × Position)
    (e : (h.controls.zip (ps.drop 1)).head? = some kp) :
    (s.controlsRouted h m ps).timing = (routeControl m s kp).timing := by
  obtain ⟨rest, split, reports⟩ := controls_cons _ _ c kp e
  rw [State.controlsRouted, split, List.foldl_cons]
  exact routeReports_timing m rest reports _

/-- The roles by which a timing control block is wanted (R20). -/
def wantedBy (role : Option Role) (k : ControlKind) : Prop :=
  (k = .sync ∧ role = some .trailer) ∨ (k = .delayReq ∧ role = some .hub) ∨ (k = .delayResp ∧ role = some .trailer)

/-- The timestamp of a control block is none (R183). -/
def stampless (k : ControlKind) (b : List Byte) : Prop := (k = .sync ∨ k = .delayResp) ∧ 999999999 < (stampAt b 2).ns

theorem badStamp_iff (k : ControlKind) (b : List Byte) : badStamp k b = true ↔ stampless k b := by
  cases k <;> simp [badStamp, stampless]

/-- A control block that is bad, not wanted or stampless leaves the timing blocks as they are. -/
theorem routeControl_unwanted (m : Stamp) (s : State) (k : ControlKind) (p : Position)
    (h : p.bad = true ∨ ¬ wantedBy s.role k ∨ stampless k p.bytes) : (routeControl m s (k, p)).timing = s.timing := by
  cases d : discards s.role s.link.state (k, p) with
  | true => rw [routeControl_discards m s _ d]; rfl
  | false =>
    rw [routeControl_takes m s k p d]
    obtain ⟨good, accepted, stamp⟩ : p.bad = false ∧ controlAccepted s.role s.link.state k = true ∧
        badStamp k p.bytes = false := by
      simpa [discards, and_assoc] using d
    have unwanted : ¬ wantedBy s.role k := by
      rcases h with h | h | h
      · rw [good] at h; cases h
      · exact h
      · rw [(badStamp_iff k p.bytes).mpr h] at stamp; cases stamp
    cases k with
    | sync => exact absurd (.inl ⟨rfl, by simp [controlAccepted] at accepted; exact accepted.1⟩) unwanted
    | delayReq => exact absurd (.inr (.inl ⟨rfl, by simp [controlAccepted] at accepted; exact accepted.1⟩)) unwanted
    | delayResp => exact absurd (.inr (.inr ⟨rfl, by simp [controlAccepted] at accepted; exact accepted.1⟩)) unwanted
    | testReport => exact (takeReport_stepFrame _ s).timing

/-- A wanted timing control block is taken where the link is not DOWN. -/
theorem discards_wanted (role : Option Role) (link : LinkState) (k : ControlKind) (p : Position) (up : link ≠ .down)
    (good : p.bad = false) (wanted : wantedBy role k) (stamp : ¬ stampless k p.bytes) :
    discards role link (k, p) = false := by
  have fine : badStamp k p.bytes = false := Bool.eq_false_iff.mpr (mt (badStamp_iff k p.bytes).mp stamp)
  have accepted : controlAccepted role link k = true := by
    rcases wanted with ⟨rfl, e⟩ | ⟨rfl, e⟩ | ⟨rfl, e⟩ <;> simp [controlAccepted, e, up]
  simp only [discards, good, accepted, fine, Bool.not_true, Bool.or_self]

end Sys2Proof.Machine
end

section
/-! PROOF. A record with a good header (R12, R15 to R21). -/

namespace Sys2Proof.Machine

/-! ## The record judged and routed -/

theorem judgeHeader_bytes (r : FrameRecord) (h : Header) (ps : List Position) (wf : h.wf = true)
    (e : r.positions = { bytes := h.bytes, bad := false } :: ps) : judgeHeader r = .good h :=
  judgeHeader_good r _ ps e rfl h.check_passes h (h.headerAt_bytes wf)

/-- The state after the blocks of a good header's frame, before the choice on a free line. -/
def State.frameTaken (s : State) (r : FrameRecord) (h : Header) : State :=
  routeFrame h s.recordMarker (padPositions (Config.blocksOf h.txProfile) s.freeIndex r.positions) (s.headerTaken r h)

theorem exec_goodRecord (s : State) (r : FrameRecord) (h : Header) (role : s.role ≠ none) (quiet : s.quiet = true)
    (e : judgeHeader r = .good h) : exec (.receivedFrameRecord r) s = .next (announce (s.frameTaken r h)) := by
  refine congrArg Host.Outcome.next (congrArg announce ?_)
  rw [if_neg role, settle_quiet s quiet, takeFrame_routes r s h e]
  rfl

/-- The link unit after the record: the good header's move and its fields, and the two counts of blocks discarded. -/
theorem frameTaken_link (s : State) (r : FrameRecord) (h : Header) (e : judgeHeader r = .good h) : ∃ l n d,
    l = LinkUnit.goodHeader { s.link with startsSince := 0, counters := s.link.counters.taken (.good h) } ∧
    (s.frameTaken r h).link = { l.store h with counters := { l.counters with controlDiscarded := n, tenantDiscarded := d } } ∧
    n = (h.controls.zip ((padPositions (Config.blocksOf h.txProfile) s.freeIndex r.positions).drop 1)).foldl
      (fun c kp => if discards s.role l.state kp = true then bump c else c) s.link.counters.controlDiscarded ∧
    d = if l.state = .up then s.link.counters.tenantDiscarded
      else addCount s.link.counters.tenantDiscarded h.tenantBlocks.sum := by
  have link := routeFrame_link h s.recordMarker (padPositions (Config.blocksOf h.txProfile) s.freeIndex r.positions)
    (s.headerTaken r h)
  rw [headerTaken_link s r h e, headerTaken_role] at link
  refine ⟨_, _, _, rfl, link, ?_, ?_⟩
  · rw [goodHeader_frame]
    rfl
  · rw [goodHeader_frame]
    rfl

/-- What the blocks of a frame leave of ladder, captures and free index. -/
theorem frameTaken_keeps (s : State) (r : FrameRecord) (h : Header) :
    (s.frameTaken r h).freeIndex = s.freeIndex + 1 + (Config.blocksOf h.txProfile - r.positions.length) ∧
    (s.frameTaken r h).timing.base.markers = s.timing.base.markers.tail ∧
    (s.frameTaken r h).ladder = { (giveSample r.snr s).ladder with forced := (s.frameTaken r h).ladder.forced } := by
  obtain ⟨timing, ladder, freeIndex⟩ := routeFrame_keeps h s.recordMarker
    (padPositions (Config.blocksOf h.txProfile) s.freeIndex r.positions) (s.headerTaken r h)
  have k := controlsRouted_received (s.headerTaken r h) h s.recordMarker
    (padPositions (Config.blocksOf h.txProfile) s.freeIndex r.positions)
  rw [State.frameTaken, timing, ladder, freeIndex]
  refine ⟨k.freeIndex.trans (headerTaken_freeIndex s r h), k.markers.trans (headerTaken_base s r h).1, ?_⟩
  have sampled := k.ladder
  rw [headerTaken_ladder] at sampled
  exact sampled

/-! ## The units and the Test Controller -/

section
variable (s : State) (r : FrameRecord) (h : Header) (m : Stamp) (ps : List Position)

/-- Outside a run neither header nor control blocks touch a unit or the forced profile. -/
theorem controlsRouted_idle (k : s.test.runState ≠ .running) :
    ((s.headerTaken r h).controlsRouted h m ps).tenants = s.tenants ∧
    ((s.headerTaken r h).controlsRouted h m ps).ladder.forced = s.ladder.forced := by
  obtain ⟨tenants, forced, test⟩ := headerTaken_untouched s r h (.inl k)
  have run : (s.headerTaken r h).test.runState ≠ .running := by
    rw [test]
    split
    · rw [(marked_checkerOnly s.test h.endMark).runState]; exact k
    · exact k
  obtain ⟨t, l⟩ := routeControls_idle m (h.controls.zip (ps.drop 1)) (s.headerTaken r h) run
  exact ⟨t.trans tenants, (congrArg Ladder.forced l).trans forced⟩

/-- Header and control blocks end no step: outside a run, or in UP with no control block, or with no TEST_REPORT while
the current step does not wait on the timing blocks. -/
def State.stepStays (s : State) (h : Header) : Prop := s.test.runState ≠ .running ∨
  (s.link.state = .up ∧ (h.controls = [] ∨ (.testReport ∉ h.controls ∧ ∀ w, s.test.work = some w →
    w.step.body.kind = .linkPattern ∨ w.step.body.kind = .tenantPath)))

/-- Without a TEST_REPORT the control blocks leave the Test Controller as the end mark left it. -/
theorem controlsRouted_untouched (k : s.stepStays h) (none : .testReport ∉ h.controls) :
    Untouched (s.headerTaken r h) ((s.headerTaken r h).controlsRouted h m ps) := by
  have kinds : ∀ kp ∈ h.controls.zip (ps.drop 1), kp.1 ≠ .testReport := fun kp i e =>
    none (e ▸ (List.of_mem_zip (a := kp.1) (b := kp.2) i).1)
  have held (mark : s.test.runState ≠ .running ∨ s.link.state = .up) (held : s.stepsHeld) : (s.headerTaken r h).stepsHeld := by
    obtain ⟨-, -, test⟩ := headerTaken_untouched s r h mark
    rw [State.stepsHeld, test]
    split
    · rw [(marked_checkerOnly s.test h.endMark).runState, (marked_checkerOnly s.test h.endMark).work]; exact held
    · exact held
  rcases k with k | ⟨up, k | ⟨-, k⟩⟩
  · exact routeControls_untouched m _ kinds _ (held (.inl k) (.inl k))
  · rw [State.controlsRouted, k]
    exact .refl _
  · exact routeControls_untouched m _ kinds _ (held (.inr up) (.inr k))

theorem controlsRouted_traffic (k : s.stepStays h) :
    ((s.headerTaken r h).controlsRouted h m ps).tenants = s.tenants ∧
    ((s.headerTaken r h).controlsRouted h m ps).ladder.forced = s.ladder.forced := by
  have k' := k
  rcases k with k | ⟨up, none⟩
  · exact controlsRouted_idle s r h m ps k
  · have none : .testReport ∉ h.controls := by
      rcases none with e | ⟨e, -⟩
      · rw [e]; exact List.not_mem_nil
      · exact e
    have u := controlsRouted_untouched s r h m ps k' none
    obtain ⟨tenants, forced, -⟩ := headerTaken_untouched s r h (.inr up)
    exact ⟨u.tenants.trans tenants, (congrArg Ladder.forced u.ladder).trans forced⟩

end

/-- The TENANT blocks of a tenant in a frame. -/
def Header.blocksFor (h : Header) (ps : List Position) (x : Tenant) : List Position :=
  tenantPart h.tenantBlocks (ps.drop (1 + h.controls.length + h.testBlocks)) x

/-- In UP each unit takes its TENANT blocks, and the checker the end mark, the TEST blocks and the test packets. -/
theorem frameTaken_traffic (s : State) (r : FrameRecord) (h : Header) (up : (s.headerTaken r h).link.state = .up)
    (k : s.stepStays h) (ps : List Position)
    (eps : ps = padPositions (Config.blocksOf h.txProfile) s.freeIndex r.positions) :
    (s.frameTaken r h).ladder.forced = s.ladder.forced ∧
    (∀ x, (s.frameTaken r h).tenant x = (h.blocksFor ps x).foldl takesBlock (s.tenant x)) ∧
    (.testReport ∉ h.controls → ∃ blocks,
      blocks = ((ps.drop (1 + h.controls.length)).take h.testBlocks).foldl (fun u p => u.checkBlock p.bytes p.bad)
        (s.test.marked h.endMark) ∧
      (s.frameTaken r h).test = { blocks with check :=
        ((h.blocksFor ps .t3).foldl recordsBlock (s.tenant .t3, ((h.blocksFor ps .t2).foldl recordsBlock (s.tenant .t2,
          ((h.blocksFor ps .t1).foldl recordsBlock (s.tenant .t1, ((h.blocksFor ps .t0).foldl recordsBlock
            (s.tenant .t0, blocks.check)).2)).2)).2)).2 }) := by
  subst eps
  obtain ⟨tenants, forced⟩ := controlsRouted_traffic s r h s.recordMarker
    (padPositions (Config.blocksOf h.txProfile) s.freeIndex r.positions) k
  obtain ⟨q, e⟩ := routeFrame_up h s.recordMarker (padPositions (Config.blocksOf h.txProfile) s.freeIndex r.positions)
    (s.headerTaken r h) up
  have unit (x : Tenant) : ((s.headerTaken r h).controlsRouted h s.recordMarker
      (padPositions (Config.blocksOf h.txProfile) s.freeIndex r.positions)).tenant x = s.tenant x := by
    rw [State.tenant, tenants, State.tenant]
  have vtest : (s.headerTaken r h).test = s.test.marked h.endMark := by
    have idleOrUp : s.test.runState ≠ .running ∨ s.link.state = .up := k.imp id And.left
    rw [(headerTaken_untouched s r h idleOrUp).2.2, if_pos up]
  refine ⟨?_, fun x => ?_, fun none => ⟨_, rfl, ?_⟩⟩
  · rw [State.frameTaken, (routeFrame_keeps h _ _ _).2.1]
    exact forced
  · rw [State.frameTaken, e, State.tenant_withPort, State.tenant_withTest, State.tenant, State.withTenants_tenants,
      Quad.get_ofFn, unit]
    rfl
  · have untouched := controlsRouted_untouched s r h s.recordMarker
      (padPositions (Config.blocksOf h.txProfile) s.freeIndex r.positions) k none
    have test := untouched.test.trans vtest
    rw [State.frameTaken, e, State.withPort_test, State.withTest_test, checksAll_eq]
    simp only [State.tenant_withTest, unit, State.withTest_test, test]
    rfl

end Sys2Proof.Machine
end

section
/-! PROOF. A record with a good header (R12, R15 to R21): its report and timing block, and the statement. -/

namespace Sys2Proof.Machine

/-! ## A report in the frame (R157, R164) -/

theorem headerTaken_stays_up (s : State) (r : FrameRecord) (h : Header) (e : judgeHeader r = .good h)
    (up : s.link.state = .up) : (s.headerTaken r h).link.state = .up := by
  rw [headerTaken_link s r h e]
  exact (congrArg LinkUnit.state (goodHeader_up (l := { s.link with startsSince := 0, counters := _ }) up)).trans up

theorem headerTaken_test (s : State) (r : FrameRecord) (h : Header) (up : (s.headerTaken r h).link.state = .up)
    (k : s.test.runState ≠ .running ∨ s.link.state = .up) : (s.headerTaken r h).test = s.test.marked h.endMark := by
  rw [(headerTaken_untouched s r h k).2.2, if_pos up]

/-- Outside a run a good TEST_REPORT in UP is counted as unmatched. -/
theorem frameTaken_unmatched (s : State) (r : FrameRecord) (h : Header) (wf : h.wf = true) (role : s.role ≠ none)
    (up : (s.headerTaken r h).link.state = .up) (idle : s.test.runState ≠ .running) (p : Position)
    (i : (ControlKind.testReport, p) ∈
      h.controls.zip ((padPositions (Config.blocksOf h.txProfile) s.freeIndex r.positions).drop 1))
    (good : p.bad = false) :
    (s.frameTaken r h).test.counters.unmatchedReports = bump s.test.counters.unmatchedReports := by
  obtain ⟨-, -, consistent, -⟩ := h.wf_iff.mp wf
  have test := headerTaken_test s r h up (.inl idle)
  have mark := marked_checkerOnly s.test h.endMark
  have run : (s.headerTaken r h).test.runState ≠ .running := by rw [test, mark.runState]; exact idle
  have counted := controlsRouted_unmatched (s.headerTaken r h) h s.recordMarker _ consistent run up
    (by rw [headerTaken_role]; exact role) p i good
  rw [State.frameTaken, (routeFrame_checkerOnly h _ _ _).unmatchedReports, counted, test, mark.unmatchedReports]

/-- A single good report in UP during a run: without a match counted, in TAIL held, in AWAIT_REPORT the step's end. -/
theorem frameTaken_report (s : State) (r : FrameRecord) (h : Header) (e : judgeHeader r = .good h) (role : s.role ≠ none)
    (up : s.link.state = .up) (w : Working) (p : Position) (run : s.test.runState = .running) (work : s.test.work = some w)
    (single : h.controls.zip ((padPositions (Config.blocksOf h.txProfile) s.freeIndex r.positions).drop 1) =
      [(.testReport, p)])
    (good : p.bad = false) (g : Report) (eg : g = reportAt p.bytes) (matching : Prop)
    (em : matching ↔ (w.phase = .tail ∨ w.phase = .awaitReport) ∧ g.run = s.test.runId ∧ g.step = w.index ∧
      (w.step.body.kind = .linkPattern ∨ w.step.body.kind = .tenantPath)) :
    (¬ matching → (s.frameTaken r h).test.counters.unmatchedReports = bump s.test.counters.unmatchedReports ∧
      (s.frameTaken r h).test.work = some w) ∧
    (matching → w.phase = .tail → (s.frameTaken r h).test.work = some { w with report := some g }) ∧
    (matching → w.phase = .awaitReport → stepEnded { w with report := some g }
      (evaluateReport { w with report := some g } g).1 (evaluateReport { w with report := some g } g).2 s
      (s.frameTaken r h)) := by
  have upNow := headerTaken_stays_up s r h e up
  have test := headerTaken_test s r h upNow (.inr up)
  have mark := marked_checkerOnly s.test h.endMark
  have taken : discards (s.headerTaken r h).role (s.headerTaken r h).link.state (.testReport, p) = false := by
    rw [headerTaken_role]
    simp [discards, good, controlAccepted, upNow, badStamp, Option.isSome_iff_ne_none.mpr role]
  have routed : (s.headerTaken r h).controlsRouted h s.recordMarker
      (padPositions (Config.blocksOf h.txProfile) s.freeIndex r.positions) = takeReport g (s.headerTaken r h) := by
    rw [State.controlsRouted, single, List.foldl_cons, List.foldl_nil, routeControl_takes _ _ _ _ taken, eg]
  have checker := routeFrame_checkerOnly h s.recordMarker
    (padPositions (Config.blocksOf h.txProfile) s.freeIndex r.positions) (s.headerTaken r h)
  rw [routed] at checker
  have vrun : (s.headerTaken r h).test.runState = .running := by rw [test, mark.runState]; exact run
  have vwork : (s.headerTaken r h).test.work = some w := by rw [test, mark.work]; exact work
  have found := matchingWork_running (s.headerTaken r h).test g w vrun vwork
  have vid : (s.headerTaken r h).test.runId = s.test.runId := by rw [test, mark.runId]
  rw [vid] at found
  have some (k : matching) : (s.headerTaken r h).test.matchingWork g = some w := by
    obtain ⟨phase, named, index, kind⟩ := em.mp k
    exact found.trans (if_pos ⟨kind, phase, named, index⟩)
  rw [State.frameTaken]
  refine ⟨fun k => ?_, fun k tail => ?_, fun k await => ?_⟩
  · have none : (s.headerTaken r h).test.matchingWork g = none :=
      found.trans (if_neg fun ⟨kind, phase, named, index⟩ => k (em.mpr ⟨phase, named, index, kind⟩))
    rw [takeReport_unmatched g _ none] at checker
    exact ⟨checker.unmatchedReports.trans (by rw [test]; exact congrArg bump mark.unmatchedReports), checker.work.trans vwork⟩
  · rw [takeReport_holds g _ w (some k) tail] at checker
    exact checker.work
  · have ended := takeReport_ends g (s.headerTaken r h) w (some k) vrun await
    exact (ended.later (logGrows_of_eq checker.results checker.work checker.acceptance checker.runState)).of_log
      (by rw [test]; exact mark.results) (by rw [test]; exact mark.flag)

/-! ## The timing block of the frame (R20, R120, R123, R125) -/

/-- The timing blocks after the frame are those after its first control block. -/
theorem frameTaken_timing (s : State) (r : FrameRecord) (h : Header) (wf : h.wf = true) (kp : ControlKind × Position)
    (e : (h.controls.zip ((padPositions (Config.blocksOf h.txProfile) s.freeIndex r.positions).drop 1)).head? = some kp) :
    (s.frameTaken r h).timing = (routeControl s.recordMarker (s.headerTaken r h) kp).timing := by
  obtain ⟨-, -, consistent, -⟩ := h.wf_iff.mp wf
  rw [State.frameTaken, (routeFrame_keeps h _ _ _).1]
  exact controlsRouted_timing _ h _ _ consistent kp e

/-- At a TRAILER's entry to UP an ABSENT source without a bad hub class is QUALIFYING, where no control block follows. -/
theorem frameTaken_qualifying (s : State) (r : FrameRecord) (h : Header) (acquire : s.link.state = .acquire)
    (enough : 16 ≤ s.link.good + 1) (trailer : s.role = some .trailer) (absent : s.timing.xfer.link.state = .absent)
    (none : h.controls = []) (classes : ∀ c, s.timing.xfer.link.hubClass = some c → c.num ≤ 3) :
    (s.frameTaken r h).timing.xfer.link.state = .qualifying := by
  have routed : (s.headerTaken r h).controlsRouted h s.recordMarker
      (padPositions (Config.blocksOf h.txProfile) s.freeIndex r.positions) = s.headerTaken r h := by
    rw [State.controlsRouted, none]
    rfl
  have entered : (goodEffect (s.recordTaken r)).timing.xfer.link = s.timing.xfer.link.entersUp := by
    have e : goodEffect (s.recordTaken r) = enterUpTiming (((s.recordTaken r).withLink { (s.recordTaken r).link with
        state := .up, good := (s.recordTaken r).link.good + 1, lost := 0 }).raiseLink .acquire .acquired) := by
      have state : (s.recordTaken r).link.state = .acquire := acquire
      rw [goodEffect, state]
      exact if_pos enough
    have role : (((s.recordTaken r).withLink { (s.recordTaken r).link with
        state := .up, good := (s.recordTaken r).link.good + 1, lost := 0 }).raiseLink .acquire .acquired).role =
        some .trailer :=
      (raiseLink_onlyNotices _ _ _).eventFrame.role.trans trailer
    rw [e, enterUpTiming, if_pos role, timingEvent_timing, reselect_xfer, (raiseLink_onlyNotices _ _ _).timing]
    rfl
  have good : (s.timing.xfer.link.hubClass.map QClassGood).getD true = true := by
    cases c : s.timing.xfer.link.hubClass with
    | none => rfl
    | some q => simpa [QClassGood] using classes q c
  rw [State.frameTaken, (routeFrame_keeps h _ _ _).1, routed, headerTaken_timing, entered, LinkSource.entersUp,
    if_pos ⟨absent, good⟩]
  rfl

/-! ## The control blocks discarded (R20, R183) -/

theorem discards_eq (role : Option Role) (link : LinkState) (kp : ControlKind × Position) (r : role ≠ none)
    (l : link ≠ .down) : discards role link kp = (kp.2.bad ||
      !((kp.1 == .sync && role == some .trailer) || (kp.1 == .delayReq && role == some .hub) ||
        (kp.1 == .delayResp && role == some .trailer) || (kp.1 == .testReport && link == .up)) ||
      ((kp.1 == .sync || kp.1 == .delayResp) && decide (999999999 < (stampAt kp.2.bytes 2).ns))) := by
  obtain ⟨k, p⟩ := kp
  have present : role.isSome = true := Option.isSome_iff_ne_none.mpr r
  have notDown : (link != .down) = true := by simpa using l
  cases k <;> simp [discards, controlAccepted, badStamp, present, notDown, beq_eq_decide]

/-! ## The statement's own packet and unit functions -/

theorem recordsPacket_eq (q : Packet) (c : Option CheckRecord) : recordsPacket q c =
    (let run := BitVec.ofNat 16 (numAt q.data 0 2)
     let index := (byteAt q.data 2).toNat
     let fresh : CheckRecord := { run := run, step := index, blocks := 0, erroredBlocks := 0, erroredBytes := 0,
                                  missing := 0, lastSeq := none, packets := 0, erroredPackets := 0, reported := false }
     let d := match c with
       | some d => if d.run = run ∧ d.step = index ∧ d.reported = false then d else fresh
       | none => fresh
     { d with packets := d.packets + 1, erroredBytes := d.erroredBytes + q.differing,
              erroredPackets := if q.errored = true ∨ 0 < q.differing then d.erroredPackets + 1
                else d.erroredPackets }) := by
  have counts (n : Nat) : n + (q.errored || decide (0 < q.differing)).toNat =
      if q.errored = true ∨ 0 < q.differing then n + 1 else n := by
    by_cases k : q.errored = true ∨ 0 < q.differing
    · have b : (q.errored || decide (0 < q.differing)) = true := by simpa using k
      rw [if_pos k, b]
      rfl
    · have b : (q.errored || decide (0 < q.differing)) = false := by simpa using k
      rw [if_neg k, b]
      rfl
  unfold recordsPacket
  dsimp only
  rw [counts]
  cases c with
  | none => rfl
  | some d =>
    by_cases k : d.run = BitVec.ofNat 16 (numAt q.data 0 2) ∧ d.step = (byteAt q.data 2).toNat ∧ d.reported = false
    · have b : CheckRecord.matchesTraffic (some d) (BitVec.ofNat 16 (numAt q.data 0 2)) (byteAt q.data 2).toNat = true := by
        simpa [CheckRecord.matchesTraffic, and_assoc] using k
      rw [b]
      dsimp only
      rw [if_pos k]
    · have b : CheckRecord.matchesTraffic (some d) (BitVec.ofNat 16 (numAt q.data 0 2)) (byteAt q.data 2).toNat = false := by
        simpa [CheckRecord.matchesTraffic, and_assoc] using k
      rw [b]
      dsimp only
      rw [if_neg k]
      rfl

theorem takesBlock_eq (u : TenantUnit) (p : Position) : takesBlock u p =
    match u.takeBlock (segmentAt p.bytes) p.bad with
    | (v, .nothing) => v
    | (v, .packet q) => if q.origin = .test then v.completeTest else (v.completeTenant q).1 := by
  unfold takesBlock
  cases u.takeBlock (segmentAt p.bytes) p.bad with
  | mk v done =>
    cases done with
    | nothing => rfl
    | packet q => cases e : q.origin <;> simp [e]

end Sys2Proof.Machine
end

section
/-! PROOF. A record with a good header (R12, R15 to R21): the statement. -/

namespace Sys2Proof.Machine

theorem frameTaken_eventFrame (s : State) (r : FrameRecord) (h : Header) (e : judgeHeader r = .good h) :
    EventFrame s (s.frameTaken r h) := by
  have k := takeFrame_eventFrame r s
  rw [takeFrame_routes r s h e] at k
  exact k

/-- The link unit after the record, field by field. -/
theorem frameTaken_linkFields (s : State) (r : FrameRecord) (h : Header) (e : judgeHeader r = .good h) : ∃ l n d,
    l = LinkUnit.goodHeader { s.link with startsSince := 0, counters := s.link.counters.taken (.good h) } ∧
    (s.headerTaken r h).link.state = l.state ∧
    (s.frameTaken r h).link = { s.link with
      startsSince := 0, state := l.state, good := l.good, lost := l.lost, rxXoff := h.xoff, farReq := h.requested,
      farForce := h.force, lastSeq := some h.seq, farEnd := (if l.state = .up then h.endMark else s.link.farEnd),
      counters := { s.link.counters.taken (.good h) with controlDiscarded := n, tenantDiscarded := d } } ∧
    n = (h.controls.zip ((padPositions (Config.blocksOf h.txProfile) s.freeIndex r.positions).drop 1)).foldl
      (fun c kp => if discards s.role l.state kp = true then bump c else c) s.link.counters.controlDiscarded ∧
    d = if l.state = .up then s.link.counters.tenantDiscarded
      else addCount s.link.counters.tenantDiscarded h.tenantBlocks.sum := by
  obtain ⟨l, n, d, el, link, en, ed⟩ := frameTaken_link s r h e
  refine ⟨l, n, d, el, ?_, ?_, en, ed⟩
  · rw [headerTaken_link s r h e, el]
    rfl
  · have frame := goodHeader_frame { s.link with startsSince := 0, counters := s.link.counters.taken (.good h) }
    rw [← el] at frame
    rw [link, LinkUnit.store, frame]

/-- Below UP the egress side of every unit stays (R21). -/
theorem frameTaken_below (s : State) (r : FrameRecord) (h : Header) (k : (s.headerTaken r h).link.state ≠ .up) (x : Tenant) :
    RunUnit (s.tenant x) ((s.frameTaken r h).tenant x) := by
  have u := (headerTaken_units s r h x).trans ((controlsRouted_received (s.headerTaken r h) h s.recordMarker
    (padPositions (Config.blocksOf h.txProfile) s.freeIndex r.positions)).units x)
  have same := routeFrame_below_tenants h s.recordMarker
    (padPositions (Config.blocksOf h.txProfile) s.freeIndex r.positions) (s.headerTaken r h) k
  have e : (s.frameTaken r h).tenant x = ((s.headerTaken r h).controlsRouted h s.recordMarker
      (padPositions (Config.blocksOf h.txProfile) s.freeIndex r.positions)).tenant x := congrArg (Quad.get · x) same
  rw [e]
  exact u

theorem frameTaken_forced (s : State) (r : FrameRecord) (h : Header) (idle : s.test.runState ≠ .running) :
    (s.frameTaken r h).ladder.forced = s.ladder.forced := by
  rw [State.frameTaken, (routeFrame_keeps h _ _ _).2.1]
  exact (controlsRouted_idle s r h _ _ idle).2

theorem recordMarker_eq (s : State) (m : Stamp) (h : s.timing.base.markers.head? = some m) : s.recordMarker = m := by
  rw [State.recordMarker, h]
  rfl

/-- What a good header leaves of the Time Transfer Unit: both lists and the counters (R130). -/
theorem headerTaken_lists (s : State) (r : FrameRecord) (h : Header) :
    (s.headerTaken r h).timing.xfer.exchanges = s.timing.xfer.exchanges ∧
    (s.headerTaken r h).timing.xfer.responses = s.timing.xfer.responses ∧
    (s.headerTaken r h).timing.xfer.counters = s.timing.xfer.counters := by
  rw [headerTaken_xfer]
  exact ⟨rfl, rfl, rfl⟩

section
variable {s : State} {r : FrameRecord} {h : Header} {k : ControlKind} {p : Position} (wf : h.wf = true)
  (head : (h.controls.zip ((padPositions (Config.blocksOf h.txProfile) s.freeIndex r.positions).drop 1)).head? = some (k, p))

include wf head

/-- A first control block that is not taken leaves lists and counters. -/
theorem frameTaken_unwanted (n : p.bad = true ∨ ¬ wantedBy s.role k ∨ stampless k p.bytes) :
    (s.frameTaken r h).timing.xfer.exchanges = s.timing.xfer.exchanges ∧
    (s.frameTaken r h).timing.xfer.responses = s.timing.xfer.responses ∧
    (s.frameTaken r h).timing.xfer.counters = s.timing.xfer.counters := by
  rw [frameTaken_timing s r h wf _ head, routeControl_unwanted _ _ _ _ (by rw [headerTaken_role]; exact n)]
  exact headerTaken_lists s r h

end

/-- A wanted control block behind a good header is taken. -/
theorem headerTaken_takes {s : State} {r : FrameRecord} {h : Header} {k : ControlKind} {p : Position}
    (e : judgeHeader r = .good h) (good : p.bad = false) (wanted : wantedBy s.role k) (stamp : ¬ stampless k p.bytes) :
    discards (s.headerTaken r h).role (s.headerTaken r h).link.state (k, p) = false := by
  have up : (s.headerTaken r h).link.state ≠ .down := by
    rw [headerTaken_link s r h e]
    exact goodHeader_state _
  exact discards_wanted _ _ _ _ up good (by rw [headerTaken_role]; exact wanted) stamp

section
variable {s : State} {r : FrameRecord} {h : Header} {k : ControlKind} {p : Position} (wf : h.wf = true)
  (head : (h.controls.zip ((padPositions (Config.blocksOf h.txProfile) s.freeIndex r.positions).drop 1)).head? = some (k, p))
  (e : judgeHeader r = .good h) (good : p.bad = false) (wanted : wantedBy s.role k) (stamp : ¬ stampless k p.bytes)

include wf head e good wanted stamp

/-- A DELAY_REQ taken enters the response list with t4 from the record's capture (R120). -/
theorem frameTaken_delayReq (kind : k = .delayReq) (m : Stamp) (marker : s.timing.base.markers.head? = some m) :
    ∃ x : Transfer, x.responses = s.timing.xfer.responses ∧ x.counters = s.timing.xfer.counters ∧
      (s.frameTaken r h).timing.xfer =
        x.takeReq (timingSeqAt p.bytes) (m.shift (-(s.timing.base.record.lrx : Int))) := by
  subst kind
  obtain ⟨-, responses, counters⟩ := headerTaken_lists s r h
  refine ⟨_, responses, counters, ?_⟩
  rw [frameTaken_timing s r h wf _ head,
    routeControl_takes _ _ _ _ (headerTaken_takes e good wanted stamp)]
  dsimp only
  rw [recordMarker_eq s m marker, takeDelayReq, (headerTaken_base s r h).2]
  rfl

/-- A SYNC taken stores and judges the hub class, then enters the exchange table with t2 from the record's capture (R123). -/
theorem frameTaken_sync (kind : k = .sync) (m : Stamp) (marker : s.timing.base.markers.head? = some m) :
    ∃ x : Transfer, x.exchanges = s.timing.xfer.exchanges ∧
      x.counters.syncTaken = bump s.timing.xfer.counters.syncTaken ∧ x.link.hubClass = some (hubClassAt p.bytes) ∧
      (3 < (hubClassAt p.bytes).num → x.link.state = .absent) ∧
      (s.frameTaken r h).timing.xfer = x.enterSync (timingSeqAt p.bytes) (stampAt p.bytes 2)
        (m.shift (-(s.timing.base.record.lrx : Int))) s.link.frameCounter := by
  subst kind
  obtain ⟨exchanges, -, counters⟩ := headerTaken_lists s r h
  have frames : (s.headerTaken r h).link.frameCounter = s.link.frameCounter := by
    rw [headerTaken_link s r h e, goodHeader_frame]
    rfl
  obtain ⟨link, taken, kept⟩ := syncJudged_xfer (s.headerTaken r h).timing (hubClassAt p.bytes)
    ((s.headerTaken r h).link.state == .up)
  refine ⟨((s.headerTaken r h).timing.syncJudged (hubClassAt p.bytes) ((s.headerTaken r h).link.state == .up)).xfer,
    kept.trans exchanges, ?_, ?_, fun bad => ?_, ?_⟩
  · rw [taken, counters]
  · rw [link, judgeHubClass_class]
  · rw [link, judgeHubClass_absent _ _ _ bad]
  · rw [frameTaken_timing s r h wf _ head,
    routeControl_takes _ _ _ _ (headerTaken_takes e good wanted stamp)]
    dsimp only
    rw [takeSync_xfer, recordMarker_eq s m marker, (headerTaken_base s r h).2, frames]

/-- A DELAY_RESP taken completes its exchange, which leaves the table (R125). -/
theorem frameTaken_delayResp (kind : k = .delayResp)
    (found : ∃ e ∈ s.timing.xfer.exchanges, e.seq = timingSeqAt p.bytes ∧ e.t3.isSome = true) :
    (s.frameTaken r h).timing.xfer.counters.completed = bump s.timing.xfer.counters.completed ∧
    ∀ e ∈ (s.frameTaken r h).timing.xfer.exchanges, e ∈ s.timing.xfer.exchanges ∧ e.seq ≠ timingSeqAt p.bytes := by
  subst kind
  obtain ⟨exchanges, -, counters⟩ := headerTaken_lists s r h
  rw [← exchanges, ← counters, frameTaken_timing s r h wf _ head,
    routeControl_takes _ _ _ _ (headerTaken_takes e good wanted stamp)]
  exact takeDelayResp_completes p.bytes (s.headerTaken r h) (by rw [exchanges]; exact found)

/-- A DELAY_RESP without its exchange is counted (R125). -/
theorem frameTaken_delayResp_unmatched (kind : k = .delayResp)
    (none : ∀ e ∈ s.timing.xfer.exchanges, e.seq = timingSeqAt p.bytes → e.t3 = none) :
    (s.frameTaken r h).timing.xfer.exchanges = s.timing.xfer.exchanges ∧
    (s.frameTaken r h).timing.xfer.counters.unmatched = bump s.timing.xfer.counters.unmatched := by
  subst kind
  obtain ⟨exchanges, -, counters⟩ := headerTaken_lists s r h
  rw [frameTaken_timing s r h wf _ head,
    routeControl_takes _ _ _ _ (headerTaken_takes e good wanted stamp)]
  dsimp only
  rw [takeDelayResp_unmatched p.bytes (s.headerTaken r h) (by rw [exchanges]; exact none), ← exchanges, ← counters]
  exact ⟨rfl, rfl⟩

end

end Sys2Proof.Machine
end

section
/-! PROOF. A record with a good header (R12, R15 to R21): the statement assembled. -/

namespace Sys2Proof.Machine

theorem stepEnded.announced {w : Working} {v : Verdict} {e : EndReason} {s t : State} (h : stepEnded w v e s t) :
    stepEnded w v e s (announce t) :=
  h.later (logGrows_of_eq (by simp) (by simp) (by simp) (by simp))

/-- Link state and counts after a good header (R15, R16). -/
theorem goodHeader_counts (l : LinkUnit) :
    (l.state = .down → l.goodHeader.state = .acquire ∧ l.goodHeader.good = 1 ∧ l.goodHeader.lost = l.lost) ∧
    (l.state = .acquire → l.good + 1 < 16 →
      l.goodHeader.state = .acquire ∧ l.goodHeader.good = l.good + 1 ∧ l.goodHeader.lost = l.lost) ∧
    (l.state = .acquire → 16 ≤ l.good + 1 → l.goodHeader.state = .up ∧ l.goodHeader.lost = 0) ∧
    (l.state = .up → l.goodHeader.state = .up ∧ l.goodHeader.lost = 0) := by
  refine ⟨fun down => ?_, fun acquire few => ?_, fun acquire enough => ?_, fun up => ?_⟩
  · rw [goodHeader_down down]
    exact ⟨rfl, rfl, rfl⟩
  · rw [goodHeader_acquire acquire (Nat.not_le.mpr few)]
    exact ⟨acquire, rfl, rfl⟩
  · rw [goodHeader_acquired acquire enough]
    exact ⟨rfl, rfl⟩
  · rw [goodHeader_up up]
    exact ⟨up, rfl⟩

/-- The blocks of a tenant lie behind those of the tenants before it (R14). -/
theorem Header.blocksFor_eq (h : Header) (ps : List Position) (x : Tenant) (before : Nat)
    (e : before = match x with
      | .t0 => 0
      | .t1 => h.tenantBlocks.t0
      | .t2 => h.tenantBlocks.t0 + h.tenantBlocks.t1
      | .t3 => h.tenantBlocks.t0 + h.tenantBlocks.t1 + h.tenantBlocks.t2) :
    h.blocksFor ps x = (ps.drop (1 + h.controls.length + h.testBlocks + before)).take (h.tenantBlocks.get x) := by
  subst e
  exact congrArg (List.take (h.tenantBlocks.get x)) List.drop_drop

/-- The outcome of a LINK_PATTERN or TENANT_PATH step evaluated on a report, by its two limits (R157, R159). -/
theorem stepEnded_limits {w : Working} {g : Report} {s t : State} (h : stepEnded w (evaluateReport w g).1
    (evaluateReport w g).2 s t) (a b c d : Nat) (e : evaluateReport w g =
      if a ≤ b ∧ c ≤ d then (.pass, .none) else (.fail, .limitExceeded)) :
    (a ≤ b → c ≤ d → stepEnded w .pass .none s t) ∧ ((b < a ∨ d < c) → stepEnded w .fail .limitExceeded s t) := by
  rw [e] at h
  refine ⟨fun x y => ?_, fun x => ?_⟩
  · rw [if_pos ⟨x, y⟩] at h
    exact h
  · rw [if_neg (by omega)] at h
    exact h

/-- Settles O16: the stages of `takeGood` in turn, and each block at its owner. -/
theorem goodHeaderEffect : Obligations.GoodHeaderEffect := by
  intro s r h ps role quiet wf positions size frame controls
  have judged := judgeHeader_bytes r h ps wf positions
  obtain ⟨l, n, d, el, vstate, ulink, en, ed⟩ := frameTaken_linkFields s r h judged
  obtain ⟨ufree, umarkers, uladder⟩ := frameTaken_keeps s r h
  have uframe := frameTaken_eventFrame s r h judged
  have notDown : l.state ≠ .down := by rw [el]; exact goodHeader_state _
  obtain ⟨u, eu⟩ : ∃ u, u = s.frameTaken r h := ⟨_, rfl⟩
  rw [← eu] at ulink ufree umarkers uladder uframe
  have frames : u.link.frameCounter = s.link.frameCounter ∧ u.link.txSeq = s.link.txSeq ∧ u.link.frame = s.link.frame :=
    uframe.frames
  have state : u.link.state = l.state := by rw [ulink]
  have goods : u.link.good = l.good := by rw [ulink]
  have losts : u.link.lost = l.lost := by rw [ulink]
  obtain ⟨fromDown, counting, acquired, stays⟩ := goodHeader_counts
    { s.link with startsSince := 0, counters := s.link.counters.taken (.good h) }
  rw [← el] at fromDown counting acquired stays
  have sampled : (giveSample r.snr s).ladder.lastSample = some r.snr := by
    rw [giveSample_ladder]
    exact sample_lastSample _ _ _
  refine ⟨announce u, by rw [eu]; exact exec_goodRecord s r h role quiet judged, ?_⟩
  have units : (announce u).tenant = u.tenant := funext (announce_tenant u)
  rw [announce_link, announce_ladder, announce_role, announce_planner, announce_store, announce_pending, announce_timing,
    announce_test, units, announce_freeIndex, state, goods, losts]
  refine ⟨by rw [ulink]; rfl, by rw [ulink]; rfl, by rw [ulink]; rfl, by rw [ulink]; rfl, by rw [uladder]; exact sampled,
    by rw [ulink], by rw [ulink], by rw [ulink], by rw [ulink], by rw [ulink], uframe.role, uframe.planner, uframe.store,
    uframe.pending, frames.2.1, frames.1, frames.2.2, fromDown, counting, fun acquire enough => ?_,
    stays, fun up => ?_, fun below => ?_, umarkers, ufree, uladder, fun idle => ?_, fun up calm => ?_, ?_,
    fun idle up p i good => ?_, fun w p run work up single good => ?_, fun k p head => ?_⟩
  · obtain ⟨up, lost⟩ := acquired acquire enough
    refine ⟨up, lost, fun trailer absent none classes => ?_⟩
    rw [eu]
    exact frameTaken_qualifying s r h acquire enough trailer absent none classes
  · rw [ulink, ed]
    exact ⟨if_pos up, if_pos up⟩
  · rw [ulink, ed]
    refine ⟨if_neg below, if_neg below, fun x => ?_⟩
    have unit := frameTaken_below s r h (by rw [vstate]; exact below) x
    rw [← eu] at unit
    rw [unit]
    exact ⟨rfl, rfl, rfl, rfl⟩
  · rw [eu]
    exact frameTaken_forced s r h idle
  · intro at' first before takes
    obtain ⟨forced, units, test⟩ := frameTaken_traffic s r h (vstate.trans up) calm frame rfl
    rw [← eu] at forced units test
    have unitOf : takes = takesBlock := funext fun v => funext fun p => (takesBlock_eq v p).symm
    have blocksOf (x : Tenant) : at' (first + h.testBlocks + before x) (h.tenantBlocks.get x) = h.blocksFor frame x :=
      (h.blocksFor_eq frame x (before x) (by cases x <;> rfl)).symm
    refine ⟨forced, fun x => by rw [unitOf, blocksOf]; exact units x, fun none => ?_⟩
    extract_lets marked blocks packet given
    obtain ⟨checked, ec, record⟩ := test none
    have packetOf : packet = recordsPacket := funext fun q => funext fun c => (recordsPacket_eq q c).symm
    have markedBy : marked = s.test.marked h.endMark := by
      cases e : h.endMark <;> simp only [marked, e, TestUnit.marked]
    have same : blocks = checked := by rw [ec, ← markedBy]
    have givenTo (x : Tenant) (c : Option CheckRecord) :
        given x c = ((h.blocksFor frame x).foldl recordsBlock (s.tenant x, c)).2 := by
      simp only [given, blocksOf, packetOf, unitOf]
      rfl
    simp only [givenTo]
    rw [record, same]
  · intro takes noTime
    rw [ulink, en]
    refine congrFun (congrFun (congrArg List.foldl ?_) _) _
    funext c kp
    rw [discards_eq s.role l.state kp role notDown]
  · rw [eu]
    exact frameTaken_unmatched s r h wf role (vstate.trans up) idle p i good
  · intro g w1 matching
    obtain ⟨counted, held, ended⟩ := frameTaken_report s r h judged role up w p run work single good g rfl matching Iff.rfl
    rw [← eu] at counted held ended
    refine ⟨counted, held, fun m await => ⟨fun profile pattern blocks mode lead active tail errors miss body => ?_,
      fun x pattern packets length errors miss body => ?_⟩⟩
    · exact stepEnded_limits (ended m await).announced _ _ _ _
        (evaluateReport_linkPattern w1 g profile pattern blocks mode lead active tail errors miss body)
    · exact stepEnded_limits (ended m await).announced _ _ _ _
        (evaluateReport_tenantPath w1 g x pattern packets length errors miss body)
  · intro b q x y wanted noTime
    refine ⟨fun n => ?_, fun good want stamp => ⟨fun kind m marker => ?_, fun kind m marker => ?_, fun kind => ⟨?_, ?_⟩⟩⟩
    · have kept := frameTaken_unwanted wf head n
      rw [← eu] at kept
      exact kept
    · obtain ⟨z, responses, counters, e⟩ := frameTaken_delayReq wf head judged good want stamp kind m marker
      have after : y = z.takeReq q (m.shift (-(s.timing.base.record.lrx : Int))) := (congrArg (·.timing.xfer) eu).trans e
      have lists : x.responses = z.responses := responses.symm
      have counts : x.counters = z.counters := counters.symm
      rw [after, lists, counts]
      exact ⟨takeReq_counted _ _ _, takeReq_duplicate _ _ _, takeReq_full _ _ _, takeReq_joins _ _ _⟩
    · obtain ⟨z, exchanges, taken, class_, absent, e⟩ := frameTaken_sync wf head judged good want stamp kind m marker
      have after : y = z.enterSync q (stampAt b 2) (m.shift (-(s.timing.base.record.lrx : Int))) s.link.frameCounter :=
        (congrArg (·.timing.xfer) eu).trans e
      have lists : x.exchanges = z.exchanges := exchanges.symm
      intro kept
      rw [after]
      exact ⟨taken, class_, by rw [Transfer.enterSync, ← lists], absent⟩
    · have done := frameTaken_delayResp wf head judged good want stamp kind
      rw [← eu] at done
      exact done
    · have counted := frameTaken_delayResp_unmatched wf head judged good want stamp kind
      rw [← eu] at counted
      exact counted

end Sys2Proof.Machine
end

section
/-! SUPPORT. The link record of R24 as a relation between its fields, the highest profile of R28, and the PROFILE notice
in its slot and on a free line (R172, R173). -/

namespace Sys2Proof

/-! ## The ranges of the link record (R24, R25) -/

theorem LinkRecord.threshold_fin (r : LinkRecord) (i : Fin 8) : r.threshold i = r.thresholds[i] := by
  have h : (i : Nat) < r.thresholds.toList.length := by simp
  rw [LinkRecord.threshold, List.getD_eq_getElem _ _ h]
  simp

theorem LinkRecord.nonDecreasing_iff (r : LinkRecord) :
    r.nonDecreasing = true ↔ ∀ p q, p ≤ q → q ≤ 7 → r.threshold p ≤ r.threshold q := by
  simp only [LinkRecord.nonDecreasing, List.all_eq_true, List.mem_range, decide_eq_true_eq]
  constructor
  · intro adjacent p q le
    induction q, le using Nat.le_induction with
    | base => exact fun _ => Nat.le_refl _
    | succ q _ ih => exact fun h => Nat.le_trans (ih (by omega)) (adjacent q (by omega))
  · exact fun mono p h => mono p (p + 1) (Nat.le_succ p) h

/-- The check of SET_LINK is the ranges of R24 with the order of R25. -/
theorem LinkRecord.ok_iff (r : LinkRecord) :
    r.ok = true ↔ r.thresholds[0] = 0 ∧ (∀ i : Fin 8, r.thresholds[i] ≤ 255) ∧
      (∀ i j : Fin 8, i ≤ j → r.thresholds[i] ≤ r.thresholds[j]) ∧ r.hysteresis ≤ 40 ∧ 64 ≤ r.upDwell ∧
      r.upDwell ≤ 65535 ∧ r.cap ≤ 7 := by
  have first : r.threshold 0 = r.thresholds[0] := r.threshold_fin 0
  have bounds : r.thresholds.toList.all (· ≤ 255) = true ↔ ∀ i : Fin 8, r.thresholds[i] ≤ 255 := by
    simp [Fin.forall_iff]
  have order : r.nonDecreasing = true ↔ ∀ i j : Fin 8, i ≤ j → r.thresholds[i] ≤ r.thresholds[j] := by
    rw [r.nonDecreasing_iff]
    constructor
    · intro mono i j le
      rw [← r.threshold_fin, ← r.threshold_fin]
      exact mono i j le (Nat.le_of_lt_succ j.isLt)
    · intro mono p q le q7
      have k := mono ⟨p, by omega⟩ ⟨q, by omega⟩ le
      rwa [← r.threshold_fin, ← r.threshold_fin] at k
  simp only [LinkRecord.ok, Bool.and_eq_true, beq_iff_eq, decide_eq_true_eq, first, bounds, order, and_assoc]

section
variable {r : LinkRecord} (ok : r.ok = true)
include ok

/-- P0 is met by every sample (R25). -/
theorem LinkRecord.threshold_zero : r.threshold 0 = 0 := by
  obtain ⟨zero, -⟩ := r.ok_iff.mp ok
  exact (r.threshold_fin 0).trans zero

theorem LinkRecord.threshold_mono {p q : Nat} (le : p ≤ q) (q7 : q ≤ 7) : r.threshold p ≤ r.threshold q := by
  simp only [LinkRecord.ok, Bool.and_eq_true, and_assoc] at ok
  obtain ⟨-, -, order, -⟩ := ok
  exact r.nonDecreasing_iff.mp order p q le q7

end

/-! ## The highest profile a sample meets (R28) -/

/-- The last of the numbers below `n` at which `f` is at most `m`, where `f` is at 0. -/
theorem foldl_last_le (f : Nat → Nat) (m n : Nat) (zero : f 0 ≤ m) :
    f ((List.range n).foldl (fun best p => if f p ≤ m then p else best) 0) ≤ m ∧
      ∀ p, p < n → f p ≤ m → p ≤ (List.range n).foldl (fun best p => if f p ≤ m then p else best) 0 := by
  induction n with
  | zero => exact ⟨zero, fun p h => absurd h (Nat.not_lt_zero p)⟩
  | succ n ih =>
    obtain ⟨met, last⟩ := ih
    rw [List.range_succ, List.foldl_append, List.foldl_cons, List.foldl_nil]
    split
    · next h => exact ⟨h, fun p lt _ => Nat.le_of_lt_succ lt⟩
    · next h =>
      refine ⟨met, fun p lt k => last p (Nat.lt_of_le_of_ne (Nat.le_of_lt_succ lt) ?_) k⟩
      rintro rfl
      exact h k

section
variable {r : LinkRecord} (ok : r.ok = true) (m : Nat)
include ok

theorem LinkRecord.threshold_highestAt : r.threshold (r.highestAt m) ≤ m :=
  (foldl_last_le r.threshold m 8 (by rw [LinkRecord.threshold_zero ok]; exact Nat.zero_le m)).1

theorem LinkRecord.le_highestAt (p : Nat) (p7 : p ≤ 7) (h : r.threshold p ≤ m) : p ≤ r.highestAt m :=
  (foldl_last_le r.threshold m 8 (by rw [LinkRecord.threshold_zero ok]; exact Nat.zero_le m)).2 p (by omega) h

/-- A profile whose threshold is not met lies above the highest one that is. -/
theorem LinkRecord.highestAt_lt (p : Nat) (h : m < r.threshold p) : r.highestAt m < p := by
  by_contra k
  have mono := LinkRecord.threshold_mono ok (Nat.le_of_not_lt k) (Machine.highestAt_le r m)
  have met := LinkRecord.threshold_highestAt ok m
  omega

end

end Sys2Proof

namespace Sys2Proof.Machine

/-! ## The PROFILE notice (R35, R172, R173) -/

/-- The content raised replaces what a slot held (R173). -/
theorem PendingNotice.raised_eq (old : Option PendingNotice) (c : NoticeContent) :
    PendingNotice.raised old c = { content := c, merge := (PendingNotice.raised old c).merge } := by
  cases old <;> rfl

/-- The only pending notice is the one raised into clear slots. -/
theorem highest_raise_clear (k : NoticeKind) (c : NoticeContent) :
    (NoticeSlots.clear.raise k c).highest = some (k, { content := c, merge := 0 }) := by
  cases k with
  | tenant t => cases t <;> rfl
  | _ => rfl

/-- On a free line with every slot clear a notice begins at once (R172). -/
theorem raise_begins (s : State) (k : NoticeKind) (c : NoticeContent) (line : s.port.line = none)
    (reply : s.port.reply = none) (clear : s.port.slots = NoticeSlots.clear) :
    (s.raise k c).port.line = some (.notice k c 0) := by
  have free : (s.withPort { s.port with slots := s.port.slots.raise k c }).port.freeForNotice = true := by
    simp [Port.freeForNotice, line, reply]
  rw [State.raise, announce, if_pos free, State.withPort_port, State.withPort_port, Port.sendNotice, clear,
    highest_raise_clear]

/-- On a busy line the PROFILE notice is pending in its slot. -/
theorem raiseProfile_pending (s : State) (k : ProfileCause) (busy : s.port.line.isSome = true) :
    ∃ (c : _) (merge : Nat), (s.raiseProfile k).port.slots.profile = some { content := .profile c, merge := merge } ∧
      c.cause = k ∧ c.rp = s.ladder.rp := by
  have held : s.port.freeForNotice = false := by simp [Port.freeForNotice, Option.isSome_iff_ne_none.mp busy]
  rw [State.raiseProfile, raise_busy s _ _ held]
  refine ⟨_, _, congrArg some (PendingNotice.raised_eq _ _), ?_, ?_⟩ <;> rfl

/-- On a free line with every slot clear it begins at once. -/
theorem raiseProfile_begins (s : State) (k : ProfileCause) (line : s.port.line = none) (reply : s.port.reply = none)
    (clear : s.port.slots = NoticeSlots.clear) :
    ∃ c, (s.raiseProfile k).port.line = some (.notice .profile (.profile c) 0) ∧ c.cause = k ∧ c.rp = s.ladder.rp := by
  refine ⟨_, raise_begins s _ _ line reply clear, ?_, ?_⟩ <;> rfl

end Sys2Proof.Machine
end

section
/-! PROOF. One sample at the ladder (R27 to R29), and the down-step (R28). -/

namespace Sys2Proof.Machine

/-- The link record in force lies within its ranges (R24). -/
theorem ladderRecord_ok {s : State} (i : s.recordsInv) : s.ladder.record.ok = true := by
  obtain ⟨⟨link, -⟩, -⟩ := i
  exact link

/-! ## One sample, case by case -/

/-- The ladder with a sample stored and counted (R27, R36), before it is judged. -/
def Ladder.stored (l : Ladder) (requested x : Nat) : Ladder :=
  { l with lastSample := some x,
           counters := { l.counters with
             belowRequested := bumpIf (x < l.record.threshold requested) l.counters.belowRequested } }

/-- The ladder after a down-step on a held sample and the next one (R28). -/
def Ladder.steppedDown (l : Ladder) (requested held x : Nat) : Ladder :=
  { l.stored requested x with
    rp := l.record.highestAt (min held x), confirm := none, dwell := 0,
    counters := { (l.stored requested x).counters with downSteps := bump l.counters.downSteps } }

/-- The up test reads the record and R_p only (R29). -/
theorem passesUp_stored (l : Ladder) (a held : Option Nat) (k : LadderCounters) (x : Nat) :
    Ladder.passesUp { l with confirm := held, lastSample := a, counters := k } x = l.passesUp x := rfl

section
variable {l : Ladder} {x : Nat} (q : Nat)

/-- A first sample below the threshold of R_p is held. -/
theorem sample_held (below : x < l.record.threshold l.rp) (c : l.confirm = none) :
    l.sample q x = ({ l.stored q x with confirm := some x, dwell := 0 }, []) := by
  simp [Ladder.sample, Ladder.judgeDown, Ladder.stored, below, c]

/-- A second sample below it, with one held, makes a down-step. -/
theorem sample_down {h : Nat} (below : x < l.record.threshold l.rp) (c : l.confirm = some h) :
    l.sample q x = (l.steppedDown q h x, [.recommendDown]) := by
  simp [Ladder.sample, Ladder.judgeDown, Ladder.steppedDown, Ladder.stored, below, c]

/-- A sample that is not below discards a held one; where it fails the up test, the dwell count starts anew. -/
theorem sample_failed (met : l.record.threshold l.rp ≤ x) (u : l.passesUp x = false) :
    l.sample q x = ({ l.stored q x with confirm := none, dwell := 0 }, []) := by
  simp [Ladder.sample, Ladder.judgeDown, Ladder.judgeUp, Ladder.stored, Nat.not_lt.mpr met, passesUp_stored, u]

/-- Where it passes the up test, it is counted while the up-dwell is not complete. -/
theorem sample_counted (met : l.record.threshold l.rp ≤ x) (u : l.passesUp x = true)
    (short : l.dwell + 1 < l.record.upDwell) :
    l.sample q x = ({ l.stored q x with confirm := none, dwell := l.dwell + 1 }, []) := by
  simp [Ladder.sample, Ladder.judgeDown, Ladder.judgeUp, Ladder.stored, Nat.not_lt.mpr met, passesUp_stored, u,
    Nat.not_le.mpr short]

/-- The passing sample that completes the up-dwell makes an up-step. -/
theorem sample_up (met : l.record.threshold l.rp ≤ x) (u : l.passesUp x = true)
    (full : l.record.upDwell ≤ l.dwell + 1) :
    l.sample q x =
      ({ l.stored q x with
          rp := l.rp + 1, confirm := none, dwell := 0,
          counters := { (l.stored q x).counters with upSteps := bump l.counters.upSteps } }, [.recommendUp]) := by
  simp [Ladder.sample, Ladder.judgeDown, Ladder.judgeUp, Ladder.stored, Nat.not_lt.mpr met, passesUp_stored, u, full]

end

/-! ## The down-step (R28) -/

/-- A sample that is not below the threshold of R_p discards a held one, makes no down-step and does not lower R_p. -/
theorem sample_met (l : Ladder) (q : Nat) {x : Nat} (met : l.record.threshold l.rp ≤ x) :
    (l.sample q x).1.confirm = none ∧ (l.sample q x).1.counters.downSteps = l.counters.downSteps ∧
      l.rp ≤ (l.sample q x).1.rp := by
  cases u : l.passesUp x with
  | false => rw [sample_failed q met u]; exact ⟨rfl, rfl, Nat.le_refl _⟩
  | true =>
    by_cases short : l.dwell + 1 < l.record.upDwell
    · rw [sample_counted q met u short]; exact ⟨rfl, rfl, Nat.le_refl _⟩
    · rw [sample_up q met u (Nat.le_of_not_lt short)]; exact ⟨rfl, rfl, Nat.le_succ _⟩

/-- A second sample below the threshold of R_p: the ladder steps down, and its PROFILE notice is raised. -/
theorem giveSample_down {s : State} {x h : Nat} (below : x < s.ladder.record.threshold s.ladder.rp)
    (c : s.ladder.confirm = some h) :
    giveSample x s = (s.withLadder (s.ladder.steppedDown s.link.reqSent h x)).raiseProfile .recommendDown := by
  rw [giveSample, sample_down _ below c]
  rfl

/-- Settles O18: the sample's cases, the highest profile of R28, and the notice of the down-step. -/
theorem downStepNeedsTwoSamples : Obligations.DownStepNeedsTwoSamples := by
  intro s x records _
  have ok := ladderRecord_ok records
  refine ⟨fun below c => ?_, fun h below c => ?_, fun met => ?_, fun p0 => ?_⟩
  · rw [giveSample_ladder, sample_held _ below c]
    exact ⟨rfl, rfl, rfl⟩
  · rw [giveSample_ladder, giveSample_down below c, sample_down _ below c]
    exact ⟨LinkRecord.highestAt_lt ok _ _ (Nat.lt_of_le_of_lt (Nat.min_le_right h x) below),
      LinkRecord.threshold_highestAt ok _, LinkRecord.le_highestAt ok _, rfl, rfl, rfl,
      raiseProfile_pending (s.withLadder (s.ladder.steppedDown _ h x)) _,
      raiseProfile_begins (s.withLadder (s.ladder.steppedDown _ h x)) _⟩
  · rw [giveSample_ladder]
    exact sample_met _ _ met
  · have met : s.ladder.record.threshold s.ladder.rp ≤ x := by
      rw [p0, LinkRecord.threshold_zero ok]
      exact Nat.zero_le x
    obtain ⟨confirm, steps, -⟩ := sample_met s.ladder s.link.reqSent met
    rw [giveSample_ladder]
    exact ⟨confirm, steps⟩

end Sys2Proof.Machine
end

section
/-! PROOF. The up-step (R29), over every list of samples. -/

namespace Sys2Proof.Machine

/-- The ladder after several samples given one behind another. -/
def Ladder.samples (l : Ladder) (q : Nat) (xs : List Nat) : Ladder := xs.foldl (fun k x => (k.sample q x).1) l

@[simp] theorem samples_cons (l : Ladder) (q x : Nat) (xs : List Nat) :
    l.samples q (x :: xs) = (l.sample q x).1.samples q xs := rfl

theorem giveSamples_ladder (xs : List Nat) (s : State) :
    (xs.foldl (fun u x => giveSample x u) s).ladder = s.ladder.samples s.link.reqSent xs := by
  induction xs generalizing s with
  | nil => rfl
  | cons x xs ih => rw [List.foldl_cons, ih, giveSample_ladder, giveSample_link, samples_cons]

/-- A sample that does not complete the up-dwell makes no up-step and adds at most one to the dwell count. -/
theorem sample_short (l : Ladder) (q x : Nat) (ok : l.record.ok = true) (short : l.dwell + 1 < l.record.upDwell) :
    (l.sample q x).1.rp ≤ l.rp ∧ (l.sample q x).1.counters.upSteps = l.counters.upSteps ∧
      (l.sample q x).1.dwell ≤ l.dwell + 1 := by
  by_cases below : x < l.record.threshold l.rp
  · cases c : l.confirm with
    | none => rw [sample_held q below c]; exact ⟨Nat.le_refl _, rfl, Nat.zero_le _⟩
    | some h =>
      rw [sample_down q below c]
      have lower := LinkRecord.highestAt_lt ok _ _ (Nat.lt_of_le_of_lt (Nat.min_le_right h x) below)
      exact ⟨Nat.le_of_lt lower, rfl, Nat.zero_le _⟩
  · have met := Nat.le_of_not_lt below
    cases u : l.passesUp x with
    | false => rw [sample_failed q met u]; exact ⟨Nat.le_refl _, rfl, Nat.zero_le _⟩
    | true => rw [sample_counted q met u short]; exact ⟨Nat.le_refl _, rfl, Nat.le_refl _⟩

/-- Samples that cannot complete the up-dwell make no up-step. -/
theorem samples_short (xs : List Nat) (l : Ladder) (q : Nat) (ok : l.record.ok = true)
    (short : l.dwell + xs.length < l.record.upDwell) :
    (l.samples q xs).rp ≤ l.rp ∧ (l.samples q xs).counters.upSteps = l.counters.upSteps := by
  induction xs generalizing l with
  | nil => exact ⟨Nat.le_refl _, rfl⟩
  | cons x xs ih =>
    rw [List.length_cons] at short
    rw [samples_cons]
    obtain ⟨rp, steps, dwell⟩ := sample_short l q x ok (by omega)
    have record := Ladder.sample_record l q x
    obtain ⟨rps, stepss⟩ := ih (l.sample q x).1 (record ▸ ok) (by rw [record]; omega)
    exact ⟨Nat.le_trans rps rp, stepss.trans steps⟩

/-- A sample of at least the next threshold and the hysteresis passes the up test, and is not below R_p's threshold. -/
theorem passes_of_next {l : Ladder} {x : Nat} (ok : l.record.ok = true) (p7 : l.rp < 7)
    (next : l.record.threshold (l.rp + 1) + l.record.hysteresis ≤ x) :
    l.passesUp x = true ∧ l.record.threshold l.rp ≤ x := by
  have mono : l.record.threshold l.rp ≤ l.record.threshold (l.rp + 1) :=
    LinkRecord.threshold_mono ok (Nat.le_succ l.rp) p7
  exact ⟨by simp [Ladder.passesUp, p7, next], by omega⟩

/-- Passing samples that complete the up-dwell with their last one make exactly one up-step. -/
theorem samples_full (xs : List Nat) (l : Ladder) (q : Nat) (ok : l.record.ok = true) (p7 : l.rp < 7)
    (dwell : l.dwell < l.record.upDwell) (full : l.dwell + xs.length = l.record.upDwell)
    (pass : ∀ x ∈ xs, l.record.threshold (l.rp + 1) + l.record.hysteresis ≤ x) :
    (l.samples q xs).rp = l.rp + 1 ∧ (l.samples q xs).dwell = 0 ∧
      (l.samples q xs).counters.upSteps = bump l.counters.upSteps ∧
      (l.samples q xs).counters.downSteps = l.counters.downSteps := by
  induction xs generalizing l with
  | nil => exact absurd full (Nat.ne_of_lt dwell)
  | cons x xs ih =>
    obtain ⟨first, rest⟩ := List.forall_mem_cons.mp pass
    obtain ⟨up, met⟩ := passes_of_next ok p7 first
    rw [List.length_cons] at full
    rw [samples_cons]
    by_cases last : l.record.upDwell ≤ l.dwell + 1
    · have none_left : xs = [] := List.length_eq_zero_iff.mp (by omega)
      rw [none_left, sample_up q met up last]
      exact ⟨rfl, rfl, rfl, rfl⟩
    · have short := Nat.lt_of_not_le last
      rw [sample_counted q met up short]
      exact ih { l.stored q x with confirm := none, dwell := l.dwell + 1 } ok p7 short
        (show l.dwell + 1 + xs.length = l.record.upDwell by omega) rest

/-- Settles O19, by induction on the samples: fewer than the up-dwell cannot complete it, and as many do so once. -/
theorem upStepNeedsFullDwell : Obligations.UpStepNeedsFullDwell := by
  rintro s xs records ⟨-, dwell, -⟩ zero
  have ok := ladderRecord_ok records
  refine ⟨fun few => ?_, fun full p7 pass => ?_⟩
  · rw [giveSamples_ladder]
    exact samples_short xs _ _ ok (by omega)
  · rw [giveSamples_ladder]
    exact samples_full xs _ _ ok p7 dwell (by omega) pass

end Sys2Proof.Machine
end

section
/-! PROOF. SET_LINK (R24 to R26). -/

namespace Sys2Proof.Machine

/-- SET_LINK of a record within its ranges puts it in force with the effects of R26. -/
theorem doSetLink_ok {r : LinkRecord} (s : State) (ok : r.ok = true) :
    doSetLink r s = (s.withLadder (s.ladder.takeRecord r), .ok, .linkRecord r) := if_pos ok

/-- Any other is refused with the record in force (R25). -/
theorem doSetLink_bad {r : LinkRecord} (s : State) (bad : ¬ r.ok = true) :
    doSetLink r s = (s, .badValue, .linkRecord s.ladder.record) := if_neg bad

/-- Settles O20: the check of R25 as the ranges of its fields, and the request answered at once. -/
theorem setLinkTakesOrRefuses : Obligations.SetLinkTakesOrRefuses := by
  intro s tag r free
  dsimp only
  rw [← r.ok_iff]
  refine ⟨fun ok => ?_, fun bad => ?_⟩
  · change Host.Outcome.next (requestFrame tag (.setLink r) s) = _
    have done (k : Byte) : perform (.setLink r) (s.serving k tag) =
        ((s.withLadder (s.ladder.takeRecord r)).serving k tag, .ok, .linkRecord r) := doSetLink_ok _ ok
    rw [requestFrame_free tag _ s free]
    simp only [done, State.serving_replied]
    rfl
  · have refused (k : Byte) : perform (.setLink r) (s.serving k tag) =
        (s.serving k tag, .badValue, .linkRecord s.ladder.record) := doSetLink_bad _ bad
    exact congrArg Host.Outcome.next (requestFrame_read tag _ s _ _ free refused)

end Sys2Proof.Machine
end

section
/-! SUPPORT. What one change of a Tenant Unit does to the invariants of its queue, its counters and its state of service
(R43, R50, R54, R56, R89). -/

namespace Sys2Proof.Machine

/-! ## Queues -/

/-- What the invariant of R50 and R54 asks of a queue in every tenant state. -/
structure QueueOk (q : List Entry) : Prop where
  blocks : occupancy q ≤ 1024
  entries : q.length ≤ 256
  sound : ∀ e ∈ q, e.sound
  unstarted : ∀ e ∈ q.tail, e.sent = 0

/-- `q` is what is left of the queue `p`: it is as good a queue, of the origins that `p` held. -/
structure QueueLeft (p q : List Entry) : Prop where
  ok : QueueOk p → QueueOk q
  origin : ∀ e ∈ q, ∃ d ∈ p, d.origin = e.origin

theorem QueueLeft.refl (q : List Entry) : QueueLeft q q := ⟨id, fun e m => ⟨e, m, rfl⟩⟩

theorem QueueLeft.trans {p q r : List Entry} (h : QueueLeft p q) (k : QueueLeft q r) : QueueLeft p r where
  ok a := k.ok (h.ok a)
  origin e m := by
    obtain ⟨d, md, ed⟩ := k.origin e m
    obtain ⟨c, mc, ec⟩ := h.origin d md
    exact ⟨c, mc, ec.trans ed⟩

theorem QueueLeft.nil {p q : List Entry} (h : QueueLeft p q) (e : p = []) : q = [] :=
  List.eq_nil_iff_forall_not_mem.mpr fun d m => by
    obtain ⟨c, mc, -⟩ := h.origin d m
    simp [e] at mc

theorem occupancy_cons (e : Entry) (q : List Entry) : occupancy (e :: q) = e.unsent + occupancy q := by
  simp [occupancy]

/-- Entries left out of a queue leave less of it. -/
theorem queueLeft_of_sublist {p q : List Entry} (h : q.Sublist p) : QueueLeft p q where
  ok k := ⟨((h.map _).sum_le_sum fun _ _ => Nat.zero_le _).trans k.blocks, h.length_le.trans k.entries,
    fun e m => k.sound e (h.subset m), fun e m => k.unstarted e (h.tail.subset m)⟩
  origin e m := ⟨e, h.subset m, rfl⟩

/-- The head with one more block sent, while it is not its last (R54). -/
theorem queueLeft_sent (e : Entry) (q : List Entry) (h : e.sent + 1 < e.total) :
    QueueLeft (e :: q) ({ e with sent := e.sent + 1 } :: q) where
  ok k := by
    obtain ⟨blocks, entries, sound, unstarted⟩ := k
    refine ⟨?_, entries, fun d m => ?_, unstarted⟩
    · rw [occupancy_cons] at blocks ⊢
      simp only [Entry.unsent] at blocks ⊢
      omega
    · rcases List.mem_cons.mp m with rfl | m
      · obtain ⟨length, total, -⟩ := sound e (List.mem_cons_self ..)
        exact ⟨length, total, h⟩
      · exact sound d (List.mem_cons_of_mem _ m)
  origin d m := by
    rcases List.mem_cons.mp m with rfl | m
    · exact ⟨e, List.mem_cons_self .., rfl⟩
    · exact ⟨d, List.mem_cons_of_mem _ m, rfl⟩

/-- A grant leaves less of a queue (R54). -/
theorem giveBlocks_left (n : Nat) : ∀ q seq, QueueLeft q (giveBlocks n q seq).queue := by
  induction n with
  | zero => exact fun q _ => .refl q
  | succ n ih =>
    intro q seq
    cases q with
    | nil => exact .refl []
    | cons e q =>
      unfold giveBlocks
      dsimp only
      split
      · exact (queueLeft_of_sublist (List.sublist_cons_self e q)).trans (ih q _)
      · next more => exact (queueLeft_sent e q (Nat.lt_of_not_le more)).trans (ih _ _)

/-! ## Counters -/

theorem addCount_le (n k : Nat) : addCount n k ≤ countMax := Nat.min_le_right _ _

theorem bump_le (n : Nat) : bump n ≤ countMax := addCount_le n 1

theorem bumpIf_le (b : Bool) (n : Nat) (h : n ≤ countMax) : bumpIf b n ≤ countMax := by
  cases b
  · exact h
  · exact bump_le n

/-! ## One unit -/

/-- A change of one unit that keeps the invariant of its queue and of its counters and takes it into no service. -/
structure UnitKept (u v : TenantUnit) : Prop where
  queue : u.queueInv → v.queueInv
  ingress : u.ingress.inRange → v.ingress.inRange
  service : v.state.inService = true → u.state.inService = true

theorem UnitKept.refl (u : TenantUnit) : UnitKept u u := ⟨id, id, id⟩

theorem UnitKept.trans {u v w : TenantUnit} (h : UnitKept u v) (k : UnitKept v w) : UnitKept u w :=
  ⟨fun a => k.queue (h.queue a), fun a => k.ingress (h.ingress a), fun a => h.service (k.service a)⟩

theorem queueInv_iff (u : TenantUnit) : u.queueInv ↔ QueueOk u.queue ∧ (u.state = .off → u.queue = []) ∧
    (u.state = .pending → ∀ e ∈ u.queue, e.origin = .test) ∧ egressOccupancy u.egress ≤ 1024 ∧ u.egress.length ≤ 256 :=
  ⟨fun ⟨a, b, c, d, rest⟩ => ⟨⟨a, b, c, d⟩, rest⟩, fun ⟨⟨a, b, c, d⟩, rest⟩ => ⟨a, b, c, d, rest⟩⟩

/-- How a unit's state may move while its queue shrinks: it stays, it becomes OFF with nothing queued, or a drain begins. -/
def StateLeft (u v : TenantUnit) : Prop :=
  v.state = u.state ∨ (v.state = .off ∧ v.queue = []) ∨ (u.state = .active ∧ v.state = .draining)

/-- A unit of which less is queued and buffered. -/
theorem unitKept_of_left {u v : TenantUnit} (queue : QueueLeft u.queue v.queue) (state : StateLeft u v)
    (egress : v.egress.Sublist u.egress) (ingress : u.ingress.inRange → v.ingress.inRange) : UnitKept u v where
  queue h := by
    obtain ⟨ok, off, pending, blocks, entries⟩ := (queueInv_iff u).mp h
    refine (queueInv_iff v).mpr ⟨queue.ok ok, ?_, ?_,
      ((egress.map _).sum_le_sum fun _ _ => Nat.zero_le _).trans blocks, egress.length_le.trans entries⟩
    · intro k
      rcases state with e | ⟨-, e⟩ | ⟨-, e⟩
      · exact queue.nil (off (e.symm.trans k))
      · exact e
      · rw [e] at k; cases k
    · intro k e m
      rcases state with s | ⟨s, -⟩ | ⟨-, s⟩
      · obtain ⟨d, md, ed⟩ := queue.origin e m
        exact ed.symm.trans (pending (s.symm.trans k) d md)
      · rw [s] at k; cases k
      · rw [s] at k; cases k
  ingress := ingress
  service h := by
    rcases state with e | ⟨e, -⟩ | ⟨e, -⟩
    · rwa [← e]
    · rw [e] at h; cases h
    · rw [e]; rfl

/-- A unit that keeps state, queue, egress buffer and ingress counters. -/
theorem unitKept_of_eq {u v : TenantUnit} (state : v.state = u.state) (queue : v.queue = u.queue) (egress : v.egress = u.egress)
    (ingress : v.ingress = u.ingress) : UnitKept u v :=
  unitKept_of_left (queue ▸ .refl _) (.inl state) (egress ▸ .refl _) (ingress ▸ id)

theorem judgePause_egress (u : TenantUnit) : u.judgePause.egress = u.egress := (judgePause_runUnit u).egress

theorem judgePause_inRange (u : TenantUnit) (h : u.ingress.inRange) : u.judgePause.ingress.inRange := by
  unfold TenantUnit.judgePause
  split
  · obtain ⟨h1, h2, h3, h4, h5, h6, h7, h8, h9, h10, h11, h12, h13⟩ := h
    exact ⟨h1, h2, h3, h4, h5, h6, h7, h8, h9, h10, h11, h12, bumpIf_le _ _ h13⟩
  · exact h

theorem judgePause_kept (u : TenantUnit) : UnitKept u u.judgePause :=
  unitKept_of_left (judgePause_queue u ▸ .refl _) (.inl (TenantUnit.judgePause_state u)) (judgePause_egress u ▸ .refl _)
    (judgePause_inRange u)

theorem drained_kept (u : TenantUnit) : UnitKept u u.drained := by
  unfold TenantUnit.drained
  split
  · next h => exact unitKept_of_left (.refl _) (.inr (.inl ⟨rfl, h.2⟩)) (.refl _) id
  · exact .refl u

/-- A queue of which entries are left out, the pause judged. -/
theorem removeTest_kept (u : TenantUnit) (r : BitVec 16) (k : Nat) : UnitKept u (u.removeTest r k).1 :=
  UnitKept.trans (v := { u with queue := u.queue.filter fun e => !e.unstartedOf r k })
    (unitKept_of_left (queueLeft_of_sublist List.filter_sublist) (.inl rfl) (.refl _) id) (judgePause_kept _)

theorem aged_inRange {c : IngressCounters} (l : List Entry) (h : c.inRange) : (c.aged l).inRange := by
  obtain ⟨h1, h2, h3, h4, h5, h6, h7, -, -, h10, h11, h12, h13⟩ := h
  exact ⟨h1, h2, h3, h4, h5, h6, h7, addCount_le _ _, addCount_le _ _, h10, h11, h12, h13⟩

theorem ageHead_kept {u v : TenantUnit} {n : BitVec 32} {e : Entry} (h : u.ageHead n = some (v, e)) : UnitKept u v := by
  unfold TenantUnit.ageHead at h
  split at h
  · cases h
  · next d q hq =>
    split at h
    · injection h with h
      injection h with h
      rw [← h]
      exact UnitKept.trans (v := { u with queue := q, ingress := u.ingress.aged [d], agedEarly := true })
        (unitKept_of_left (hq ▸ queueLeft_of_sublist (List.sublist_cons_self d q)) (.inl rfl) (.refl _) (aged_inRange _))
        (judgePause_kept _)
    · cases h

theorem age_kept (u : TenantUnit) (n : BitVec 32) : UnitKept u (u.age n).1 := by
  refine unitKept_of_left ?_ (.inl rfl) (.refl _) (aged_inRange _)
  rw [TenantUnit.age, ageQueue_eq]
  exact queueLeft_of_sublist (List.dropWhile_sublist _)

/-- A unit after a grant from its own queue (R54). -/
theorem gave_kept (u : TenantUnit) (n : Nat) (seq : BitVec 8) : UnitKept u (u.gave (giveBlocks n u.queue seq)) := by
  refine UnitKept.trans (v := u.handed (giveBlocks n u.queue seq)) ?_ (judgePause_kept _)
  refine unitKept_of_left (giveBlocks_left _ _ _) (.inl rfl) (.refl _) fun h => ?_
  obtain ⟨h1, h2, h3, h4, h5, h6, h7, h8, h9, h10, -, -, h13⟩ := h
  exact ⟨h1, h2, h3, h4, h5, h6, h7, h8, h9, h10, addCount_le _ _, addCount_le _ _, h13⟩

/-- What a frame start leaves of a unit (R45, R53, R54). -/
theorem given_kept (s : State) (p : Plan) (x : Tenant) : UnitKept (s.tenant x) ((s.given p).get x).unit := by
  have aged := age_kept (s.tenant x) s.link.frameCounter
  simp only [State.given, State.agedUnits, Quad.get_ofFn, Quad.get_map, TenantGiven.unit]
  exact (aged.trans (gave_kept _ _ _)).trans (drained_kept _)

/-- The room of R50 in numbers. -/
theorem hasRoom_iff {u : TenantUnit} {b : Nat} :
    u.hasRoom b = true ↔ occupancy u.queue + b ≤ 1024 ∧ u.queue.length < 256 := by
  simp only [TenantUnit.hasRoom, Bool.and_eq_true, decide_eq_true_eq]
  exact Iff.rfl

/-- The room of R89 in numbers. -/
theorem egressRoom_iff {u : TenantUnit} {b : Nat} :
    u.egressRoom b = true ↔ egressOccupancy u.egress + b ≤ 1024 ∧ u.egress.length < 256 := by
  simp only [TenantUnit.egressRoom, Bool.and_eq_true, decide_eq_true_eq]
  exact Iff.rfl

/-- An entry taken at the tail of a queue with room for it (R49, R50). -/
theorem append_kept (u : TenantUnit) (c : IngressCounters) (f : BitVec 32) (o : Origin) (r : Option (BitVec 16))
    (k : Option Nat) (d : List Byte) (room : u.hasRoom (blocksFor d.length) = true) (blocks : 0 < blocksFor d.length)
    (state : u.state = .active ∨ u.state = .pending ∧ o = .test) (ingress : u.ingress.inRange → c.inRange) :
    UnitKept u (({ u with ingress := c } : TenantUnit).append f o r k d) where
  queue h := by
    obtain ⟨ok, -, pending, egress⟩ := (queueInv_iff u).mp h
    obtain ⟨blocksFit, entryFits⟩ := hasRoom_iff.mp room
    refine (queueInv_iff _).mpr ⟨⟨?_, ?_, ?_, ?_⟩, ?_, ?_, egress⟩
    · simpa [TenantUnit.append, occupancy, Entry.unsent] using blocksFit
    · simpa [TenantUnit.append] using Nat.succ_le_of_lt entryFits
    · intro e m
      rcases List.mem_append.mp m with m | m
      · exact ok.sound e m
      · rw [List.mem_singleton.mp m]
        exact ⟨rfl, rfl, blocks⟩
    · intro e m
      cases q : u.queue with
      | nil => simp [TenantUnit.append, q] at m
      | cons d q' =>
        simp only [TenantUnit.append, q, List.cons_append, List.tail_cons, List.mem_append, List.mem_singleton] at m
        rcases m with m | m
        · exact ok.unstarted e (by rw [q]; exact m)
        · rw [m]
    · intro off
      rcases state with s | ⟨s, -⟩ <;> exact absurd (s.symm.trans off) (by decide)
    · intro p e m
      rcases state with s | ⟨-, s⟩
      · exact absurd (s.symm.trans p) (by decide)
      · rcases List.mem_append.mp m with m | m
        · exact pending p e m
        · rw [List.mem_singleton.mp m]
          exact s
  ingress := ingress
  service := id

/-- A packet at a port (R48 to R50). -/
theorem arrive_kept (u : TenantUnit) (f : BitVec 32) (bad : Bool) (d : List Byte) : UnitKept u (u.arrive f bad d) := by
  have counted (c : IngressCounters) (h : u.ingress.inRange → c.inRange) : UnitKept u { u with ingress := c } :=
    unitKept_of_left (.refl _) (.inl rfl) (.refl _) h
  unfold TenantUnit.arrive
  dsimp only
  split
  · exact counted _ fun ⟨h1, h2, _, h4, rest⟩ => ⟨h1, h2, bump_le _, h4, rest⟩
  split
  · exact counted _ fun ⟨h1, h2, h3, _, rest⟩ => ⟨h1, h2, h3, bump_le _, rest⟩
  split
  · exact counted _ fun ⟨h1, h2, h3, h4, _, rest⟩ => ⟨h1, h2, h3, h4, bump_le _, rest⟩
  split
  · exact counted _ fun ⟨h1, h2, h3, h4, h5, _, rest⟩ => ⟨h1, h2, h3, h4, h5, bump_le _, rest⟩
  · next length state room =>
    refine UnitKept.trans (append_kept u _ f .tenant none none d ?_ ?_ (.inl ?_) ?_) (judgePause_kept _)
    · simpa using room
    · simp only [blocksFor]; omega
    · simpa using state
    · exact fun ⟨_, _, rest⟩ => ⟨bump_le _, addCount_le _ _, rest⟩

/-- A unit whose egress side alone differs, with no more buffered than R89 allows. -/
theorem unitKept_of_egressOnly {u v : TenantUnit} (h : EgressOnly u v)
    (egress : egressOccupancy u.egress ≤ 1024 ∧ u.egress.length ≤ 256 →
      egressOccupancy v.egress ≤ 1024 ∧ v.egress.length ≤ 256) : UnitKept u v where
  queue k := by
    obtain ⟨ok, off, pending, e⟩ := (queueInv_iff u).mp k
    exact (queueInv_iff v).mpr ⟨h.queue ▸ ok, h.queue ▸ h.state ▸ off, h.queue ▸ h.state ▸ pending, egress e⟩
  ingress k := by rw [h]; exact k
  service k := by rwa [h.state] at k

theorem takeBlock_egress (u : TenantUnit) (g : Segment) (b : Bool) : (u.takeBlock g b).1.egress = u.egress := by
  have gap : (u.gapCheck g b).egress = u.egress := by
    unfold TenantUnit.gapCheck
    dsimp only
    split <;> rfl
  unfold TenantUnit.takeBlock TenantUnit.firstBlock TenantUnit.continuationBlock
  dsimp only
  repeat' split
  all_goals exact gap

theorem takeBlock_kept (u : TenantUnit) (g : Segment) (b : Bool) : UnitKept u (u.takeBlock g b).1 :=
  unitKept_of_egressOnly (takeBlock_egressOnly u g b) (takeBlock_egress u g b ▸ id)

theorem beginDelivery_egress (u : TenantUnit) : u.beginDelivery.egress = u.egress := by
  unfold TenantUnit.beginDelivery
  repeat' split
  all_goals rfl

theorem endDelivery_egress (u : TenantUnit) : u.endDelivery.egress.Sublist u.egress := by
  unfold TenantUnit.endDelivery
  repeat' split
  · exact .refl _
  · next e rest h _ =>
    rw [beginDelivery_egress, h]
    exact List.sublist_cons_self e rest
  · exact .refl _

theorem holdAt_kept (u : TenantUnit) (a : Bool) : UnitKept u (u.holdAt a) := by
  have h := beginDelivery_egressOnly ({ u with hold := a } : TenantUnit)
  have e := beginDelivery_egress ({ u with hold := a } : TenantUnit)
  refine UnitKept.trans (v := { u with hold := a }) (unitKept_of_eq rfl rfl rfl rfl) ?_
  exact unitKept_of_egressOnly h (by rw [TenantUnit.holdAt, e]; exact id)

theorem endDelivery_kept (u : TenantUnit) : UnitKept u u.endDelivery :=
  unitKept_of_left ((endDelivery_egressOnly u).queue ▸ .refl _) (.inl (endDelivery_egressOnly u).state) (endDelivery_egress u)
    (by rw [endDelivery_egressOnly u]; exact id)

/-- A completed packet enters an egress buffer that has room for it (R88, R89). -/
theorem completeTenant_kept (u : TenantUnit) (p : Packet) : UnitKept u (u.completeTenant p).1 := by
  refine unitKept_of_egressOnly (completeTenant_egressOnly u p) ?_
  unfold TenantUnit.completeTenant
  dsimp only
  split
  · exact id
  split
  · exact id
  split
  · exact id
  · next room =>
    obtain ⟨blocksFit, entryFits⟩ := egressRoom_iff.mp (by simpa using room)
    rw [beginDelivery_egress]
    intro _
    simpa [TenantUnit.judgeXoff, egressOccupancy] using ⟨blocksFit, Nat.succ_le_of_lt entryFits⟩

theorem second_kept (u : TenantUnit) (c : QClass) (x : BitVec 48) : UnitKept u (u.second c x) := by
  unfold TenantUnit.second
  repeat' split
  all_goals exact unitKept_of_eq rfl rfl rfl rfl

/-- A record taken makes an OFF tenant PENDING, whose queue is empty (R41). -/
theorem takeRecord_kept (u : TenantUnit) (r : TenantRecord) : UnitKept u (u.takeRecord r) := by
  have pending : UnitKept u { u with record := r, state := if u.state = .off then .pending else u.state } := by
    by_cases off : u.state = .off
    · rw [if_pos off]
      refine ⟨fun h => ?_, id, nofun⟩
      obtain ⟨ok, empty, -, egress⟩ := (queueInv_iff u).mp h
      exact (queueInv_iff _).mpr ⟨ok, nofun, fun _ => by simp [empty off], egress⟩
    · rw [if_neg off]
      exact unitKept_of_eq rfl rfl rfl rfl
  exact (pending.trans (judgePause_kept _)).trans (unitKept_of_egressOnly (judgeXoff_egressOnly _) id)

theorem zero_inRange : IngressCounters.zero.inRange := by simp [IngressCounters.inRange, IngressCounters.zero]

theorem cleared_kept (u : TenantUnit) : UnitKept u u.cleared :=
  unitKept_of_left (.refl _) (.inl rfl) (.refl _) fun _ => zero_inRange

theorem flushed_kept (u : TenantUnit) : UnitKept u u.flushIngress.flushEgress :=
  unitKept_of_left (queueLeft_of_sublist (List.nil_sublist _)) (.inr (.inl ⟨rfl, rfl⟩)) (List.nil_sublist _)
    fun ⟨h1, h2, h3, h4, h5, h6, h7, h8, h9, _, rest⟩ => ⟨h1, h2, h3, h4, h5, h6, h7, h8, h9, addCount_le _ _, rest⟩

theorem warm_kept (u : TenantUnit) : UnitKept u u.warm := by
  refine unitKept_of_left (queueLeft_of_sublist (List.nil_sublist _)) ?_ (List.nil_sublist _) id
  by_cases h : u.state = .draining
  · exact .inr (.inl ⟨if_pos h, rfl⟩)
  · exact .inl (if_neg h)

/-- An ACTIVE tenant drains, or is OFF at once with nothing queued (R44, R45). -/
theorem drainTaken_kept (u : TenantUnit) (active : u.state = .active) :
    UnitKept u { u with state := if u.queue = [] then .off else .draining, paused := !u.queue.isEmpty } := by
  refine unitKept_of_left (.refl _) ?_ (.refl _) id
  by_cases h : u.queue = []
  · exact .inr (.inl ⟨if_pos h, h⟩)
  · exact .inr (.inr ⟨active, if_neg h⟩)

/-! ## Test packets taken (R50, R158) -/

/-- A test packet has the length that its step names (R153, R158). -/
theorem testPacketBytes_length (r : BitVec 16) (k : Nat) (p : Pattern) (n : Nat) (h : 24 ≤ n) :
    (testPacketBytes r k p n).length = n := by
  simp only [testPacketBytes, Pattern.descriptor, List.length_append, numBytes_length, padTo_length, List.length_cons,
    List.length_nil, List.length_map, List.length_range]
  omega

theorem takeTest_kept (u : TenantUnit) (f : BitVec 32) (r : BitVec 16) (i : Nat) (p : Pattern) (n : Nat) (h : 64 ≤ n)
    (takes : u.takesTest n = true) : UnitKept u (u.takeTest f r i (testPacketBytes r i p n)) := by
  simp only [TenantUnit.takesTest, Bool.and_eq_true] at takes
  obtain ⟨state, room⟩ := takes
  have length := testPacketBytes_length r i p n (by omega)
  refine UnitKept.trans (append_kept u _ f .test (some r) (some i) _ (by rw [length]; exact room)
    (by rw [length, blocksFor]; omega) ?_ ?_) (judgePause_kept _)
  · cases s : u.state with
    | active => exact .inl rfl
    | pending => exact .inr ⟨rfl, rfl⟩
    | off => rw [s] at state; cases state
    | draining => rw [s] at state; cases state
  · exact fun ⟨h1, h2, h3, h4, h5, h6, _, rest⟩ => ⟨h1, h2, h3, h4, h5, h6, bump_le _, rest⟩

/-- Test packets of the length that a step names, as many as the queue takes. -/
theorem injectPackets_kept (f : BitVec 32) (r : BitVec 16) (c l : Nat) (h : 64 ≤ l) (n : Nat) :
    ∀ x, UnitKept x.1 (injectPackets f r c l n x).1 := by
  induction n with
  | zero => exact fun x => .refl _
  | succ n ih =>
    rintro ⟨u, w⟩
    unfold injectPackets
    split
    · next k => exact (takeTest_kept u f r w.index w.pattern l h k.2.2).trans (ih (_, _))
    · exact .refl u

end Sys2Proof.Machine
end

section
/-! SUPPORT. What a step can do to the Tenant Units, the Test Controller and the forced profile. `Shift` is one change of
them, one constructor for each kind of change the part makes; the chains of changes of the events of the Test Controller,
of the link and of local time. -/

namespace Sys2Proof.Machine

/-! ## One change -/

/-- What names the current step: its index and its entry of the step table. -/
def TestUnit.current (t : TestUnit) : Option (Nat × Step) := t.work.map fun w => (w.index, w.step)

/-- The Test Controller with its run and its step table as they were: only tables that no run reads back, counters, and the
phase and counts of the current step differ. -/
structure TestKept (a b : TestUnit) : Prop where
  eq : b = { a with work := b.work, patterns := b.patterns, check := b.check, report := b.report, counters := b.counters }
  current : b.current = a.current

theorem TestKept.refl (a : TestUnit) : TestKept a a := ⟨rfl, rfl⟩

theorem TestKept.trans {a b c : TestUnit} (h : TestKept a b) (k : TestKept b c) : TestKept a c :=
  ⟨by rw [k.eq, h.eq], k.current.trans h.current⟩

/-- The last step of a run closed, and the later ones logged SKIPPED where a reason is given (R155, R165). -/
def closed (w : Working) (v : Verdict) (r : EndReason) (skipped : Option EndReason) (s : State) : State :=
  match skipped with
  | none => closeStep w v r s
  | some q => skipRest (w.index + 1) q (closeStep w v r s)

/-- One change of the Tenant Units, the Test Controller and the forced profile. -/
inductive Shift : State → State → Prop
  | kept {s t : State} (units : ∀ x, UnitKept (s.tenant x) (t.tenant x)) (test : TestKept s.test t.test)
      (forced : t.ladder.forced = s.ladder.forced ∨ t.ladder.forced = none) : Shift s t
  | injected (x : Tenant) (s : State) : Shift s (inject x s)
  | activated {s : State} {x : Tenant} (unmet : s.unmet x = []) :
      Shift s (s.withTenant x { s.tenant x with state := .active })
  | advanced {s : State} {w : Working} (v : Verdict) (r : EndReason) (run : s.test.runState = .running)
      (work : s.test.work = some w) (more : w.index + 1 < s.test.count) :
      Shift s (startStep (w.index + 1) (closeStep w v r s)).1
  | finished {s : State} {w : Working} (aborted : Bool) (v : Verdict) (r : EndReason) (skipped : Option EndReason)
      (run : s.test.runState = .running) (work : s.test.work = some w) : Shift s (finishRun aborted (closed w v r skipped s))
  | abandoned {s : State} (run : s.test.runState = .running) (work : s.test.work = none) : Shift s (finishRun true s)
  | started {s : State} {n : Nat} {flag : Bool} (idle : s.test.runState ≠ .running) (some' : 1 ≤ n) (most : n ≤ 16)
      (full : s.test.firstEmpty n = none) (free : flag = true → s.inService = []) :
      Shift s (startStep 0 (s.withTest (s.test.started n flag))).1
  | stepSet {s : State} (i : Nat) {e : Option Step} (idle : s.test.runState ≠ .running)
      (range : ∀ x, e = some x → x.body.inRange) : Shift s (s.withTest (s.test.withStep i e))
  | waived {s : State} : Shift s (s.withTest { s.test with acceptance := .waived })
  | fullReset (cause : ResetCause) (s : State) : Shift s (fullReset cause s)

/-- A chain of changes. -/
def Shifts : State → State → Prop := Relation.ReflTransGen Shift

theorem Shifts.refl (s : State) : Shifts s s := Relation.ReflTransGen.refl

theorem Shifts.trans {s t u : State} (h : Shifts s t) (k : Shifts t u) : Shifts s u := Relation.ReflTransGen.trans h k

theorem Shift.shifts {s t : State} (h : Shift s t) : Shifts s t := .single h

/-- What keeps a property through every change keeps it through a chain. -/
theorem Shifts.keeps {P : State → Prop} (step : ∀ s t, Shift s t → P s → P t) {s t : State} (h : Shifts s t) (p : P s) :
    P t := by
  induction h with
  | refl => exact p
  | tail _ k ih => exact step _ _ k ih

theorem foldl_shifts {α : Type} (f : State → α → State) (h : ∀ s a, Shifts s (f s a)) (l : List α) :
    ∀ s, Shifts s (l.foldl f s) := by
  induction l with
  | nil => exact Shifts.refl
  | cons a l ih => exact fun s => (h s a).trans (ih (f s a))

/-! ## Changes of nothing, of units, of tables -/

theorem shifts_of_eq {s t : State} (tenants : t.tenants = s.tenants) (test : t.test = s.test)
    (forced : t.ladder.forced = s.ladder.forced) : Shifts s t :=
  (Shift.kept (fun x => by rw [State.tenant, State.tenant, tenants]; exact .refl _) (test ▸ .refl _) (.inl forced)).shifts

theorem OnlyNotices.shifts {s t : State} (h : OnlyNotices s t) : Shifts s t :=
  shifts_of_eq h.tenants h.test (by rw [h.ladder])

theorem withTiming_shifts (s : State) (t : Timing) : Shifts s (s.withTiming t) := shifts_of_eq rfl rfl rfl

theorem withLink_shifts (s : State) (l : LinkUnit) : Shifts s (s.withLink l) := shifts_of_eq rfl rfl rfl

theorem withPort_shifts (s : State) (p : Port) : Shifts s (s.withPort p) := shifts_of_eq rfl rfl rfl

theorem withLadder_shifts (s : State) (l : Ladder) (h : l.forced = s.ladder.forced) : Shifts s (s.withLadder l) :=
  shifts_of_eq rfl rfl h

theorem withTest_shifts (s : State) (t : TestUnit) (h : TestKept s.test t) : Shifts s (s.withTest t) :=
  (Shift.kept (s := s) (t := s.withTest t) (fun _ => .refl _) h (.inl rfl)).shifts

/-- The current step's phase or counts changed. -/
theorem withWork_shifts (s : State) (w w' : Working) (h : s.test.work = some w) (index : w'.index = w.index)
    (step : w'.step = w.step) : Shifts s (s.withWork (some w')) :=
  withTest_shifts s _ ⟨rfl, by simp [TestUnit.current, h, index, step]⟩

theorem withTenant_shifts (s : State) (x : Tenant) (u : TenantUnit) (h : UnitKept (s.tenant x) u) :
    Shifts s (s.withTenant x u) := by
  refine (Shift.kept (s := s) (t := s.withTenant x u) (fun y => ?_) (.refl _) (.inl rfl)).shifts
  by_cases e : y = x
  · subst e; simpa using h
  · rw [State.withTenant_other _ _ _ _ e]; exact .refl _

/-! ## Events of the Test Controller -/

theorem drainIfEmpty_shifts (x : Tenant) (s : State) : Shifts s (drainIfEmpty x s) := by
  obtain ⟨q, e⟩ := drainIfEmpty_eq x s
  rw [e]
  exact (withTenant_shifts s x _ (drained_kept _)).trans (withPort_shifts _ q)

theorem countPathEntries_shifts (a b : List Entry) (s : State) : Shifts s (countPathEntries a b s) := by
  unfold countPathEntries
  split
  · next w _ work =>
    split
    · exact withWork_shifts s w _ work rfl rfl
    · exact .refl s
  · exact .refl s

theorem endPathActive_shifts (s : State) : Shifts s (endPathActive s) := by
  unfold endPathActive
  split
  · next w _ work =>
    split
    · split
      · exact withWork_shifts s w _ work rfl rfl
      · exact .refl s
    · exact .refl s
  · exact .refl s

theorem inject_test (x : Tenant) (s : State) : (inject x s).test = { s.test with work := (inject x s).test.work } := by
  unfold inject
  repeat' split
  all_goals rfl

/-- A step starts by its working record alone. -/
theorem beginStep_test (w : Working) (s : State) : (beginStep w s).1.test = { s.test with work := (beginStep w s).1.test.work } := by
  unfold beginStep
  repeat' split
  all_goals first
    | exact inject_test _ _
    | simp only [State.withWork_test, setForce_test]

theorem startStep_test (i : Nat) (s : State) : (startStep i s).1.test = { s.test with work := (startStep i s).1.test.work } := by
  unfold startStep
  split
  · rfl
  · exact beginStep_test _ s

/-- A step that ends, and each step started behind it that ends at once (R155). -/
theorem endStepFor_shifts (n : Nat) : ∀ v r s, s.test.runState = .running → Shifts s (endStepFor n v r s) := by
  induction n with
  | zero => exact fun _ _ s _ => .refl s
  | succ n ih =>
    intro v r s run
    unfold endStepFor
    split
    · exact .refl s
    · next w work =>
      dsimp only
      split
      · exact (Shift.finished false v r (some .mandatoryFailed) run work).shifts
      · split
        · exact (Shift.finished false v r none run work).shifts
        · next more =>
          obtain ⟨-, -, -, running, -⟩ := closeStep_log w v r s
          have count := (closeStep_runFrame w v r s).tables.count
          have next' := (Shift.advanced v r run work (by omega)).shifts
          have still : (startStep (w.index + 1) (closeStep w v r s)).1.test.runState = .running := by
            rw [startStep_test]
            exact running.trans run
          split
          · next h => rw [h] at next'; exact next'
          · next h =>
            rw [h] at next' still
            exact next'.trans (ih _ _ _ still)

theorem endStep_shifts (v : Verdict) (r : EndReason) (s : State) : Shifts s (endStep v r s) := by
  unfold endStep
  split
  · next run => exact endStepFor_shifts _ v r s run
  · exact .refl s

theorem abortRun_shifts (r : EndReason) (s : State) (run : s.test.runState = .running) : Shifts s (abortRun r s) := by
  unfold abortRun
  split
  · next work => exact (Shift.abandoned run work).shifts
  · next w work => exact (Shift.finished true .aborted r (some .runAborted) run work).shifts

theorem stepLinkLost_shifts (s : State) : Shifts s (stepLinkLost s) := by
  unfold stepLinkLost
  repeat' split
  all_goals first | exact .refl s | exact endStep_shifts _ _ _

theorem stepTenantLeft_shifts (x : Tenant) (s : State) : Shifts s (stepTenantLeft x s) := by
  unfold stepTenantLeft
  repeat' split
  all_goals first | exact .refl s | exact endStep_shifts _ _ _

theorem stepWatch_shifts (s : State) : Shifts s (stepWatch s) := by
  unfold stepWatch
  repeat' split
  all_goals first | exact .refl s | exact endStep_shifts _ _ _

theorem crossSample_shifts (m : Int) (s : State) : Shifts s (crossSample m s) := by
  unfold crossSample
  dsimp only
  split
  · next w l _ _ work _ =>
    have sampled := withWork_shifts s w { w with samples := w.samples + 1, sum := w.sum + (m - l) } work rfl rfl
    split
    · split
      · split
        · split
          · exact sampled.trans (endStep_shifts _ _ _)
          · exact sampled.trans (endStep_shifts _ _ _)
        · exact sampled
      · exact .refl s
    · exact .refl s
  · exact .refl s

/-- A matching report belongs to the current step (R164). -/
theorem matchingWork_work {t : TestUnit} {r : Report} {w : Working} (h : t.matchingWork r = some w) : t.work = some w := by
  unfold TestUnit.matchingWork at h
  split at h
  · next e =>
    split at h
    · rw [e, h]
    · cases h
  · cases h

theorem takeReport_shifts (r : Report) (s : State) : Shifts s (takeReport r s) := by
  unfold takeReport
  split
  · exact withTest_shifts s _ ⟨rfl, rfl⟩
  · next w matching =>
    have held := withWork_shifts s w { w with report := some r } (matchingWork_work matching) rfl rfl
    dsimp only
    split
    · exact held.trans (endStep_shifts _ _ _)
    · exact held

/-- A phase that is over is the current step's. -/
theorem phaseOver_work {t : TestUnit} {k : Option StepKind} {p : Phase} {w : Working} (h : t.phaseOver k p = some w) :
    t.work = some w := by
  unfold TestUnit.phaseOver at h
  split at h
  · next e =>
    split at h
    · rw [e, h]
    · cases h
  · cases h

theorem leadOver_shifts (s : State) : Shifts s (leadOver s) := by
  unfold leadOver
  split
  · next w spent =>
    split
    · exact withWork_shifts s w _ (phaseOver_work spent) rfl rfl
    · exact .refl s
  · exact .refl s

theorem activeOver_shifts (s : State) : Shifts s (activeOver s) := by
  unfold activeOver
  split
  · next w spent =>
    split
    · exact withWork_shifts s w _ (phaseOver_work spent) rfl rfl
    · exact .refl s
  · exact .refl s

theorem tailOver_shifts (s : State) : Shifts s (tailOver s) := by
  unfold tailOver
  split
  · next w spent =>
    split
    · exact endStep_shifts _ _ s
    · exact withWork_shifts s w _ (phaseOver_work spent) rfl rfl
  · exact .refl s

theorem reportWaitOver_shifts (s : State) : Shifts s (reportWaitOver s) := by
  unfold reportWaitOver
  split
  · exact endStep_shifts _ _ s
  · exact .refl s

theorem waitOver_shifts (s : State) : Shifts s (waitOver s) := by
  unfold waitOver
  split
  · exact endStep_shifts _ _ s
  · exact .refl s

theorem crossOver_shifts (s : State) : Shifts s (crossOver s) := by
  unfold crossOver
  split
  · exact endStep_shifts _ _ s
  · exact .refl s

/-! ## Events of the link and of the timing blocks -/

theorem timingEvent_shifts (t : Timing) (s : State) : Shifts s (timingEvent t s) :=
  ((withTiming_shifts s t).trans (raiseTiming_onlyNotices _ _ _).shifts).trans (stepWatch_shifts _)

theorem handOn_shifts (x : Source) (m w : Int) (s : State) : Shifts s (handOn x m w s) :=
  ((withTiming_shifts s _).trans (raiseTiming_onlyNotices _ _ _).shifts).trans (stepWatch_shifts _)

theorem giveSample_shifts (x : Nat) (s : State) : Shifts s (giveSample x s) :=
  (withLadder_shifts s _ (sample_forced _ _ _)).trans
    (foldl_onlyNotices _ (fun s _ => raiseProfile_onlyNotices s _) _ _).shifts

theorem enterDown_shifts (c : LinkCause) (s : State) : Shifts s (enterDown c s) := by
  obtain ⟨p, e⟩ := downEntered_eq c s
  have entered : Shifts s (downEntered c s) := shifts_of_eq (by rw [e]; rfl) (by rw [e]; rfl) (by rw [e]; rfl)
  exact (entered.trans (stepLinkLost_shifts _)).trans (stepWatch_shifts _)

theorem lostEffect_shifts (s : State) : Shifts s (lostEffect s) := by
  rcases lostEffect_cases s with ⟨-, c, e⟩ | ⟨-, e, -⟩
  · rw [e]; exact enterDown_shifts c s
  · rw [e]; exact withLink_shifts s _

theorem absentDue_shifts (s : State) : Shifts s (absentDue s) := by
  cases due : s.link.absenceDue with
  | false => rw [absentDue_none s due]; exact .refl s
  | true => rw [absentDue_found s due]; exact (withLink_shifts s _).trans (lostEffect_shifts _)

theorem supervisionDue_shifts (s : State) : Shifts s (supervisionDue s) := by
  unfold supervisionDue
  split
  · exact timingEvent_shifts _ s
  · exact .refl s

theorem agingDue_shifts (s : State) : Shifts s (agingDue s) := by
  unfold agingDue
  split
  · exact withTiming_shifts s _
  · exact .refl s

theorem limitDue_shifts (s : State) : Shifts s (limitDue s) := by
  unfold limitDue
  split
  · exact timingEvent_shifts _ s
  · exact .refl s

theorem overdueAbsence_shifts (i : PulseInput) (s : State) : Shifts s (overdueAbsence i s) := by
  unfold overdueAbsence
  split
  · exact timingEvent_shifts _ s
  · exact .refl s

theorem absenceNow_shifts (i : PulseInput) (s : State) : Shifts s (absenceNow i s) := by
  unfold absenceNow
  split
  · exact timingEvent_shifts _ s
  · exact .refl s

/-- Every event that stands due is a chain of changes. -/
theorem settle_shifts (s : State) : Shifts s (settle s) := by
  have links (u : State) : Shifts u (absentDue (overdueAbsence .ext (overdueAbsence .gnss u))) :=
    ((overdueAbsence_shifts _ u).trans (overdueAbsence_shifts _ _)).trans (absentDue_shifts _)
  have clocks (u : State) : Shifts u (limitDue (Machine.agingDue (supervisionDue u))) :=
    ((supervisionDue_shifts u).trans (agingDue_shifts _)).trans (limitDue_shifts _)
  have phases (u : State) : Shifts u (reportWaitOver (tailOver (activeOver (leadOver u)))) :=
    (((leadOver_shifts u).trans (activeOver_shifts _)).trans (tailOver_shifts _)).trans (reportWaitOver_shifts _)
  exact ((((links s).trans (clocks _)).trans (phases _)).trans (waitOver_shifts _)).trans (crossOver_shifts _)

/-! ## A received frame -/

theorem enterUpTiming_shifts (s : State) : Shifts s (enterUpTiming s) := by
  unfold enterUpTiming
  split
  · exact timingEvent_shifts _ s
  · exact stepWatch_shifts s

theorem goodEffect_shifts (s : State) : Shifts s (goodEffect s) := by
  have raised (l : LinkUnit) (p : LinkState) (c : LinkCause) : Shifts s ((s.withLink l).raiseLink p c) :=
    (withLink_shifts s l).trans (raiseLink_onlyNotices _ _ _).shifts
  unfold goodEffect
  split
  · exact raised _ _ _
  · split
    · exact (raised _ _ _).trans (enterUpTiming_shifts _)
    · exact withLink_shifts s _
  · exact withLink_shifts s _

theorem endMarkTaken_kept (t : TestUnit) (r : BitVec 16) : TestKept t (t.endMarkTaken r) := by
  unfold TestUnit.endMarkTaken
  repeat' split
  all_goals exact ⟨rfl, rfl⟩

theorem checkBlock_kept (t : TestUnit) (b : List Byte) (bad : Bool) : TestKept t (t.checkBlock b bad) := by
  unfold TestUnit.checkBlock
  dsimp only
  split <;> exact ⟨rfl, rfl⟩

theorem passEndMark_shifts (h : Header) (s : State) : Shifts s (passEndMark h s) := by
  unfold passEndMark
  repeat' split
  · exact withTest_shifts s _ (endMarkTaken_kept _ _)
  · exact .refl s
  · exact .refl s

theorem takeSync_shifts (b : List Byte) (m : Stamp) (s : State) : Shifts s (takeSync b m s) :=
  (timingEvent_shifts _ s).trans (withTiming_shifts _ _)

theorem takeDelayResp_shifts (b : List Byte) (s : State) : Shifts s (takeDelayResp b s) := by
  unfold takeDelayResp
  dsimp only
  split
  · exact timingEvent_shifts _ s
  · exact (timingEvent_shifts _ s).trans (handOn_shifts _ _ _ _)

theorem routeControl_shifts (m : Stamp) (s : State) (kp : ControlKind × Position) : Shifts s (routeControl m s kp) := by
  unfold routeControl
  split
  · exact withLink_shifts s _
  · split
    · exact takeSync_shifts _ _ s
    · exact withTiming_shifts s _
    · exact takeDelayResp_shifts _ s
    · exact takeReport_shifts _ s

theorem packetDone_shifts (x : Tenant) (p : Packet) (s : State) : Shifts s (packetDone x p s) := by
  unfold packetDone
  split
  · exact (withTenant_shifts s x (s.tenant x).completeTest (unitKept_of_eq rfl rfl rfl rfl)).trans
      (withTest_shifts _ (s.test.checkPacket p) ⟨rfl, rfl⟩)
  · have done := withTenant_shifts s x _ (completeTenant_kept (s.tenant x) p)
    dsimp only
    split
    · exact done.trans (raiseTenant_onlyNotices _ _ _ _ _).shifts
    · exact done

theorem routeTenant_shifts (x : Tenant) (s : State) (p : Position) : Shifts s (routeTenant x s p) := by
  have taken := withTenant_shifts s x _ (takeBlock_kept (s.tenant x) (segmentAt p.bytes) p.bad)
  unfold routeTenant
  dsimp only
  split
  · exact taken
  · exact taken.trans (packetDone_shifts _ _ _)

theorem routeFrame_shifts (h : Header) (m : Stamp) (ps : List Position) (s : State) : Shifts s (routeFrame h m ps s) := by
  have controls := foldl_shifts _ (routeControl_shifts m) (h.controls.zip (ps.drop 1)) s
  have tests (u : State) (p : Position) : Shifts u (routeTest u p) := withTest_shifts u _ (checkBlock_kept _ _ _)
  have tenant (x : Tenant) (l : List Position) (u : State) : Shifts u (l.foldl (routeTenant x) u) :=
    foldl_shifts _ (routeTenant_shifts x) l u
  unfold routeFrame routeTenants
  dsimp only
  split
  · exact ((((controls.trans (foldl_shifts _ tests _ _)).trans (tenant .t0 _ _)).trans (tenant .t1 _ _)).trans
      (tenant .t2 _ _)).trans (tenant .t3 _ _)
  · exact controls.trans (withLink_shifts _ _)

theorem takeGood_shifts (h : Header) (r : FrameRecord) (m : Stamp) (s : State) : Shifts s (takeGood h r m s) := by
  have free (u : State) (n : Nat) : Shifts u (u.withFreeIndex n) := shifts_of_eq rfl rfl rfl
  unfold takeGood
  exact (((((goodEffect_shifts s).trans (giveSample_shifts _ _)).trans (withLink_shifts _ _)).trans
    (passEndMark_shifts _ _)).trans (free _ _)).trans (routeFrame_shifts _ _ _ _)

theorem takeFrame_shifts (r : FrameRecord) (s : State) : Shifts s (takeFrame r s) := by
  have taken : Shifts s (s.recordTaken r) := shifts_of_eq rfl rfl rfl
  by_cases e : ∃ h, judgeHeader r = .good h
  · obtain ⟨h, e⟩ := e
    rw [takeFrame_good r s h e]
    exact taken.trans (takeGood_shifts h r _ _)
  · rw [takeFrame_lost r s (not_exists.mp e)]
    exact (taken.trans (giveSample_shifts _ _)).trans (lostEffect_shifts _)

/-! ## The passing of local time -/

theorem tenantSecond_shifts (s : State) (x : Tenant) : Shifts s (tenantSecond s x) := by
  have second := withTenant_shifts s x _ (second_kept (s.tenant x) s.timing.servo.cls s.timing.base.now.sec)
  unfold tenantSecond
  dsimp only
  split
  · exact second
  · exact second.trans (raiseTenant_onlyNotices _ _ _ _ _).shifts

theorem countSecond_kept (t : TestUnit) : TestKept t t.countSecond := by
  unfold TestUnit.countSecond
  split
  · next work =>
    split
    · exact ⟨rfl, by simp [TestUnit.current, work]⟩
    · exact .refl t
  · exact .refl t

theorem countFrame_kept (t : TestUnit) (n p : Nat) : TestKept t (t.countFrame n p) := by
  unfold TestUnit.countFrame
  split
  · next work =>
    refine ⟨rfl, ?_⟩
    simp only [TestUnit.current, work, Option.map_some]
    split <;> rfl
  · exact .refl t

theorem timeSetTaken_shifts (s : State) (b : Bool) : Shifts s (s.timeSetTaken b) := by
  unfold State.timeSetTaken
  split
  · exact withTiming_shifts s _
  · exact .refl s

theorem secondEvent_shifts (s : State) : Shifts s (secondEvent s) := by
  have counted (u : State) : Shifts u (countSecond u) :=
    (withTiming_shifts u _).trans (withTest_shifts _ _ (countSecond_kept u.test))
  unfold secondEvent
  refine Shifts.trans ?_ (counted _)
  refine Shifts.trans ?_ (foldl_shifts _ tenantSecond_shifts Tenant.all _)
  refine Shifts.trans ?_ (timeSetTaken_shifts _ _)
  exact (withTiming_shifts s _).trans (settle_shifts _)

/-- A frame handed over, with every block given up by its owner (R5, R45, R53, R54). -/
theorem frameSent_shifts (s : State) (p : Plan × Vector Tenant 8) (q : Port) :
    Shifts s ((s.frameSent p (s.given p.1)).withPort q) := by
  have placed := placed_frame s p.1.controls
  have test : TestKept s.test (s.placed p.1.controls).test := by
    rw [placed.test]
    exact ⟨rfl, rfl⟩
  have counted := countFrame_kept (s.placed p.1.controls).test p.1.testBlocks s.nextTxProfile
  refine (Shift.kept (s := s) (t := (s.frameSent p (s.given p.1)).withPort q) (fun x => ?_)
    (test.trans counted) (.inl rfl)).shifts
  have unit : ((s.frameSent p (s.given p.1)).withPort q).tenant x = ((s.given p.1).get x).unit := Quad.get_map _ _ _
  rw [unit]
  exact given_kept s p.1 x

theorem pathOccasion_shifts (old : Quad TenantUnit) (g : Quad TenantGiven) (s : State) : Shifts s (pathOccasion old g s) := by
  have tests (u : State) (x : Tenant) : Shifts u (tenantTests old g u x) := by
    have counted := countPathEntries_shifts (g.get x).given.left (g.get x).removed u
    unfold tenantTests
    dsimp only
    split
    · exact counted.trans (Shift.injected x _).shifts
    · exact counted
  exact (foldl_shifts _ tests Tenant.all s).trans (endPathActive_shifts _)

theorem sendFrame_shifts (s : State) : Shifts s (sendFrame s) := by
  obtain ⟨q, e⟩ := sendFrame_eq s
  rw [e]
  exact (frameSent_shifts s s.plan q).trans (pathOccasion_shifts _ _ _)

theorem reachFrame_shifts (s : State) : Shifts s (reachFrame s) := by
  unfold reachFrame
  dsimp only
  refine Shifts.trans ?_ (withTiming_shifts _ _)
  refine Shifts.trans ?_ (settle_shifts _)
  refine Shifts.trans ?_ (withTiming_shifts _ _)
  split
  · exact secondEvent_shifts s
  · exact .refl s

theorem frameStart_shifts (s : State) : Shifts s (frameStart s) := by
  unfold frameStart
  split
  · exact .refl s
  · exact (reachFrame_shifts s).trans (sendFrame_shifts _)

theorem passOver_shifts (n : Nat) : ∀ dt s, Shifts s (passOver n dt s) := by
  induction n with
  | zero => exact fun _ s => withTiming_shifts s _
  | succ n ih =>
    intro dt s
    unfold passOver boundaryEvent
    split
    · refine Shifts.trans ?_ (ih _ _)
      split
      · exact secondEvent_shifts s
      · exact frameStart_shifts s
    · exact withTiming_shifts s _

theorem passTime_shifts (dt : Nat) (s : State) : Shifts s (passTime dt s) := passOver_shifts _ _ _

theorem takePulse_shifts (i : PulseInput) (s : State) : Shifts s (takePulse i s) := by
  have judged := timingEvent_shifts (s.timing.pulsed i).1 s
  unfold takePulse
  dsimp only
  split
  · have handed (m : Int) := (judged.trans (withTiming_shifts _ ((timingEvent (s.timing.pulsed i).1 s).timing.keepM i m))).trans
      (handOn_shifts i.source m 0 _)
    split
    · exact (handed _).trans (crossSample_shifts _ _)
    · exact handed _
  · exact judged

/-! ## Events at a port -/

theorem arriveAt_shifts (x : Tenant) (bad : Bool) (b : List Byte) (s : State) : Shifts s (arriveAt x bad b s) := by
  have arrived := withTenant_shifts s x _ (arrive_kept (s.tenant x) s.link.frameCounter bad b)
  unfold arriveAt
  dsimp only
  split
  · exact arrived
  · exact arrived.trans (Shift.injected x _).shifts

theorem removeStale_shifts (x : Tenant) (s : State) : Shifts s (removeStale x s) := by
  unfold removeStale
  split
  · exact .refl s
  split
  · exact .refl s
  · next h =>
    exact ((withTenant_shifts s x _ (ageHead_kept h)).trans (countPathEntries_shifts _ _ _)).trans (drainIfEmpty_shifts _ _)

end Sys2Proof.Machine
end

section
/-! SUPPORT. The chains of changes of the Tenant Units, the Test Controller and the forced profile that requests and resets
make, and `exec_shifts`: those of every command. -/

namespace Sys2Proof.Machine

/-! ## Requests -/

theorem takeTenantRecord_shifts (x : Tenant) (r : TenantRecord) (c : TenantCause) (s : State) :
    Shifts s (takeTenantRecord x r c s) := by
  have taken := withTenant_shifts s x _ (takeRecord_kept (s.tenant x) r)
  unfold takeTenantRecord
  dsimp only
  split
  · exact taken.trans (raiseTenant_onlyNotices _ _ _ _ _).shifts
  · exact taken

theorem setTenant_shifts (i : Nat) (r : Option TenantRecord) (s : State) : Shifts s (doSetTenant i r s).1 := by
  unfold doSetTenant setTenantOf
  dsimp only
  repeat' split
  all_goals first | exact .refl s | exact takeTenantRecord_shifts _ _ _ s

theorem tenantActivate_shifts (i : Nat) (s : State) : Shifts s (doTenantActivate i s).1 := by
  unfold doTenantActivate
  split
  · exact .refl s
  split
  · next unmet => exact (Shift.activated unmet).shifts.trans (raiseTenant_onlyNotices _ _ _ _ _).shifts
  · exact .refl s

/-- A unit with its queue empty, or with entries left to send, after TENANT_DRAIN (R44, R45). -/
def TenantUnit.draining (u : TenantUnit) : TenantUnit :=
  { u with state := if u.queue = [] then .off else .draining, paused := !u.queue.isEmpty }

/-- TENANT_DRAIN in one form for both outcomes (R44). -/
theorem drain_eq (x : Tenant) (s : State) : drain x s = stepTenantLeft x ((s.withTenant x (s.tenant x).draining).raiseTenant x
    .active (if (s.tenant x).queue = [] then .drained else .drainStarted) .plain) := by
  unfold drain TenantUnit.draining
  dsimp only
  by_cases empty : (s.tenant x).queue = []
  · rw [if_pos empty, if_pos empty, if_pos empty, empty]
    rfl
  · have filled : (!(s.tenant x).queue.isEmpty) = true := by simpa using empty
    rw [if_neg empty, if_neg empty, if_neg empty, filled]

theorem tenantDrain_shifts (i : Nat) (s : State) : Shifts s (doTenantDrain i s).1 := by
  unfold doTenantDrain
  split
  · exact .refl s
  split
  · next x _ active =>
    dsimp only
    rw [drain_eq]
    exact ((withTenant_shifts s x _ (drainTaken_kept _ active)).trans (raiseTenant_onlyNotices _ _ _ _ _).shifts).trans
      (stepTenantLeft_shifts _ _)
  · exact .refl s

theorem tenantOff_shifts (i : Nat) (s : State) : Shifts s (doTenantOff i s).1 := by
  unfold doTenantOff switchOff
  split
  · exact .refl s
  · next x _ =>
    have flushed := withTenant_shifts s x _ (flushed_kept (s.tenant x))
    dsimp only
    split
    · exact flushed
    · exact (flushed.trans (raiseTenant_onlyNotices _ _ _ _ _).shifts).trans (stepTenantLeft_shifts _ _)

theorem getCounters_shifts (i : Nat) (c : Bool) (s : State) : Shifts s (doGetCounters i c s).1 := by
  unfold doGetCounters
  split
  · exact .refl s
  · dsimp only
    split
    · exact withTenant_shifts s _ _ (cleared_kept _)
    · exact .refl s

theorem setPattern_shifts (i : Nat) (p : Option Pattern) (s : State) : Shifts s (doSetPattern i p s).1 := by
  unfold doSetPattern
  repeat' split
  all_goals first | exact .refl s | exact withTest_shifts s _ ⟨rfl, rfl⟩

/-- A step's fields within the ranges of R153 stay so with T limited to 64. -/
theorem limited_body_inRange (b : StepBody) (h : b.ok = true) : b.limited.inRange := by
  cases b with
  | linkPattern profile pattern blocks mode lead active tail errorLimit missLimit =>
    simp only [StepBody.ok, Bool.and_eq_true, decide_eq_true_eq] at h
    simp only [StepBody.inRange, StepBody.limited, StepBody.ok, Bool.and_eq_true, decide_eq_true_eq,
      StepBody.linkPattern.injEq, true_and, and_true]
    omega
  | tenantPath => exact ⟨h, rfl⟩
  | timingCross => exact ⟨h, rfl⟩
  | wait => exact ⟨h, rfl⟩

theorem setStep_shifts (i : Nat) (a : StepArg) (s : State) : Shifts s (doSetStep i a s).1 := by
  unfold doSetStep
  split
  · exact .refl s
  next idle =>
  split
  · exact .refl s
  split
  · exact .refl s
  · exact (Shift.stepSet (e := none) i idle fun _ h => by cases h).shifts
  · split
    · exact .refl s
    · next e ok =>
      exact (Shift.stepSet i idle fun x h => by
        injection h with h
        rw [← h]
        exact limited_body_inRange e.body (by simpa using ok)).shifts

theorem testStart_shifts (n : Nat) (f : Bool) (s : State) : Shifts s (doTestStart n f s).1 := by
  unfold doTestStart
  split
  · exact .refl s
  next idle =>
  split
  · exact .refl s
  next range =>
  split
  · exact .refl s
  next full =>
  split
  · exact .refl s
  next free =>
  have first := (Shift.started (s := s) (n := n) (flag := f) idle (by omega) (by omega) (by simpa using full)
    fun h => by simpa [h] using free).shifts
  dsimp only [runFirstStep]
  split
  · next h => rw [h] at first; exact first
  · next h => rw [h] at first; exact first.trans (endStep_shifts _ _ _)

theorem takeTimingRecord_shifts (r : TimingRecord) (s : State) : Shifts s (takeTimingRecord r s) := timingEvent_shifts _ s

theorem applySettings_shifts (v : Settings) (s : State) : Shifts s (applySettings v s) := by
  have base : Shifts s ((s.withLadder (s.ladder.takeRecord v.link)).withPlanner { s.planner with shares := v.shares }) :=
    shifts_of_eq rfl rfl rfl
  unfold applySettings loadTenants
  dsimp only
  refine Shifts.trans ?_ (foldl_shifts _ (fun u x => takeTenantRecord_shifts x _ _ u) _ _)
  exact (base.trans (takeTimingRecord_shifts _ _)).trans (withTest_shifts _ _ ⟨rfl, rfl⟩)

theorem takeOp_shifts (k : StoreOpKind) (s : State) : Shifts s (takeOp k s).1 := shifts_of_eq rfl rfl rfl

theorem setRole_shifts (r : Option Role) (s : State) : Shifts s (doSetRole r s).1 := by
  unfold doSetRole
  split
  · exact .refl s
  split
  · exact .refl s
  · exact shifts_of_eq rfl rfl rfl

theorem reset_shifts (o : Option ResetOption) (s : State) : Shifts s (doReset o s).1 := by
  unfold doReset
  split
  · exact .refl s
  · exact withPort_shifts s _

theorem getStatus_shifts (p : Option StatusPart) (s : State) : Shifts s (doGetStatus p s).1 := by
  unfold doGetStatus
  split <;> exact .refl s

theorem setLink_shifts (r : LinkRecord) (s : State) : Shifts s (doSetLink r s).1 := by
  unfold doSetLink
  split
  · exact withLadder_shifts s _ rfl
  · exact .refl s

theorem setShares_shifts (t : ShareTable) (s : State) : Shifts s (doSetShares t s).1 := by
  unfold doSetShares
  split
  · exact shifts_of_eq rfl rfl rfl
  · exact .refl s

theorem setTiming_shifts (r : TimingRecord) (s : State) : Shifts s (doSetTiming r s).1 := by
  unfold doSetTiming
  split
  · exact takeTimingRecord_shifts r s
  · exact .refl s

theorem timeSet_shifts (x : BitVec 48) (s : State) : Shifts s (doTimeSet x s).1 := by
  unfold doTimeSet
  split
  · exact .refl s
  · exact withTiming_shifts s _

theorem timingRestart_shifts (s : State) : Shifts s (doTimingRestart s).1 := by
  have restart : Shifts s (s.withTiming s.timing.restart) := withTiming_shifts s _
  exact (restart.trans (raiseTiming_onlyNotices _ _ _).shifts).trans (stepWatch_shifts _)

theorem testAbort_shifts (s : State) : Shifts s (doTestAbort s).1 := by
  unfold doTestAbort
  split
  · next run => exact abortRun_shifts _ s run
  · exact .refl s

theorem acceptWaive_shifts (s : State) : Shifts s (doAcceptWaive s).1 := by
  unfold doAcceptWaive
  split
  · exact .refl s
  · exact Shift.waived.shifts.trans (raiseTest_onlyNotices _ _).shifts

theorem storeSave_shifts (i : Nat) (s : State) : Shifts s (doStoreSave i s).1 := by
  unfold doStoreSave
  repeat' split
  · exact .refl s
  · exact .refl s
  · exact takeOp_shifts _ s

theorem storeLoad_shifts (i : Nat) (s : State) : Shifts s (doStoreLoad i s).1 := by
  unfold doStoreLoad
  repeat' split
  · exact .refl s
  · exact .refl s
  · exact .refl s
  · exact .refl s
  · dsimp only
    exact (applySettings_shifts _ s).trans (raiseStore_onlyNotices _ _ _).shifts

theorem storeErase_shifts (i : Nat) (s : State) : Shifts s (doStoreErase i s).1 := by
  unfold doStoreErase
  repeat' split
  · exact .refl s
  · exact .refl s
  · exact takeOp_shifts _ s

theorem storeBoot_shifts (i : Option Nat) (s : State) : Shifts s (doStoreBoot i s).1 := by
  unfold doStoreBoot
  split
  · exact .refl s
  split
  · exact .refl s
  split
  · exact takeOp_shifts _ s
  split
  · exact takeOp_shifts _ s
  · exact .refl s

theorem storeCal_shifts (a : Int) (s : State) : Shifts s (doStoreCal a s).1 := by
  unfold doStoreCal
  split
  · exact .refl s
  split
  · exact .refl s
  split
  · exact takeOp_shifts _ s
  · exact .refl s

/-- Every request is a chain of changes (R171). -/
theorem perform_shifts (r : Request) (s : State) : Shifts s (perform r s).1 := by
  cases r
  case getId => exact .refl s
  case setRole r => exact setRole_shifts r s
  case reset o => exact reset_shifts o s
  case getStatus p => exact getStatus_shifts p s
  case setLink r => exact setLink_shifts r s
  case setTenant i r => exact setTenant_shifts i r s
  case setShares t => exact setShares_shifts t s
  case tenantActivate i => exact tenantActivate_shifts i s
  case tenantDrain i => exact tenantDrain_shifts i s
  case tenantOff i => exact tenantOff_shifts i s
  case getCounters i c => exact getCounters_shifts i c s
  case setTiming r => exact setTiming_shifts r s
  case timeSet x => exact timeSet_shifts x s
  case timingRestart => exact timingRestart_shifts s
  case setPattern i p => exact setPattern_shifts i p s
  case setStep i a => exact setStep_shifts i a s
  case testStart n f => exact testStart_shifts n f s
  case testAbort => exact testAbort_shifts s
  case getResults => exact .refl s
  case acceptWaive => exact acceptWaive_shifts s
  case storeSave i => exact storeSave_shifts i s
  case storeLoad i => exact storeLoad_shifts i s
  case storeErase i => exact storeErase_shifts i s
  case storeBoot i => exact storeBoot_shifts i s
  case storeCal a => exact storeCal_shifts a s

/-! ## The management line -/

theorem completeRequest_shifts (b : Buffered) (s : State) : Shifts s (completeRequest b s) := by
  have answered (w : Incoming) (u : State) : Shifts u (answer w u).1 := by
    cases w
    · exact .refl u
    · exact .refl u
    · exact perform_shifts _ u
  unfold completeRequest
  exact ((withPort_shifts s _).trans (answered _ _)).trans (withPort_shifts _ _)

theorem takeRequest_shifts (s : State) : Shifts s (takeRequest s) := by
  unfold takeRequest
  repeat' split
  · exact .refl s
  · exact (withPort_shifts s _).trans (completeRequest_shifts _ _)
  · exact .refl s

theorem serve_shifts (s : State) : Shifts s (serve s) :=
  ((takeRequest_shifts s).trans (withPort_shifts _ _)).trans (takeRequest_shifts _)

theorem offerFrame_shifts (b : Buffered) (s : State) : Shifts s (offerFrame b s) :=
  (withPort_shifts s _).trans (serve_shifts _)

theorem receiveByte_shifts (s : State) (b : Byte) : Shifts s (receiveByte s b) := by
  unfold receiveByte
  dsimp only
  split
  · exact withPort_shifts s _
  · exact (withPort_shifts s _).trans (offerFrame_shifts _ _)

/-! ## Resets -/

/-- Every queue is emptied and the force removed (R37, R59, R60, R97). -/
theorem warmBlocks_shifts (s : State) : Shifts s (warmBlocks s) := by
  refine (Shift.kept (s := s) (t := warmBlocks s) (fun x => ?_) (.refl _) (.inr rfl)).shifts
  have unit : (warmBlocks s).tenant x = (s.tenant x).warm := Quad.get_map _ _ _
  rw [unit]
  exact warm_kept _

theorem warmReset_shifts (s : State) : Shifts s (warmReset s) := by
  have abort (u : State) : Shifts u (abortByReset u) := by
    unfold abortByReset
    split
    · next run => exact abortRun_shifts _ u run
    · exact .refl u
  rw [warmReset_eq]
  exact (((warmBlocks_shifts s).trans (warmNoticed_onlyNotices s).shifts).trans (abort _)).trans
    (withTest_shifts _ _ ⟨rfl, rfl⟩)

theorem commandReset_shifts (o : ResetOption) (s : State) : Shifts s (commandReset o s) := by
  cases o
  · exact (Shift.fullReset _ s).shifts
  · exact warmReset_shifts s

theorem commandResetOf_shifts (o : ResetOption) (s : State) : Shifts s (commandResetOf o s) := by
  unfold commandResetOf
  split
  · exact commandReset_shifts o s
  · exact .refl s

theorem outgoingEnds_shifts (s : State) : Shifts s (outgoingEnds s) := by
  unfold outgoingEnds lineEnds
  split
  · exact commandReset_shifts _ s
  · split
    · exact (withPort_shifts s _).trans (serve_shifts _)
    · exact .refl s

/-! ## Every command -/

theorem syncDueNow_shifts (s : State) : Shifts s (syncDueNow s) := by
  unfold syncDueNow
  split
  · exact withTiming_shifts s _
  · exact .refl s

theorem timeoutsNow_shifts (s : State) : Shifts s (timeoutsNow s) := by
  unfold timeoutsNow
  split
  · exact withTiming_shifts s _
  · exact .refl s

theorem storeEnds_shifts (s : State) : Shifts s (storeEnds s) := by
  have ended (st : Store) : Shifts s (s.withStore st) := shifts_of_eq rfl rfl rfl
  unfold storeEnds
  repeat' split
  · exact (ended _).trans (raiseStore_onlyNotices _ _ _).shifts
  · exact .refl s
  · exact .refl s

/-- What a command answers is a state that `announce` has been applied to; the chain up to there is the command's. -/
theorem shifts_of_next {s t u : State} (h : (Host.Outcome.next (announce u) : Host.Outcome State Fault Refusal) = .next t)
    (k : Shifts s u) : Shifts s t := by
  injection h with h
  rw [← h]
  exact k.trans (announce_onlyNotices u).shifts

/-- A command that is a request frame (log entry 5). -/
theorem requestFrame_shifts {s t : State} {tag : Byte} {r : Request}
    (h : (Host.Outcome.next (requestFrame tag r s) : Host.Outcome State Fault Refusal) = .next t) : Shifts s t :=
  shifts_of_next h (offerFrame_shifts _ s)

/-- Every command is a chain of changes. -/
theorem exec_shifts (c : Instr) (s t : State) (h : exec c s = .next t) : Shifts s t := by
  cases c
  case powerReset => exact shifts_of_next h (Shift.fullReset .power s).shifts
  case pinReset => exact shifts_of_next h (Shift.fullReset .pin s).shifts
  case commandFullReset => exact shifts_of_next h (commandResetOf_shifts _ s)
  case commandWarmReset => exact shifts_of_next h (commandResetOf_shifts _ s)
  case frameStart => exact shifts_of_next h (frameStart_shifts s)
  case receivedFrameRecord r =>
    refine shifts_of_next h ?_
    split
    · exact withTiming_shifts s _
    · exact (settle_shifts s).trans (takeFrame_shifts r _)
  case receiveMarkerCapture n => exact shifts_of_next h ((passTime_shifts n s).trans (withTiming_shifts _ _))
  case absentFrame => exact shifts_of_next h (absentDue_shifts s)
  case tenantPacketArrival x bad b => exact shifts_of_next h (arriveAt_shifts x bad b s)
  case holdInput x a => exact shifts_of_next h (withTenant_shifts s x _ (holdAt_kept _ a))
  case deliveryEnd x => exact shifts_of_next h (withTenant_shifts s x _ (endDelivery_kept _))
  case secondBoundary => exact shifts_of_next h ((passTime_shifts _ s).trans (secondEvent_shifts _))
  case pulse i n =>
    exact shifts_of_next h (((passTime_shifts n s).trans (settle_shifts _)).trans (takePulse_shifts i _))
  case absenceExpiry i => exact shifts_of_next h ((passTime_shifts _ s).trans (absenceNow_shifts i _))
  case staleRemoval x => exact shifts_of_next h (removeStale_shifts x s)
  case syncDue => exact shifts_of_next h (syncDueNow_shifts s)
  case exchangeTimeout => exact shifts_of_next h (timeoutsNow_shifts s)
  case linkSupervisionExpiry => exact shifts_of_next h (supervisionDue_shifts s)
  case holdoverLimit => exact shifts_of_next h (limitDue_shifts s)
  case holdoverAging => exact shifts_of_next h (agingDue_shifts s)
  case leadEnd => exact shifts_of_next h (leadOver_shifts s)
  case activeEnd => exact shifts_of_next h (activeOver_shifts s)
  case tailEnd => exact shifts_of_next h (tailOver_shifts s)
  case reportWaitExpiry => exact shifts_of_next h (reportWaitOver_shifts s)
  case waitTimeout => exact shifts_of_next h (waitOver_shifts s)
  case timingCrossTimeout => exact shifts_of_next h (crossOver_shifts s)
  case managementFrame b => exact shifts_of_next h (foldl_shifts _ receiveByte_shifts b s)
  case gapExpiry => exact shifts_of_next h (withPort_shifts s _)
  case outgoingFrameEnd => exact shifts_of_next h (outgoingEnds_shifts s)
  case erasingEnd => exact shifts_of_next (u := s.withStore s.store.erased) h (shifts_of_eq rfl rfl rfl)
  case storeOperationEnd => exact shifts_of_next h (storeEnds_shifts s)
  case unknownKind tag k => exact shifts_of_next h (offerFrame_shifts _ s)
  case strayByte b => exact shifts_of_next h (receiveByte_shifts s b)
  all_goals exact requestFrame_shifts h

/-- A step is a chain of changes, once the oldest waiting command has left the queue. -/
theorem step_shifts (s t : State) (h : step s = .next t) : Shifts s t := by
  unfold step at h
  split at h
  · injection h with h
    rw [h]
    exact .refl t
  · next c rest _ => exact (shifts_of_eq rfl rfl rfl : Shifts s (s.withPending rest)).trans (exec_shifts c _ t h)

end Sys2Proof.Machine
end

section
/-! PROOF. Every step keeps what a tenant in service and a run with the acceptance flag mean (R43, R154, R167). -/

namespace Sys2Proof.Machine

/-! ## What the parts of a run's progress leave alone -/

/-- Steps logged SKIPPED add to the log alone (R155). -/
theorem skipSteps_eq (reason : EndReason) (n : Nat) :
    ∀ i t, skipSteps reason n i t = { t with results := (skipSteps reason n i t).results } := by
  induction n with
  | zero => exact fun _ _ => rfl
  | succ n ih =>
    intro i t
    unfold skipSteps
    split
    · exact ih _ _
    · next step _ =>
      rw [ih (i + 1) (t.log (Working.fresh i step (t.patternFor step.body)) .skipped reason)]
      rfl

theorem skipRest_test (i : Nat) (r : EndReason) (s : State) :
    (skipRest i r s).test = { s.test with results := (skipRest i r s).test.results } := skipSteps_eq _ _ _ _

theorem closed_stepFrame (w : Working) (v : Verdict) (r : EndReason) (q : Option EndReason) (s : State) :
    StepFrame s (closed w v r q s) := by
  cases q with
  | none => exact closeStep_stepFrame w v r s
  | some q => exact (closeStep_stepFrame w v r s).trans (skipRest_stepFrame _ q _)

/-! ## The invariant of acceptance -/

/-- Nobody enters service at an event of the Test Controller. -/
theorem StepFrame.service {s t : State} (h : StepFrame s t) (x : Tenant) (k : (t.tenant x).state.inService = true) :
    (s.tenant x).state.inService = true := by
  rcases h.state x with e | ⟨-, e⟩
  · rwa [← e]
  · rw [e] at k; cases k

/-- The invariant where nobody enters service and the run's state, flag and acceptance are kept. -/
theorem acceptanceInv_of {s t : State} (service : ∀ x, (t.tenant x).state.inService = true → (s.tenant x).state.inService = true)
    (run : t.test.runState = s.test.runState) (flag : t.test.flag = s.test.flag)
    (acceptance : t.test.acceptance = s.test.acceptance) (h : s.acceptanceInv) : t.acceptanceInv := by
  obtain ⟨good, none'⟩ := h
  refine ⟨fun ⟨x, k⟩ => ?_, fun r f x => ?_⟩
  · rw [acceptance]
    exact good ⟨x, service x k⟩
  · have off := none' (run ▸ r) (flag ▸ f) x
    exact Bool.eq_false_iff.mpr fun k => Bool.eq_false_iff.mp off (service x k)

theorem TestKept.acceptance {a b : TestUnit} (h : TestKept a b) :
    b.runState = a.runState ∧ b.flag = a.flag ∧ b.acceptance = a.acceptance := by
  rw [h.eq]
  exact ⟨rfl, rfl, rfl⟩

/-- A step started keeps the run's state, flag and acceptance. -/
theorem startStep_acceptanceInv (i : Nat) (s : State) (h : s.acceptanceInv) : (startStep i s).1.acceptanceInv := by
  have test := startStep_test i s
  exact acceptanceInv_of (startStep_stepFrame i s).service (by rw [test]) (by rw [test]) (by rw [test]) h

theorem closeStep_acceptanceInv (w : Working) (v : Verdict) (r : EndReason) (s : State) (h : s.acceptanceInv) :
    (closeStep w v r s).acceptanceInv := by
  obtain ⟨-, -, flag, run, acceptance⟩ := closeStep_log w v r s
  exact acceptanceInv_of (closeStep_stepFrame w v r s).service run flag acceptance h

/-- What a step that closes a run leaves of the run's state, flag and acceptance. -/
theorem closed_acceptance (w : Working) (v : Verdict) (r : EndReason) (q : Option EndReason) (s : State) :
    (closed w v r q s).test.runState = s.test.runState ∧ (closed w v r q s).test.flag = s.test.flag ∧
    (closed w v r q s).test.acceptance = s.test.acceptance := by
  obtain ⟨-, -, flag, run, acceptance⟩ := closeStep_log w v r s
  cases q with
  | none => exact ⟨run, flag, acceptance⟩
  | some q =>
    simp only [closed]
    rw [skipRest_test]
    exact ⟨run, flag, acceptance⟩

theorem closed_acceptanceInv (w : Working) (v : Verdict) (r : EndReason) (q : Option EndReason) (s : State)
    (h : s.acceptanceInv) : (closed w v r q s).acceptanceInv := by
  obtain ⟨run, flag, acceptance⟩ := closed_acceptance w v r q s
  exact acceptanceInv_of (closed_stepFrame w v r q s).service run flag acceptance h

/-- A run with the acceptance flag ends with nobody in service, whatever its outcome (R154, R167). -/
theorem finishRun_acceptanceInv (a : Bool) (s : State) (run : s.test.runState = .running) (h : s.acceptanceInv) :
    (finishRun a s).acceptanceInv := by
  obtain ⟨good, none'⟩ := h
  refine ⟨fun ⟨x, k⟩ => ?_, fun r => by rw [finishRun_test] at r; cases r⟩
  have served := (finishRun_stepFrame a s).service x k
  have unflagged : s.test.flag = false := Bool.eq_false_iff.mpr fun f =>
    Bool.eq_false_iff.mp (none' run f x) served
  rw [finishRun_test]
  simpa [unflagged] using good ⟨x, served⟩

/-- With the four conditions met the acceptance record is good, and no run with the acceptance flag is in progress (R42). -/
theorem unmet_nil {s : State} {x : Tenant} (h : s.unmet x = []) : (s.tenant x).state = .pending ∧
    s.test.acceptance.good = true ∧ (s.test.runState = .running → s.test.flag = false) ∧ s.classMet x = true := by
  have met {b : Bool} {c : ActivateCond} (k : condUnless b c = []) : b = true := by
    cases b with
    | true => rfl
    | false => cases k
  simp only [State.unmet, List.append_eq_nil_iff] at h
  obtain ⟨⟨⟨pending, acceptance⟩, run⟩, cls⟩ := h
  exact ⟨by simpa using met pending, met acceptance, by simpa [imp_iff_not_or] using met run, met cls⟩

/-- With nobody listed in service no tenant is. -/
theorem inService_nil {s : State} (h : s.inService = []) (x : Tenant) : (s.tenant x).state.inService = false := by
  have all := List.filter_eq_nil_iff.mp h x (by cases x <;> decide)
  simpa using all

/-- Every change keeps the invariant. -/
theorem shift_acceptanceInv (s t : State) (h : Shift s t) (i : s.acceptanceInv) : t.acceptanceInv := by
  cases h with
  | kept units test _ =>
    obtain ⟨run, flag, acceptance⟩ := test.acceptance
    exact acceptanceInv_of (fun x => (units x).service) run flag acceptance i
  | injected x =>
    have test := inject_test x s
    exact acceptanceInv_of (inject_stepFrame x s).service (by rw [test]) (by rw [test]) (by rw [test]) i
  | activated unmet =>
    obtain ⟨-, good, unflagged, -⟩ := unmet_nil unmet
    refine ⟨fun _ => good, fun run flag => ?_⟩
    have unflagged : s.test.flag = false := unflagged run
    exact absurd (unflagged.symm.trans flag) (by decide)
  | advanced v r => exact startStep_acceptanceInv _ _ (closeStep_acceptanceInv _ v r s i)
  | finished aborted v r q run work =>
    obtain ⟨closedRun, -, -⟩ := closed_acceptance _ v r q s
    exact finishRun_acceptanceInv _ _ (closedRun.trans run) (closed_acceptanceInv _ v r q s i)
  | abandoned run => exact finishRun_acceptanceInv _ s run i
  | started idle _ _ _ free =>
    refine startStep_acceptanceInv 0 _ ⟨i.1, fun _ flag x => ?_⟩
    exact inService_nil (free flag) x
  | stepSet _ _ _ => exact i
  | waived => exact ⟨fun _ => rfl, i.2⟩
  | fullReset cause =>
    refine ⟨fun ⟨x, k⟩ => ?_, fun run => RunState.noConfusion run⟩
    have unit : (fullReset cause s).tenant x =
        (s.tenant x).startUp (s.store.startSettings.tenants.get x) s.store.bootSlot.isSome := Quad.get_ofFn _ _
    rw [unit] at k
    cases booted : s.store.bootSlot.isSome <;> rw [booted] at k <;> cases k

/-- Settles O52: a tenant enters service by TENANT_ACTIVATE alone, which asks for a good acceptance record and no run with
the acceptance flag; such a run starts with nobody in service, so its end can take the record from nobody. -/
theorem everyStepKeepsAcceptance : Obligations.EveryStepKeepsAcceptance :=
  fun s t i h => (step_shifts s t h).keeps shift_acceptanceInv i

end Sys2Proof.Machine
end

section
/-! PROOF. Every step keeps the bounds of queues, of the step table, of a run and of the ingress counters (R31, R50, R54,
R56, R89, R153, R155, R166). -/

namespace Sys2Proof.Machine

/-! ## Units -/

/-- Every Tenant Unit changes only as `UnitKept` allows. -/
def UnitsKept (s t : State) : Prop := ∀ x, UnitKept (s.tenant x) (t.tenant x)

theorem UnitsKept.refl (s : State) : UnitsKept s s := fun _ => .refl _

theorem UnitsKept.trans {s t u : State} (h : UnitsKept s t) (k : UnitsKept t u) : UnitsKept s u :=
  fun x => (h x).trans (k x)

theorem unitsKept_of_eq {s t : State} (h : t.tenants = s.tenants) : UnitsKept s t := fun x => by
  rw [State.tenant, State.tenant, h]
  exact .refl _

theorem unitsKept_withTenant (s : State) (x : Tenant) (u : TenantUnit) (h : UnitKept (s.tenant x) u) :
    UnitsKept s (s.withTenant x u) := fun y => by
  by_cases e : y = x
  · subst e; simpa using h
  · rw [State.withTenant_other _ _ _ _ e]; exact .refl _

/-- The test packets of a step within its ranges are of at least 64 bytes (R153). -/
theorem inRange_length {b : StepBody} {t : Tenant} {p n l e m : Nat} (h : b.inRange) (body : b = .tenantPath t p n l e m) :
    64 ≤ l := by
  subst body
  have ok := h.1
  simp only [StepBody.ok, Bool.and_eq_true, decide_eq_true_eq] at ok
  omega

theorem inject_units (x : Tenant) (s : State) (h : ∀ w, s.test.work = some w → w.step.body.inRange) :
    UnitsKept s (inject x s) := by
  unfold inject
  split
  · next w _ work =>
    split
    · next body _ =>
      split
      · exact unitsKept_withTenant s x _ (injectPackets_kept _ _ _ _ (inRange_length (h w work) body) 257
          (s.tenant x, w.judgeInjection (s.tenant x)))
      · exact .refl s
    · exact .refl s
  · exact .refl s

theorem drainIfEmpty_units (x : Tenant) (s : State) : UnitsKept s (drainIfEmpty x s) := by
  obtain ⟨q, e⟩ := drainIfEmpty_eq x s
  rw [e]
  exact unitsKept_withTenant s x _ (drained_kept _)

theorem closeStep_units (w : Working) (v : Verdict) (r : EndReason) (s : State) : UnitsKept s (closeStep w v r s) := by
  have forced (u : State) : UnitsKept u (if w.step.body.forces.isSome then removeForce u else u) := by
    split
    · exact unitsKept_of_eq (by unfold removeForce; split <;> simp [(raiseProfile_onlyNotices _ _).tenants])
    · exact .refl u
  have removed (u : State) : UnitsKept u (removeStepEntries w u) := by
    unfold removeStepEntries
    split
    · next x _ _ _ _ _ _ _ =>
      have taken := unitsKept_withTenant u x _ (removeTest_kept (u.tenant x) u.test.runId w.index)
      exact (taken.trans (unitsKept_of_eq (by exact rfl))).trans (drainIfEmpty_units x _)
    · exact .refl u
  exact ((forced s).trans (removed _)).trans (unitsKept_of_eq (raiseTest_onlyNotices _ _).tenants)

/-! ## The forced profile -/

theorem removeForce_forced (s : State) : (removeForce s).ladder.forced = none := by
  unfold removeForce
  split
  · rw [(raiseProfile_onlyNotices _ _).ladder]; rfl
  · next h => simpa using h

theorem drainIfEmpty_ladder (x : Tenant) (s : State) : (drainIfEmpty x s).ladder = s.ladder := by
  obtain ⟨q, e⟩ := drainIfEmpty_eq x s
  rw [e]
  rfl

/-- A step that forces a profile takes the force away as it ends, and no other does (R31, R155). -/
theorem closeStep_forced (w : Working) (v : Verdict) (r : EndReason) (s : State) :
    (closeStep w v r s).ladder.forced = if w.step.body.forces.isSome then none else s.ladder.forced := by
  have removed (u : State) : (removeStepEntries w u).ladder = u.ladder := by
    unfold removeStepEntries
    split
    · exact (drainIfEmpty_ladder _ _).trans rfl
    · rfl
  unfold closeStep
  rw [(raiseTest_onlyNotices _ _).ladder, State.withTest_ladder, removed]
  split
  · exact removeForce_forced s
  · rfl

/-! ## A current step and its replacement -/

theorem injectPackets_current (f : BitVec 32) (r : BitVec 16) (c l n : Nat) : ∀ x,
    (injectPackets f r c l n x).2.index = x.2.index ∧ (injectPackets f r c l n x).2.step = x.2.step := by
  induction n with
  | zero => exact fun _ => ⟨rfl, rfl⟩
  | succ n ih =>
    rintro ⟨u, w⟩
    unfold injectPackets
    split
    · exact ih _
    · exact ⟨rfl, rfl⟩

theorem inject_kept (x : Tenant) (s : State) : TestKept s.test (inject x s).test := by
  refine ⟨?_, ?_⟩
  · rw [inject_test]
  · unfold inject
    split
    · next w _ work =>
      split
      · next packets length _ _ _ _ =>
        split
        · obtain ⟨index, step⟩ := injectPackets_current s.link.frameCounter s.test.runId packets length 257
            (s.tenant x, w.judgeInjection (s.tenant x))
          simp only [TestUnit.current, State.withWork_test, State.withTenant_test, work, Option.map_some, index, step]
          rfl
        · rfl
      · rfl
    · rfl

theorem inject_ladder (x : Tenant) (s : State) : (inject x s).ladder = s.ladder := by
  unfold inject
  repeat' split
  all_goals rfl

/-- The current step after a change that keeps its index and its entry. -/
theorem TestKept.work {a b : TestUnit} (h : TestKept a b) {w : Working} (k : a.work = some w) :
    ∃ w', b.work = some w' ∧ w'.index = w.index ∧ w'.step = w.step := by
  have current := h.current
  cases e : b.work with
  | none => simp [TestUnit.current, k, e] at current
  | some w' =>
    simp only [TestUnit.current, k, e, Option.map_some, Option.some.injEq, Prod.mk.injEq] at current
    exact ⟨w', rfl, current⟩

theorem TestKept.work_none {a b : TestUnit} (h : TestKept a b) (k : a.work = none) : b.work = none := by
  have current := h.current
  simpa [TestUnit.current, k] using current

theorem TestKept.stepsInv {a b : TestUnit} (h : TestKept a b) (k : a.stepsInv) : b.stepsInv := by
  obtain ⟨table, current⟩ := k
  refine ⟨fun i e m => table i e (by rwa [h.eq] at m), fun w m => ?_⟩
  cases e : a.work with
  | none => rw [h.work_none e] at m; cases m
  | some v =>
    obtain ⟨w', work, -, step⟩ := h.work e
    rw [work] at m
    injection m with m
    rw [← m, step]
    exact current v e

/-! ## The three invariants together -/

/-- The invariants of this statement. -/
def State.runningInv (s : State) : Prop := s.queueInv ∧ s.runInv ∧ s.ingressInv

/-- A run between two steps: `i` steps are over, each with its record, and none is current (R155, R166). -/
structure RunGap (i : Nat) (s : State) : Prop where
  units : ∀ x, (s.tenant x).queueInv
  ingress : s.ingressInv
  table : ∀ k e, s.test.steps.toList.getD k none = some e → e.body.inRange
  count : s.test.count ≤ 16
  full : ∀ k, k < s.test.count → (s.test.steps.toList.getD k none).isSome = true
  results : s.test.results.map ResultRecord.index = List.range i
  run : s.test.runState = .running
  work : s.test.work = none
  forced : s.ladder.forced = none

theorem RunGap.length {i : Nat} {s : State} (h : RunGap i s) : s.test.results.length = i := by
  have length := congrArg List.length h.results
  simpa using length

/-- A change that keeps units and the current step, and forces no profile. -/
theorem runningInv_of_kept {s t : State} (units : UnitsKept s t) (test : TestKept s.test t.test)
    (forced : t.ladder.forced = s.ladder.forced ∨ t.ladder.forced = none) (h : s.runningInv) : t.runningInv := by
  obtain ⟨⟨queues, steps⟩, ⟨log, run, idle⟩, ingress⟩ := h
  have results : t.test.results = s.test.results := by rw [test.eq]
  have runState : t.test.runState = s.test.runState := by rw [test.eq]
  have count : t.test.count = s.test.count := by rw [test.eq]
  have table : t.test.steps = s.test.steps := by rw [test.eq]
  refine ⟨⟨fun x => (units x).queue (queues x), test.stepsInv steps⟩, ⟨results ▸ log, fun r => ?_, fun r => ?_⟩,
    fun x => (units x).ingress (ingress x)⟩
  · obtain ⟨most, full, w, work, index, records, force⟩ := run (runState ▸ r)
    obtain ⟨w', work', index', step'⟩ := test.work work
    refine ⟨count ▸ most, ?_, w', work', ?_, ?_, fun k => ?_⟩
    · rw [count, table]; exact full
    · rw [index', count]; exact index
    · rw [index', results]; exact records
    · rw [step']
      rcases forced with e | e
      · exact force (e ▸ k)
      · rw [e] at k; cases k
  · obtain ⟨work, none'⟩ := idle (runState ▸ r)
    exact ⟨test.work_none work, forced.elim (·.trans none') id⟩

/-- The end of the current step leaves a gap behind its record (R155). -/
theorem closeStep_gap {s : State} {w : Working} (v : Verdict) (r : EndReason) (run : s.test.runState = .running)
    (work : s.test.work = some w) (h : s.runningInv) : RunGap (w.index + 1) (closeStep w v r s) ∧ w.index < s.test.count := by
  obtain ⟨⟨queues, table, -⟩, ⟨-, running, -⟩, ingress⟩ := h
  obtain ⟨most, full, w', work', index, records, force⟩ := running run
  obtain rfl : w = w' := Option.some.inj (work.symm.trans work')
  obtain ⟨results, empty, -, runState, -⟩ := closeStep_log w v r s
  have tables := (closeStep_runFrame w v r s).tables
  have units := closeStep_units w v r s
  refine ⟨⟨fun x => (units x).queue (queues x), fun x => (units x).ingress (ingress x), ?_, ?_, ?_, ?_,
    runState.trans run, empty, ?_⟩, index⟩
  · rw [tables.steps]; exact table
  · rw [tables.count]; exact most
  · rw [tables.count, tables.steps]; exact full
  · rw [results, List.map_append, records, List.range_succ]
    rfl
  · rw [closeStep_forced]
    split
    · rfl
    · next none' => simpa using mt force none'

/-- What a step that starts leaves of the current step and of the forced profile (R155, R156). -/
theorem beginStep_begun (w : Working) (s : State) : (∃ w', (beginStep w s).1.test.work = some w' ∧ w'.index = w.index ∧
    w'.step = w.step) ∧ ((beginStep w s).1.ladder.forced = s.ladder.forced ∨ w.step.body.forces.isSome = true) := by
  unfold beginStep
  split
  · next profile _ _ _ _ _ _ _ _ body =>
    cases profile with
    | none =>
      dsimp only
      repeat' split
      all_goals exact ⟨⟨_, rfl, rfl, rfl⟩, .inl rfl⟩
    | some p =>
      dsimp only
      repeat' split
      all_goals exact ⟨⟨_, rfl, rfl, rfl⟩, .inr (by rw [body]; rfl)⟩
  · next x _ _ _ _ _ body =>
    repeat' split
    · exact ⟨⟨w, rfl, rfl, rfl⟩, .inl rfl⟩
    · exact ⟨⟨w, rfl, rfl, rfl⟩, .inl rfl⟩
    · obtain ⟨w', work, index, step⟩ := (inject_kept x (s.withWork (some { w with phase := .active }))).work rfl
      exact ⟨⟨w', work, index, step⟩, .inl (by rw [inject_ladder]; rfl)⟩
  · repeat' split
    all_goals exact ⟨⟨_, rfl, rfl, rfl⟩, .inl rfl⟩
  · repeat' split
    all_goals exact ⟨⟨_, rfl, rfl, rfl⟩, .inl rfl⟩

theorem beginStep_units (w : Working) (s : State) (h : w.step.body.inRange) : UnitsKept s (beginStep w s).1 := by
  have forced (p : Nat) : UnitsKept s (setForce p s) := unitsKept_of_eq (raiseProfile_onlyNotices _ _).tenants
  unfold beginStep
  split
  · repeat' split
    all_goals first | exact unitsKept_of_eq rfl | exact forced _
  · next x _ _ _ _ _ _ =>
    repeat' split
    · exact unitsKept_of_eq rfl
    · exact unitsKept_of_eq rfl
    · exact (unitsKept_of_eq rfl).trans (inject_units x (s.withWork (some { w with phase := .active }))
        fun v e => by injection e with e; rw [← e]; exact h)
  · repeat' split
    all_goals exact unitsKept_of_eq rfl
  · repeat' split
    all_goals exact unitsKept_of_eq rfl

/-- The step behind a gap starts (R155). -/
theorem startStep_runningInv {i : Nat} {s : State} (h : RunGap i s) (more : i < s.test.count) :
    (startStep i s).1.runningInv := by
  obtain ⟨e, entry⟩ := Option.isSome_iff_exists.mp (h.full i more)
  have range := h.table i e entry
  have started : startStep i s = beginStep (Working.fresh i e (s.test.patternFor e.body)) s := by
    rw [startStep, entry]
  rw [started]
  generalize fresh : Working.fresh i e (s.test.patternFor e.body) = w
  have index : w.index = i := by rw [← fresh]; rfl
  have step : w.step = e := by rw [← fresh]; rfl
  have test := beginStep_test w s
  have units := beginStep_units w s (step ▸ range)
  obtain ⟨⟨w', work, index', step'⟩, forced⟩ := beginStep_begun w s
  have results : (beginStep w s).1.test.results = s.test.results := by rw [test]
  have count : (beginStep w s).1.test.count = s.test.count := by rw [test]
  have table : (beginStep w s).1.test.steps = s.test.steps := by rw [test]
  have run : (beginStep w s).1.test.runState = .running := by rw [test]; exact h.run
  have length := h.length
  have most := h.count
  refine ⟨⟨fun x => (units x).queue (h.units x), by rw [table]; exact h.table, fun v k => ?_⟩,
    ⟨by rw [results]; omega, fun _ => ⟨count ▸ most, by rw [count, table]; exact h.full, w', work, ?_, ?_, fun k => ?_⟩,
      fun k => absurd run k⟩, fun x => (units x).ingress (h.ingress x)⟩
  · rw [work] at k
    injection k with k
    rw [← k, step', step]
    exact range
  · rw [index', index, count]; exact more
  · rw [index', index, results]; exact h.results
  · rw [step']
    rcases forced with f | f
    · rw [f, h.forced] at k; cases k
    · exact f

theorem skipSteps_length (reason : EndReason) (n : Nat) :
    ∀ i t, (skipSteps reason n i t).results.length ≤ t.results.length + n := by
  induction n with
  | zero => exact fun _ _ => le_refl _
  | succ n ih =>
    intro i t
    unfold skipSteps
    split
    · exact (ih _ _).trans (by omega)
    · next step _ =>
      have length : (t.log (Working.fresh i step (t.patternFor step.body)) .skipped reason).results.length =
          t.results.length + 1 := by simp [TestUnit.log]
      exact (ih _ _).trans (by omega)

/-- A run that ends behind its last step has no current step and no forced profile (R155, R165). -/
theorem finishRun_runningInv (a : Bool) {s : State} (units : ∀ x, (s.tenant x).queueInv) (ingress : s.ingressInv)
    (table : ∀ k e, s.test.steps.toList.getD k none = some e → e.body.inRange) (log : s.test.results.length ≤ 16)
    (forced : s.ladder.forced = none) : (finishRun a s).runningInv := by
  have tenant (x : Tenant) : (finishRun a s).tenant x = s.tenant x := by
    simp only [State.tenant, finishRun, (raiseTest_onlyNotices _ _).tenants]
    rfl
  have ladder : (finishRun a s).ladder = s.ladder := (raiseTest_onlyNotices _ _).ladder
  refine ⟨⟨fun x => tenant x ▸ units x, ?_⟩, ⟨?_, ?_, ?_⟩, fun x => tenant x ▸ ingress x⟩ <;> rw [finishRun_test]
  · exact ⟨table, fun w h => by cases h⟩
  · exact log
  · exact fun h => RunState.noConfusion h
  · exact fun _ => ⟨rfl, ladder ▸ forced⟩

/-- The last step of a run ends, and the run with it (R155, R165). -/
theorem closed_runningInv {s : State} {w : Working} (a : Bool) (v : Verdict) (r : EndReason) (q : Option EndReason)
    (run : s.test.runState = .running) (work : s.test.work = some w) (h : s.runningInv) :
    (finishRun a (closed w v r q s)).runningInv := by
  obtain ⟨gap, index⟩ := closeStep_gap v r run work h
  have length := gap.length
  have most := gap.count
  have count := (closeStep_runFrame w v r s).tables.count
  cases q with
  | none => exact finishRun_runningInv a gap.units gap.ingress gap.table (by simp only [closed]; omega) gap.forced
  | some q =>
    have test := skipRest_test (w.index + 1) q (closeStep w v r s)
    have more := skipSteps_length q ((closeStep w v r s).test.count - (w.index + 1)) (w.index + 1) (closeStep w v r s).test
    refine finishRun_runningInv a gap.units gap.ingress ?_ ?_ gap.forced
    · simp only [closed]
      rw [test]
      exact gap.table
    · exact more.trans (by omega)

/-- An entry of the step table replaced by one within its ranges (R153). -/
theorem withStep_table {t : TestUnit} {i : Nat} {e : Option Step} (range : ∀ x, e = some x → x.body.inRange)
    (h : ∀ k x, t.steps.toList.getD k none = some x → x.body.inRange) :
    ∀ k x, (t.withStep i e).steps.toList.getD k none = some x → x.body.inRange := by
  intro k x m
  simp only [TestUnit.withStep, Vector.toList_setIfInBounds, List.getD_eq_getElem?_getD, List.getElem?_set] at m
  by_cases same : i = k
  · rw [if_pos same] at m
    split at m
    · exact range x m
    · cases m
  · rw [if_neg same] at m
    exact h k x (by rw [List.getD_eq_getElem?_getD]; exact m)

/-- The steps of a run that has none missing (R154). -/
theorem firstEmpty_none {t : TestUnit} {n : Nat} (h : t.firstEmpty n = none) (k : Nat) (less : k < n) :
    (t.steps.toList.getD k none).isSome = true := by
  have all := List.find?_eq_none.mp h k (List.mem_range.mpr less)
  cases e : t.steps.toList.getD k none with
  | none => rw [e] at all; simp at all
  | some x => rfl

theorem started_gap {s : State} {n : Nat} {flag : Bool} (idle : s.test.runState ≠ .running) (most : n ≤ 16)
    (full : s.test.firstEmpty n = none) (h : s.runningInv) : RunGap 0 (s.withTest (s.test.started n flag)) where
  units := h.1.1
  ingress := h.2.2
  table := h.1.2.1
  count := most
  full k less := firstEmpty_none full k less
  results := rfl
  run := rfl
  work := rfl
  forced := (h.2.1.2.2 idle).2

theorem initial_runningInv {s : State} {q : Quad Pattern} (test : s.test = .initial q) (forced : s.ladder.forced = none)
    (units : ∀ x, ∃ r st h, s.tenant x = .initial r st h) : s.runningInv := by
  refine ⟨⟨fun x => ?_, ?_, ?_⟩, ⟨?_, ?_, ?_⟩, fun x => ?_⟩
  · obtain ⟨r, st, h, e⟩ := units x
    simp [e, TenantUnit.queueInv, TenantUnit.initial, occupancy, egressOccupancy]
  · intro k e m
    rw [test, initial_steps] at m
    cases m
  · rw [test]; exact fun w h => by cases h
  · rw [test]; exact Nat.zero_le _
  · rw [test]; exact fun h => RunState.noConfusion h
  · rw [test]; exact fun _ => ⟨rfl, forced⟩
  · obtain ⟨r, st, h, e⟩ := units x
    rw [e]
    exact zero_inRange

/-- Every change keeps the three invariants. -/
theorem shift_runningInv (s t : State) (h : Shift s t) (i : s.runningInv) : t.runningInv := by
  cases h with
  | kept units test forced => exact runningInv_of_kept units test forced i
  | injected x =>
    exact runningInv_of_kept (inject_units x s i.1.2.2) (inject_kept x s) (.inl (by rw [inject_ladder])) i
  | @activated _ x unmet =>
    obtain ⟨⟨queues, steps⟩, run, ingress⟩ := i
    refine ⟨⟨fun y => ?_, steps⟩, run, fun y => ?_⟩
    · by_cases e : y = x
      · subst e
        obtain ⟨ok, -, -, egress⟩ := (queueInv_iff _).mp (queues y)
        rw [State.withTenant_same]
        exact (queueInv_iff _).mpr ⟨ok, nofun, nofun, egress⟩
      · rw [State.withTenant_other _ _ _ _ e]; exact queues y
    · by_cases e : y = x
      · subst e
        rw [State.withTenant_same]
        exact ingress y
      · rw [State.withTenant_other _ _ _ _ e]; exact ingress y
  | advanced v r run work more =>
    obtain ⟨gap, -⟩ := closeStep_gap v r run work i
    exact startStep_runningInv gap (by rw [(closeStep_runFrame _ v r s).tables.count]; exact more)
  | finished aborted v r q run work => exact closed_runningInv aborted v r q run work i
  | abandoned run work =>
    obtain ⟨-, -, w, work', -⟩ := i.2.1.2.1 run
    rw [work] at work'
    cases work'
  | started idle some' most full free => exact startStep_runningInv (started_gap idle most full i) some'
  | stepSet j idle range =>
    obtain ⟨⟨queues, table, current⟩, ⟨log, -, none'⟩, ingress⟩ := i
    exact ⟨⟨queues, withStep_table range table, current⟩, ⟨log, fun r => absurd r idle, none'⟩, ingress⟩
  | waived => exact i
  | fullReset cause =>
    refine initial_runningInv rfl rfl fun x => ?_
    have unit : (fullReset cause s).tenant x =
        (s.tenant x).startUp (s.store.startSettings.tenants.get x) s.store.bootSlot.isSome := Quad.get_ofFn _ _
    exact ⟨_, _, _, unit⟩

/-- Settles O56: between two steps of a run stands a gap of as many records as steps are over; the next step fills it, and
the end of the run closes it. -/
theorem everyStepKeepsQueues : Obligations.EveryStepKeepsQueues :=
  fun s t i h => (step_shifts s t h).keeps shift_runningInv i

end Sys2Proof.Machine
end

section
/-! SUPPORT. Requests of one tenant answered at once: the notices they raise wait behind the reply (R47, R170 to R172). -/

namespace Sys2Proof.Machine

/-! ## A request and its reply -/

/-- A request answered at once, whose effects are those on the state without the place held for its reply. -/
theorem requestFrame_done (tag : Byte) (r : Request) (s t : State) (st : Status) (body : ReplyBody) (h : s.requestFree)
    (e : ∀ k, perform r (s.serving k tag) = (t.serving k tag, st, body)) :
    requestFrame tag r s = t.replied r.kind tag st body := by
  rw [requestFrame_free tag r s h]
  simp only [e, State.serving_replied]

/-- A notice raised while a reply is due waits in its slot (R172). -/
def State.holding (s : State) (k : NoticeKind) (c : NoticeContent) : State :=
  s.withPort { s.port with slots := s.port.slots.raise k c }

theorem raise_serving (s : State) (kind tag : Byte) (k : NoticeKind) (c : NoticeContent) :
    (s.serving kind tag).raise k c = (s.holding k c).serving kind tag := by
  rw [raise_busy _ _ _ (Port.reserve_busy _ _ _)]
  rfl

/-- The content of a TENANT notice (R47). -/
def State.tenantNotice (s : State) (x : Tenant) (previous : TenantState) (c : TenantCause) : TenantNotice :=
  { index := x.index, new := (s.tenant x).state, previous := previous, cause := c,
    blocks := occupancy (s.tenant x).queue, entries := (s.tenant x).queue.length, paused := (s.tenant x).paused,
    frameCounter := s.link.frameCounter, extra := .plain }

theorem raiseTenant_serving (s : State) (kind tag : Byte) (x : Tenant) (p : TenantState) (c : TenantCause) :
    (s.serving kind tag).raiseTenant x p c .plain = (s.holding (.tenant x) (.tenant (s.tenantNotice x p c))).serving kind tag :=
  raise_serving s kind tag _ _

/-- The slot of a tenant holds what was raised in it last (R173). -/
theorem holding_tenant (s : State) (x : Tenant) (c : NoticeContent) :
    ∃ merge, (s.holding (.tenant x) c).port.slots.tenant.get x = some { content := c, merge := merge } := by
  have slot : (s.holding (.tenant x) c).port.slots.tenant.get x =
      some (PendingNotice.raised (s.port.slots.tenant.get x) c) := Quad.get_set_same _ _ _
  rw [slot]
  cases s.port.slots.tenant.get x with
  | none => exact ⟨_, rfl⟩
  | some p => exact ⟨_, rfl⟩

/-- The index that names a tenant is its index. -/
theorem index_of_ofIndex {i : Nat} {x : Tenant} (h : Tenant.ofIndex i = some x) : x.index = i := by
  unfold Tenant.ofIndex at h
  split at h <;> first | (injection h with h; rw [← h]; rfl) | cases h

/-! ## A TENANT_PATH step whose tenant leaves (R159) -/

/-- No TENANT_PATH step of the tenant is current. -/
theorem stepTenantLeft_other (x : Tenant) (s : State) (h : ∀ w pattern packets length errorLimit missLimit,
    s.test.work = some w → w.step.body ≠ .tenantPath x pattern packets length errorLimit missLimit) :
    stepTenantLeft x s = s := by
  unfold stepTenantLeft
  split
  · rfl
  · next w work =>
    split
    · next body => exact if_neg fun e => h w _ _ _ _ _ work (e ▸ body)
    · rfl

theorem stepTenantLeft_own {x : Tenant} {s : State} {w : Working} {pattern packets length errorLimit missLimit : Nat}
    (work : s.test.work = some w) (body : w.step.body = .tenantPath x pattern packets length errorLimit missLimit) :
    stepTenantLeft x s = endStep .fail .tenantState s := by
  simp only [stepTenantLeft, work, body, if_true]

/-- What every part of a step's end and of the next step's start keeps, the whole keeps (R155). -/
theorem endStepFor_keeps {P : State → Prop} (close : ∀ w v r s, P s → P (closeStep w v r s))
    (skip : ∀ i r s, P s → P (skipRest i r s)) (finish : ∀ a s, P s → P (finishRun a s))
    (start : ∀ i s, P s → P (startStep i s).1) (n : Nat) : ∀ v r s, P s → P (endStepFor n v r s) := by
  induction n with
  | zero => exact fun _ _ _ h => h
  | succ n ih =>
    intro v r s h
    unfold endStepFor
    split
    · exact h
    · next w _ =>
      have closed := close w v r s h
      dsimp only
      split
      · exact finish _ _ (skip _ _ _ closed)
      · split
        · exact finish _ _ closed
        · have started := start (w.index + 1) _ closed
          split
          · next e => rw [e] at started; exact started
          · next e => rw [e] at started; exact ih _ _ _ started

theorem endStep_keeps {P : State → Prop} (close : ∀ w v r s, P s → P (closeStep w v r s))
    (skip : ∀ i r s, P s → P (skipRest i r s)) (finish : ∀ a s, P s → P (finishRun a s))
    (start : ∀ i s, P s → P (startStep i s).1) (v : Verdict) (r : EndReason) (s : State) (h : P s) : P (endStep v r s) := by
  unfold endStep
  split
  · exact endStepFor_keeps close skip finish start 17 v r s h
  · exact h

/-- A tenant that is OFF with nothing queued. -/
def TenantUnit.idle (u : TenantUnit) : Prop := u.state = .off ∧ u.queue = []

theorem OnlyNotices.tenant {s t : State} (h : OnlyNotices s t) (x : Tenant) : t.tenant x = s.tenant x := by
  rw [State.tenant, h.tenants]
  rfl

theorem setForce_tenant (p : Nat) (s : State) (x : Tenant) : (setForce p s).tenant x = s.tenant x :=
  (raiseProfile_onlyNotices _ _).tenant x

theorem removeForce_tenant (s : State) (x : Tenant) : (removeForce s).tenant x = s.tenant x := by
  unfold removeForce
  split
  · exact (raiseProfile_onlyNotices _ _).tenant x
  · rfl

/-- No test packet enters the queue of a tenant that is OFF (R50). -/
theorem inject_idle (x y : Tenant) (s : State) (h : (s.tenant x).idle) : ((inject y s).tenant x).idle := by
  have none' (f : BitVec 32) (r : BitVec 16) (c l n : Nat) (w : Working) :
      (injectPackets f r c l n (s.tenant x, w)).1 = s.tenant x := by
    have refused : (s.tenant x).takesTest l = false := by rw [TenantUnit.takesTest, h.1]; rfl
    cases n with
    | zero => rfl
    | succ n => rw [injectPackets, if_neg fun k => by rw [refused] at k; exact absurd k.2.2 (by decide)]
  by_cases e : x = y
  · subst e
    unfold inject
    repeat' split
    all_goals try exact h
    rw [State.tenant_withWork, State.withTenant_same, none']
    exact h
  · rw [inject_other y x s e]
    exact h

theorem withTenant_idle (s : State) (x y : Tenant) (u : TenantUnit) (h : (s.tenant x).idle)
    (k : (s.tenant y).idle → u.idle) : ((s.withTenant y u).tenant x).idle := by
  by_cases e : x = y
  · subst e; rw [State.withTenant_same]; exact k h
  · rw [State.withTenant_other _ _ _ _ e]; exact h

theorem drained_idle {u : TenantUnit} (h : u.idle) : u.drained.idle := by
  rw [TenantUnit.drained, if_neg fun k => by rw [h.1] at k; exact absurd k.1 (by decide)]
  exact h

theorem removeTest_idle {u : TenantUnit} (h : u.idle) (r : BitVec 16) (k : Nat) : (u.removeTest r k).1.idle :=
  ⟨(TenantUnit.removeTest_state _ _ _).trans h.1, by
    rw [TenantUnit.removeTest, judgePause_queue]
    simp [h.2]⟩

/-- The end of a step leaves a tenant OFF that is OFF with nothing queued. -/
theorem endStep_tenantIdle (x : Tenant) (v : Verdict) (r : EndReason) (s : State) (h : (s.tenant x).idle) :
    ((endStep v r s).tenant x).idle := by
  refine endStep_keeps (P := fun u => (u.tenant x).idle) (fun w v r u k => ?_) (fun _ _ _ k => k) (fun a u k => ?_)
    (fun i u k => ?_) v r s h
  · have unforced : ((if w.step.body.forces.isSome then removeForce u else u).tenant x).idle := by
      split
      · exact (removeForce_tenant u x).symm ▸ k
      · exact k
    unfold closeStep
    rw [(raiseTest_onlyNotices _ _).tenant, State.tenant_withTest]
    unfold removeStepEntries
    split
    · next y _ _ _ _ _ _ _ =>
      obtain ⟨q, e⟩ := drainIfEmpty_eq y _
      rw [e]
      refine withTenant_idle _ x y _ ?_ drained_idle
      exact withTenant_idle _ x y _ unforced fun k => removeTest_idle k _ _
    · exact unforced
  · unfold finishRun
    rw [(raiseTest_onlyNotices _ _).tenant]
    exact k
  · unfold startStep beginStep
    repeat' split
    all_goals first
      | exact k
      | exact ((setForce_tenant _ u x).symm ▸ k : ((setForce _ u).tenant x).idle)
      | exact inject_idle x _ _ k

end Sys2Proof.Machine
end

section
/-! PROOF. SET_TENANT and TENANT_ACTIVATE (R39 to R43, R95). -/

namespace Sys2Proof.Machine

/-! ## SET_TENANT -/

/-- The check of R40 as the ranges of its fields. -/
theorem tenantRecord_ok_iff (r : TenantRecord) : r.ok = true ↔
    r.ingressHalt ≠ 0 ∧ r.egressHalt ≠ 0 ∧ (r.staleLimit = 0 ∨ (8 ≤ r.staleLimit ∧ r.staleLimit ≤ 65535)) := by
  simp only [TenantRecord.ok, Bool.and_eq_true, Bool.or_eq_true, bne_iff_ne, beq_iff_eq, decide_eq_true_eq]
  omega

/-- The judgement of the pause changes the pause and its count alone (R51). -/
theorem judgePause_eq (u : TenantUnit) : u.judgePause = { u with
    paused := u.judgePause.paused, ingress := { u.ingress with pauses := u.judgePause.ingress.pauses } } := by
  unfold TenantUnit.judgePause
  split <;> rfl

/-- A unit with a new record in force (R41, R95). -/
theorem takeRecord_eq (u : TenantUnit) (r : TenantRecord) : u.takeRecord r =
    { u with record := r, state := if u.state = .off then .pending else u.state, paused := (u.takeRecord r).paused,
             ingress := (u.takeRecord r).ingress, egressCounters := (u.takeRecord r).egressCounters,
             xoff := hysteresis r.egressHalt r.egressResume (egressOccupancy u.egress) u.xoff } := by
  unfold TenantUnit.takeRecord
  rw [judgePause_eq]
  rfl

/-- A record taken: an OFF tenant raises its notice (R41). -/
def State.recordTakenBy (s : State) (x : Tenant) (r : TenantRecord) : State :=
  let t := s.withTenant x ((s.tenant x).takeRecord r)
  if (s.tenant x).state = .off then t.holding (.tenant x) (.tenant (t.tenantNotice x .off .recordSet)) else t

theorem takeTenantRecord_serving (s : State) (kind tag : Byte) (x : Tenant) (r : TenantRecord) :
    takeTenantRecord x r .recordSet (s.serving kind tag) = (s.recordTakenBy x r).serving kind tag := by
  unfold takeTenantRecord State.recordTakenBy
  dsimp only
  by_cases off : (s.tenant x).state = .off
  · rw [if_pos off, if_pos (show ((s.serving kind tag).tenant x).state = .off from off)]
    exact raiseTenant_serving (s.withTenant x ((s.tenant x).takeRecord r)) kind tag x .off .recordSet
  · rw [if_neg off, if_neg (show ¬ ((s.serving kind tag).tenant x).state = .off from off)]
    rfl

/-- What a record taken leaves of the state: only the tenant and the notice slots differ. -/
theorem recordTakenBy_eq (s : State) (x : Tenant) (r : TenantRecord) :
    ∃ q, s.recordTakenBy x r = (s.withTenant x ((s.tenant x).takeRecord r)).withPort q := by
  unfold State.recordTakenBy
  dsimp only
  split
  · exact ⟨_, rfl⟩
  · exact ⟨s.port, rfl⟩

/-- Settles O25: the check of R40 as the ranges of its fields, the limits of R41, and the request answered at once. -/
theorem setTenantLimitsAndTakes : Obligations.SetTenantLimitsAndTakes := by
  intro s tag index r free
  refine ⟨fun high => ?_, fun x named => ?_⟩
  · refine congrArg Host.Outcome.next (requestFrame_read tag _ s _ _ free fun k => ?_)
    change doSetTenant index (some r) (s.serving k tag) = _
    simp only [doSetTenant, ofIndex_none index high]
  · dsimp only
    have done (k : Byte) : perform (.setTenant index (some r)) (s.serving k tag) = setTenantOf x (some r) (s.serving k tag) := by
      change doSetTenant index (some r) (s.serving k tag) = _
      simp only [doSetTenant, named]
    have waiting (h : (s.tenant x).state = .off ∨ (s.tenant x).state = .pending) :
        (s.tenant x).state.inService = false := by rcases h with e | e <;> rw [e] <;> rfl
    refine ⟨fun served => ?_, fun idle bad => ?_, fun idle good => ?_⟩
    · have service : ((s.tenant x).state.inService) = true := by rcases served with e | e <;> rw [e] <;> rfl
      refine congrArg Host.Outcome.next (requestFrame_read tag _ s _ _ free fun k => ?_)
      rw [done]
      exact if_pos service
    · refine congrArg Host.Outcome.next (requestFrame_read tag _ s _ _ free fun k => ?_)
      rw [done]
      have refused : r.ok = false := Bool.eq_false_iff.mpr fun ok => bad ((tenantRecord_ok_iff r).mp ok)
      exact (if_neg (by rw [show ((s.serving k tag).tenant x) = s.tenant x from rfl, waiting idle]; decide)).trans (if_pos refused)
    · have ok : ¬ r.ok = false := by simpa using (tenantRecord_ok_iff r).mpr good
      obtain ⟨ingress, egress, -⟩ := good
      have limited : r.limited = { r with
          ingressHalt := min r.ingressHalt 1024,
          ingressResume := if min r.ingressHalt 1024 ≤ r.ingressResume then min r.ingressHalt 1024 - 1 else r.ingressResume,
          egressHalt := min r.egressHalt 1024,
          egressResume := if min r.egressHalt 1024 ≤ r.egressResume then min r.egressHalt 1024 - 1 else r.egressResume } := by
        have resume {halt level : Nat} (h : halt ≠ 0) : min level (min halt 1024 - 1) =
            if min halt 1024 ≤ level then min halt 1024 - 1 else level := by split <;> omega
        simp only [TenantRecord.limited, resume ingress, resume egress]
      rw [← limited]
      obtain ⟨q, taken⟩ := recordTakenBy_eq s x r.limited
      have unit : (s.recordTakenBy x r.limited).tenant x = (s.tenant x).takeRecord r.limited := by
        rw [taken]; exact State.withTenant_same s x _
      refine ⟨s.recordTakenBy x r.limited, ?_, ?_⟩
      · refine congrArg Host.Outcome.next (requestFrame_done tag _ s _ _ _ free fun k => ?_)
        rw [done, ← takeTenantRecord_serving]
        exact (if_neg (by rw [show ((s.serving k tag).tenant x) = s.tenant x from rfl, waiting idle]; decide)).trans (if_neg ok)
      · rw [unit, takeRecord_eq]
        refine ⟨rfl, ?_, rfl, rfl, rfl, fun reached => if_pos reached, fun below low => ?_, fun y other => ?_, ?_⟩
        · rcases idle with e | e <;> simp [e]
        · exact (if_neg (Nat.not_le_of_lt below)).trans (if_pos (by rw [limited]; exact low))
        · rw [taken]; exact State.withTenant_other s x y _ other
        · rw [taken]; exact ⟨rfl, rfl, rfl, rfl, rfl, rfl, rfl, rfl⟩

/-! ## TENANT_ACTIVATE -/

theorem mem_condUnless {a c : ActivateCond} {b : Bool} : a ∈ condUnless b c ↔ a = c ∧ b = false := by
  cases b <;> simp [condUnless]

theorem condUnless_sublist (b : Bool) (c : ActivateCond) : (condUnless b c).Sublist [c] := by
  cases b
  · exact .refl _
  · exact List.nil_sublist _

theorem acceptance_good_iff (a : Acceptance) : a.good = true ↔ a = .passed ∨ a = .waived := by
  cases a <;> simp [Acceptance.good]

theorem classMet_iff (s : State) (x : Tenant) : s.classMet x = true ↔
    ((s.tenant x).record.phaseRequired = true → s.timing.servo.cls.num ≤ (s.tenant x).record.minClass.num) := by
  simp only [State.classMet, QClass.atLeast, Bool.or_eq_true, Bool.not_eq_true', decide_eq_true_eq]
  cases (s.tenant x).record.phaseRequired <;> simp

section
variable (s : State) (x : Tenant)

/-- Each condition is named exactly when it is not met (R42). -/
theorem mem_unmet : (.notPending ∈ s.unmet x ↔ ¬ (s.tenant x).state = .pending) ∧
    (.acceptance ∈ s.unmet x ↔ ¬ s.test.acceptance.good = true) ∧
    (.acceptanceRun ∈ s.unmet x ↔ s.test.runState = .running ∧ s.test.flag = true) ∧
    (.cls ∈ s.unmet x ↔ ¬ s.classMet x = true) := by
  simp [State.unmet, mem_condUnless]

/-- The conditions not met are named in the order of R42. -/
theorem unmet_sublist : (s.unmet x).Sublist [.notPending, .acceptance, .acceptanceRun, .cls] :=
  (((condUnless_sublist _ _).append (condUnless_sublist _ _)).append (condUnless_sublist _ _)).append (condUnless_sublist _ _)

end

theorem doTenantActivate_ok {index : Nat} {x : Tenant} {s : State} (named : Tenant.ofIndex index = some x)
    (met : s.unmet x = []) : doTenantActivate index s = (activate x s, .ok, .empty) := by
  simp only [doTenantActivate, named, met, if_true]

theorem doTenantActivate_bad {index : Nat} {x : Tenant} {s : State} (named : Tenant.ofIndex index = some x)
    (unmet : ¬ s.unmet x = []) : doTenantActivate index s = (s, .wrongState, .unmet (s.unmet x)
      (if s.classMet x then none else some (s.timing.servo.cls, (s.tenant x).record.minClass))) := by
  simp only [doTenantActivate, named, if_neg unmet]

/-- An activation while its reply is due (R42). -/
theorem activate_serving (s : State) (kind tag : Byte) {x : Tenant} (pending : (s.tenant x).state = .pending) :
    activate x (s.serving kind tag) = ((s.withTenant x { s.tenant x with state := .active }).holding (.tenant x)
      (.tenant ((s.withTenant x { s.tenant x with state := .active }).tenantNotice x .pending .activated))).serving kind tag := by
  unfold activate
  rw [show ((s.serving kind tag).tenant x).state = .pending from pending]
  exact raiseTenant_serving (s.withTenant x { s.tenant x with state := .active }) kind tag x .pending .activated

/-- Settles O26: the list of the conditions not met decides, and is the body of the refusal. -/
theorem tenantActivateChecksFour : Obligations.TenantActivateChecksFour := by
  intro s tag index free
  refine ⟨fun high => ?_, fun x named => ?_⟩
  · refine congrArg Host.Outcome.next (requestFrame_read tag _ s _ _ free fun k => ?_)
    change doTenantActivate index (s.serving k tag) = _
    simp only [doTenantActivate, ofIndex_none index high]
  · dsimp only
    obtain ⟨notPending, acceptance, acceptanceRun, cls⟩ := mem_unmet s x
    rw [acceptance_good_iff] at acceptance
    rw [classMet_iff] at cls
    refine ⟨fun pending good run level => ?_, fun unmet => ?_⟩
    · have met : s.unmet x = [] := List.eq_nil_iff_forall_not_mem.mpr fun c => by
        cases c
        · exact fun m => notPending.mp m pending
        · exact fun m => acceptance.mp m good
        · exact fun m => run (acceptanceRun.mp m)
        · exact fun m => cls.mp m level
      let u : State := s.withTenant x { s.tenant x with state := .active }
      obtain ⟨merge, slot⟩ := holding_tenant u x (.tenant (u.tenantNotice x .pending .activated))
      refine ⟨u.holding (.tenant x) (.tenant (u.tenantNotice x .pending .activated)), ?_, rfl, _, merge, slot, rfl,
        congrArg TenantUnit.state (State.withTenant_same s x _), rfl, index_of_ofIndex named⟩
      · refine congrArg Host.Outcome.next (requestFrame_done tag _ s _ _ _ free fun k => ?_)
        change doTenantActivate index (s.serving k tag) = _
        rw [doTenantActivate_ok named (show (s.serving k tag).unmet x = [] from met), activate_serving s k tag pending]
    · have some' : ¬ s.unmet x = [] := fun met => by
        obtain ⟨pending, good, run, level⟩ := unmet_nil met
        exact unmet ⟨pending, (acceptance_good_iff _).mp good, fun ⟨r, f⟩ => absurd ((run r).symm.trans f) (by decide),
          (classMet_iff s x).mp level⟩
      refine ⟨s.unmet x, if s.classMet x then none else some (s.timing.servo.cls, (s.tenant x).record.minClass), ?_, notPending,
        acceptance, acceptanceRun.trans not_not.symm, cls, unmet_sublist s x, ?_⟩
      · refine congrArg Host.Outcome.next (requestFrame_read tag _ s _ _ free fun k => ?_)
        exact doTenantActivate_bad named some'
      · by_cases level : s.classMet x = true
        · rw [if_pos level, if_neg fun m => cls.mp m ((classMet_iff s x).mp level)]
        · rw [if_neg level, if_pos (cls.mpr (mt (classMet_iff s x).mpr level))]

end Sys2Proof.Machine
end

section
/-! PROOF. TENANT_DRAIN and TENANT_OFF (R44 to R47, R93, R159). -/

namespace Sys2Proof.Machine

/-! ## TENANT_DRAIN -/

/-- The cause of the notice of a drain taken (R44, R45). -/
def TenantUnit.drainCause (u : TenantUnit) : TenantCause := if u.queue = [] then .drained else .drainStarted

/-- A drain taken while its reply is due, up to the end of a step (R44). -/
def State.draining (s : State) (x : Tenant) : State :=
  let t := s.withTenant x (s.tenant x).draining
  t.holding (.tenant x) (.tenant (t.tenantNotice x .active (s.tenant x).drainCause))

theorem drain_serving (s : State) (kind tag : Byte) (x : Tenant) :
    drain x (s.serving kind tag) = stepTenantLeft x ((s.draining x).serving kind tag) := by
  rw [drain_eq]
  exact congrArg (stepTenantLeft x) (raiseTenant_serving (s.withTenant x (s.tenant x).draining) kind tag x .active _)

theorem draining_tenant (s : State) (x : Tenant) : (s.draining x).tenant x = (s.tenant x).draining :=
  State.withTenant_same s x _

theorem doTenantDrain_named {index : Nat} {x : Tenant} (s : State) (named : Tenant.ofIndex index = some x) :
    doTenantDrain index s = if (s.tenant x).state = .active then (drain x s, .ok, .empty) else (s, .wrongState, .empty) := by
  simp only [doTenantDrain, named]

/-- A request of a tenant that ends a step: the reply belongs to the state behind the step's end (R159, R171). -/
theorem requestFrame_ends (tag : Byte) (r : Request) (s t : State) (st : Status) (body : ReplyBody) (h : s.requestFree)
    (e : perform r (s.serving (BitVec.ofNat 8 r.kind) tag) = (t, st, body)) :
    requestFrame tag r s = t.replied r.kind tag st body := by
  rw [requestFrame_free tag r s h]
  simp only [e]

/-- Settles O27: the drain is one change of the tenant and its notice; a TENANT_PATH step of the tenant then ends. -/
theorem tenantDrainKeepsTraffic : Obligations.TenantDrainKeepsTraffic := by
  intro s tag index free
  refine ⟨fun high => ?_, fun x named => ?_⟩
  · refine congrArg Host.Outcome.next (requestFrame_read tag _ s _ _ free fun k => ?_)
    change doTenantDrain index (s.serving k tag) = _
    simp only [doTenantDrain, ofIndex_none index high]
  · dsimp only
    have taken (k : Byte) (active : (s.tenant x).state = .active) : perform (.tenantDrain index) (s.serving k tag) =
        (stepTenantLeft x ((s.draining x).serving k tag), .ok, .empty) := by
      change doTenantDrain index (s.serving k tag) = _
      rw [doTenantDrain_named _ named, if_pos (show ((s.serving k tag).tenant x).state = .active from active), drain_serving]
    refine ⟨fun idle => ?_, fun w pattern packets length errorLimit missLimit active run work body => ?_,
      fun active other => ?_⟩
    · refine congrArg Host.Outcome.next (requestFrame_read tag _ s _ _ free fun k => ?_)
      exact (doTenantDrain_named _ named).trans (if_neg idle)
    · let d := (s.draining x).serving (BitVec.ofNat 8 9) tag
      have ended : stepTenantLeft x d = endStep .fail .tenantState d := stepTenantLeft_own (s := d) work body
      have unit : d.tenant x = (s.tenant x).draining := draining_tenant s x
      refine ⟨endStep .fail .tenantState d, ?_, endStep_stepEnded .fail .tenantState d w run work, ?_, ?_⟩
      · refine congrArg Host.Outcome.next (requestFrame_ends tag _ s _ _ _ free ?_)
        rw [← ended]
        exact taken _ active
      · rw [((endStep_runFrame .fail .tenantState d).units x).egress, unit]
        rfl
      · have state : (d.tenant x).state = .draining ∨ (d.tenant x).state = .off := by
          rw [unit, TenantUnit.draining]
          dsimp only
          split
          · exact .inr rfl
          · exact .inl rfl
        rcases (endStep_stepFrame .fail .tenantState d).state x with e | ⟨-, e⟩
        · rw [e]; exact state
        · exact .inr e
    · obtain ⟨merge, slot⟩ := holding_tenant (s.withTenant x (s.tenant x).draining) x
        (.tenant ((s.withTenant x (s.tenant x).draining).tenantNotice x .active (s.tenant x).drainCause))
      refine ⟨s.draining x, ?_, rfl, _, merge, slot, rfl, rfl⟩
      refine congrArg Host.Outcome.next (requestFrame_done tag _ s _ _ _ free fun k => ?_)
      rw [taken k active, stepTenantLeft_other x ((s.draining x).serving k tag) other]

/-! ## TENANT_OFF -/

/-- A unit switched off (R46, R93). -/
theorem flushed_eq (u : TenantUnit) : u.flushIngress.flushEgress = { u with
    state := .off, queue := [], paused := false, egress := [], delivering := false, packet := none, expected := none,
    portErrored := u.portErrored || (u.delivering && !u.egress.isEmpty), xoff := u.flushIngress.flushEgress.xoff,
    agedEarly := false, ingress := { u.ingress with flushed := addCount u.ingress.flushed u.queue.length },
    egressCounters := { u.egressCounters with
      aborted := if u.delivering && !u.egress.isEmpty then bump u.egressCounters.aborted else u.egressCounters.aborted,
      flushed := addCount u.egressCounters.flushed
        (if u.delivering && !u.egress.isEmpty then u.egress.length - 1 else u.egress.length),
      lossesRestart := if u.packet.isSome = true then bump u.egressCounters.lossesRestart
        else u.egressCounters.lossesRestart,
      xoffs := u.flushIngress.flushEgress.egressCounters.xoffs } } := by
  have flushed : u.egress.length - (u.delivering && !u.egress.isEmpty).toNat =
      if u.delivering && !u.egress.isEmpty then u.egress.length - 1 else u.egress.length := by
    cases u.delivering && !u.egress.isEmpty <;> rfl
  rw [← flushed]
  rfl

/-- The XOFF-sent state judged on an empty buffer (R93, R94). -/
theorem flushed_xoff (u : TenantUnit) (h : u.record.egressHalt ≠ 0) : u.flushIngress.flushEgress.xoff = false ∧
    u.flushIngress.flushEgress.egressCounters.xoffs = u.egressCounters.xoffs := by
  have clear : hysteresis u.record.egressHalt u.record.egressResume 0 u.xoff = false := by
    simp [hysteresis, h]
  refine ⟨clear, ?_⟩
  change bumpIf (hysteresis u.record.egressHalt u.record.egressResume 0 u.xoff && !u.xoff) u.egressCounters.xoffs = _
  rw [clear]
  rfl

/-- A tenant switched off while the reply is due, up to the end of a step (R46, R93). -/
def State.switchedOff (s : State) (x : Tenant) : State :=
  let t := s.withTenant x (s.tenant x).flushIngress.flushEgress
  if (s.tenant x).state = .off then t
  else t.holding (.tenant x) (.tenant (t.tenantNotice x (s.tenant x).state .offRequest))

theorem switchedOff_tenant (s : State) (x : Tenant) : (s.switchedOff x).tenant x = (s.tenant x).flushIngress.flushEgress := by
  unfold State.switchedOff
  dsimp only
  split <;> exact State.withTenant_same s x _

theorem switchedOff_port (s : State) (x : Tenant) : s.switchedOff x =
    { s with tenants := s.tenants.set x (s.tenant x).flushIngress.flushEgress,
             port := { s.port with slots := (s.switchedOff x).port.slots } } := by
  unfold State.switchedOff
  dsimp only
  split <;> rfl

/-- A tenant that is OFF already changes without a notice. -/
theorem switchOff_serving_off {s : State} {x : Tenant} (kind tag : Byte) (off : (s.tenant x).state = .off) :
    switchOff x (s.serving kind tag) = (s.switchedOff x).serving kind tag := by
  unfold switchOff State.switchedOff
  dsimp only
  rw [if_pos off, if_pos (show ((s.serving kind tag).tenant x).state = .off from off)]
  rfl

theorem switchOff_serving {s : State} {x : Tenant} (kind tag : Byte) (served : (s.tenant x).state ≠ .off) :
    switchOff x (s.serving kind tag) = stepTenantLeft x ((s.switchedOff x).serving kind tag) := by
  unfold switchOff State.switchedOff
  dsimp only
  rw [if_neg served, if_neg (show ¬ ((s.serving kind tag).tenant x).state = .off from served)]
  exact congrArg (stepTenantLeft x) (raiseTenant_serving (s.withTenant x (s.tenant x).flushIngress.flushEgress) kind tag x
    (s.tenant x).state .offRequest)

theorem doTenantOff_named {index : Nat} {x : Tenant} (s : State) (named : Tenant.ofIndex index = some x) :
    doTenantOff index s = (switchOff x s, .ok, .empty) := by
  simp only [doTenantOff, named]

/-- Settles O28: the tenant switched off is one change of it and its notice; a TENANT_PATH step of the tenant then ends,
and what ends and starts leaves an OFF tenant empty. -/
theorem tenantOffEmptiesTheTenant : Obligations.TenantOffEmptiesTheTenant := by
  intro s tag index free
  refine ⟨fun high => ?_, fun x named => ?_⟩
  · refine congrArg Host.Outcome.next (requestFrame_read tag _ s _ _ free fun k => ?_)
    change doTenantOff index (s.serving k tag) = _
    simp only [doTenantOff, ofIndex_none index high]
  · dsimp only
    have unit := switchedOff_tenant s x
    refine ⟨fun w pattern packets length errorLimit missLimit served run work body => ?_, fun quiet => ?_⟩
    · let d := (s.switchedOff x).serving (BitVec.ofNat 8 10) tag
      have test : d.test = s.test := by
        change (s.switchedOff x).test = s.test
        rw [switchedOff_port]
      have ended : stepTenantLeft x d = endStep .fail .tenantState d := stepTenantLeft_own (s := d) (test ▸ work) body
      have idle : (d.tenant x).idle := by
        change ((s.switchedOff x).tenant x).idle
        rw [unit]
        exact ⟨rfl, rfl⟩
      obtain ⟨state, queue⟩ := endStep_tenantIdle x .fail .tenantState d idle
      refine ⟨endStep .fail .tenantState d, ?_,
        (endStep_stepEnded .fail .tenantState d w (test ▸ run) (test ▸ work)).before test, queue, ?_, state⟩
      · refine congrArg Host.Outcome.next (requestFrame_ends tag _ s _ _ _ free ?_)
        rw [← ended]
        exact (doTenantOff_named _ named).trans (by rw [switchOff_serving _ _ served]; rfl)
      · rw [((endStep_runFrame .fail .tenantState d).units x).egress]
        change ((s.switchedOff x).tenant x).egress = []
        rw [unit]
        rfl
    · refine ⟨s.switchedOff x, ?_, ?_, ?_, ?_, fun served => ?_, fun off => ?_⟩
      · refine congrArg Host.Outcome.next (requestFrame_done tag _ s _ _ _ free fun k => ?_)
        refine (doTenantOff_named _ named).trans ?_
        by_cases off : (s.tenant x).state = .off
        · rw [switchOff_serving_off k tag off]
        · rw [switchOff_serving k tag off, stepTenantLeft_other]
          intro w _ _ _ _ _ work
          refine quiet.resolve_left off w _ _ _ _ _ ?_
          rw [switchedOff_port] at work
          exact work
      · rw [unit]
        exact switchedOff_port s x
      · rw [unit]
        exact flushed_xoff _
      · rw [unit]
        exact flushed_eq _
      · obtain ⟨merge, slot⟩ := holding_tenant (s.withTenant x (s.tenant x).flushIngress.flushEgress) x
          (.tenant ((s.withTenant x (s.tenant x).flushIngress.flushEgress).tenantNotice x (s.tenant x).state .offRequest))
        refine ⟨(s.withTenant x (s.tenant x).flushIngress.flushEgress).tenantNotice x (s.tenant x).state .offRequest, merge, ?_,
          rfl, ?_, rfl⟩
        · unfold State.switchedOff
          dsimp only
          rw [if_neg served]
          exact slot
        · exact congrArg TenantUnit.state (State.withTenant_same s x _)
      · unfold State.switchedOff
        dsimp only
        rw [if_pos off]
        rfl

end Sys2Proof.Machine
end

section
/-! PROOF. STALE_REMOVAL (R45, R51, R53, R56, R158). -/

namespace Sys2Proof.Machine

/-! ## The unit whose head leaves -/

/-- A unit without its head, before the pause is judged (R53). -/
def TenantUnit.headAged (u : TenantUnit) (e : Entry) (q : List Entry) : TenantUnit :=
  { u with queue := q, ingress := u.ingress.aged [e], agedEarly := true }

theorem ageHead_stale {u : TenantUnit} {n : BitVec 32} {e : Entry} {q : List Entry} (queue : u.queue = e :: q)
    (unsent : e.sent = 0) (limit : u.record.staleLimit ≠ 0) (old : u.record.staleLimit < (n - e.arrival).toNat) :
    u.ageHead n = some ((u.headAged e q).judgePause, e) := by
  have stale : e.stale u.record.staleLimit n = true := by
    rw [stale_eq]
    exact decide_eq_true ⟨unsent, limit, old⟩
  simp only [TenantUnit.ageHead, queue, stale, if_true]
  rfl

/-- No head, no limit, a started head or a young one: nothing leaves (R53). -/
theorem ageHead_none {u : TenantUnit} {n : BitVec 32} (h : u.queue = [] ∨ u.record.staleLimit = 0 ∨
    (∃ e q, u.queue = e :: q ∧ (e.sent ≠ 0 ∨ (n - e.arrival).toNat ≤ u.record.staleLimit))) : u.ageHead n = none := by
  unfold TenantUnit.ageHead
  split
  · rfl
  · next e q queue =>
    rw [stale_eq]
    refine if_neg fun stale => ?_
    obtain ⟨unsent, limit, old⟩ := of_decide_eq_true stale
    rcases h with empty | none' | ⟨d, p, same, young⟩
    · rw [empty] at queue; cases queue
    · exact limit none'
    · rw [queue] at same
      injection same with head
      subst head
      omega

/-- What the judgement of the pause and the end of a drain leave of a unit, in every tenant state (R45, R51). -/
theorem judgePause_drained (u : TenantUnit) : u.judgePause.drained.queue = u.queue ∧
    u.judgePause.drained.nextSeq = u.nextSeq ∧
    u.judgePause.drained.state = (if u.state = .draining ∧ u.queue = [] then .off else u.state) ∧
    (u.state = .draining → u.judgePause.drained.paused = (!u.queue.isEmpty && u.paused)) ∧
    (u.state.judged = true → u.judgePause.drained.paused =
      hysteresis u.record.ingressHalt u.record.ingressResume (occupancy u.queue) u.paused) := by
  cases state : u.state with
  | off =>
    rw [off_drained u state]
    exact ⟨rfl, rfl, by simp [state], nofun, nofun⟩
  | draining =>
    rw [draining_drained u state]
    exact ⟨rfl, rfl, by simp, fun _ => rfl, nofun⟩
  | pending =>
    rw [judged_drained u (.inl state)]
    exact ⟨rfl, rfl, by simp [state], nofun, fun _ => rfl⟩
  | active =>
    rw [judged_drained u (.inr state)]
    exact ⟨rfl, rfl, by simp [state], nofun, fun _ => rfl⟩

/-- A count within 32 bits takes one removal of its own origin and none of another (R53, R56). -/
theorem addCount_origin {n : Nat} (h : n ≤ countMax) (e : Entry) (o : Origin) :
    addCount n ([e].filter fun d => d.origin == o).length = if e.origin = o then bump n else n := by
  by_cases own : e.origin = o
  · simp [own, bump]
  · simp [own, addCount, h]

/-! ## The Test Controller -/

theorem countPathEntries_test (a b : List Entry) (s : State) :
    countPathEntries a b s = s.withWork (countPathEntries a b s).test.work := by
  unfold countPathEntries
  repeat' split
  all_goals rfl

/-- Nothing is counted outside a step. -/
theorem countPathEntries_idle (a b : List Entry) (s : State) (h : s.test.runState ≠ .running ∨ s.test.work = none) :
    countPathEntries a b s = s := by
  unfold countPathEntries
  split
  · next run work =>
    rcases h with h | h
    · exact absurd run h
    · rw [work] at h; cases h
  · rfl

/-- The current step counts an aged head that is its own test packet (R158). -/
theorem countPathEntries_aged (e : Entry) {s : State} {w : Working} (run : s.test.runState = .running)
    (work : s.test.work = some w) : (countPathEntries [] [e] s).test =
      { s.test with
        work := some { w with
          aged := if w.step.body.kind = .tenantPath ∧ e.origin = .test ∧ e.run = some s.test.runId ∧ e.step = some w.index
            then w.aged + 1 else w.aged } } := by
  simp only [countPathEntries, run, work]
  split
  · next body =>
    have kind : w.step.body.kind = .tenantPath := by rw [body]; rfl
    by_cases own : e.origin = .test ∧ e.run = some s.test.runId ∧ e.step = some w.index
    · rw [if_pos ⟨kind, own⟩]
      obtain ⟨origin, run', index⟩ := own
      simp [State.withWork, Working.ofStep, origin, run', index, run]
    · rw [if_neg fun k => own k.2]
      simp [State.withWork, Working.ofStep, and_assoc, own, run]
  · next other =>
    have kind : w.step.body.kind ≠ .tenantPath := by
      cases body : w.step.body with
      | tenantPath => exact (other _ _ _ _ _ _ body).elim
      | linkPattern => exact nofun
      | timingCross => exact nofun
      | wait => exact nofun
    rw [if_neg fun k => kind k.1, ← run, ← work]

/-! ## STALE_REMOVAL -/

theorem removeStale_none {s : State} {x : Tenant} (h : (s.tenant x).ageHead s.link.frameCounter = none) :
    removeStale x s = s := by
  unfold removeStale
  split
  · rfl
  · simp only [h]

theorem removeStale_some {s : State} {x : Tenant} {v : TenantUnit} {e : Entry} (role : s.role ≠ none)
    (h : (s.tenant x).ageHead s.link.frameCounter = some (v, e)) :
    ∃ q, removeStale x s = ((countPathEntries [] [e] (s.withTenant x v)).withTenant x v.drained).withPort q := by
  obtain ⟨q, drained⟩ := drainIfEmpty_eq x (countPathEntries [] [e] (s.withTenant x v))
  have unit : (countPathEntries [] [e] (s.withTenant x v)).tenant x = v := by
    rw [State.tenant, countPathEntries_tenants]
    exact State.withTenant_same s x v
  rw [unit] at drained
  refine ⟨q, ?_⟩
  rw [removeStale, if_neg role]
  simp only [h]
  exact drained

/-- Settles O24: the head that leaves is one change of the unit, of the step's count and of the drain; where the head is
not stale there is no change at all. -/
theorem staleHeadIsRemoved : Obligations.StaleHeadIsRemoved := by
  intro s x role ranges
  refine ⟨fun e q queue unsent limit old => ?_, fun fresh => ?_⟩
  · obtain ⟨p, removed⟩ := removeStale_some role (ageHead_stale queue unsent limit old)
    obtain ⟨-, -, -, -, -, -, -, stale, testAged, -⟩ := ranges x
    obtain ⟨queue', nextSeq, state, draining, judged⟩ := judgePause_drained ((s.tenant x).headAged e q)
    have kept := drained_runUnit ((s.tenant x).headAged e q)
    have unit : (announce (removeStale x s)).tenant x = ((s.tenant x).headAged e q).judgePause.drained := by
      rw [announce_tenant, removed]
      exact State.withTenant_same _ x _
    have others (y : Tenant) (h : y ≠ x) : (announce (removeStale x s)).tenant y = s.tenant y := by
      rw [announce_tenant, removed]
      refine (State.withTenant_other _ x y _ h).trans ?_
      rw [State.tenant, countPathEntries_tenants]
      exact State.withTenant_other s x y _ h
    have test : (announce (removeStale x s)).test =
        (countPathEntries [] [e] (s.withTenant x ((s.tenant x).headAged e q).judgePause)).test := by
      rw [announce_test, removed]
      rfl
    rw [countPathEntries_test] at removed
    refine ⟨announce (removeStale x s), rfl, ?_, others, ?_, ?_, ?_, ?_, ?_, ?_, ?_, ?_, ?_, ?_⟩
    · rw [unit]; exact queue'
    · rw [unit, kept]; exact addCount_origin stale e .tenant
    · rw [unit, kept]; exact addCount_origin testAged e .test
    · rw [unit]; exact state
    · rw [unit]; exact draining
    · rw [unit]; exact fun j halt => (judged j).trans (if_pos halt)
    · rw [unit]
      exact fun j below low => (judged j).trans ((if_neg (Nat.not_le_of_lt below)).trans (if_pos low))
    · rw [unit]; exact kept.egress
    · rw [unit]; exact kept.record
    · rw [unit]; exact nextSeq
    · refine ⟨?_, ?_, ?_, ?_, ?_, ?_, ?_, fun idle => ?_, fun w run work => ?_⟩
      · rw [announce_role, removed]; rfl
      · rw [announce_link, removed]; rfl
      · rw [announce_ladder, removed]; rfl
      · rw [announce_planner, removed]; rfl
      · rw [announce_timing, removed]; rfl
      · rw [announce_store, removed]; rfl
      · rw [announce_pending, removed]; rfl
      · rw [test, countPathEntries_idle _ _ _ (by exact idle)]; rfl
      · rw [test, countPathEntries_aged e (by exact run) (by exact work)]; rfl
  · exact congrArg (fun t => Host.Outcome.next (announce t)) (removeStale_none (ageHead_none fresh))

end Sys2Proof.Machine
end

section
/-! SUPPORT. The test packets that one occasion of a TENANT_PATH step puts into a queue (R50, R51, R158): `TakenSoFar` is
the occasion after `k` of them, and `inject_injected` the whole of it. -/

namespace Sys2Proof.Machine

/-! ## One packet -/

theorem occupancy_append (p q : List Entry) : occupancy (p ++ q) = occupancy p + occupancy q := by
  simp [occupancy]

theorem occupancy_concat (q : List Entry) (e : Entry) : occupancy (q ++ [e]) = occupancy q + e.unsent := by
  simp [occupancy]

/-- A test packet taken by a tenant whose pause is judged (R50, R51). -/
theorem takeTest_eq {v : TenantUnit} (judged : v.state.judged = true) (f : BitVec 32) (r : BitVec 16) (i : Nat) (d : List Byte) :
    v.takeTest f r i d =
      let p := hysteresis v.record.ingressHalt v.record.ingressResume (occupancy v.queue + blocksFor d.length) v.paused
      { v with
        queue := v.queue ++ [{ seq := v.nextSeq, length := d.length, total := blocksFor d.length, sent := 0, arrival := f,
                               origin := .test, run := some r, step := some i, data := d }],
        nextSeq := v.nextSeq + 1, paused := p,
        ingress := { v.ingress with testTaken := bump v.ingress.testTaken,
                                    pauses := bumpIf (p && !v.paused) v.ingress.pauses } } := by
  rw [TenantUnit.takeTest, TenantUnit.judgePause]
  refine (if_pos judged).trans ?_
  simp only [TenantUnit.append, occupancy_concat]
  rfl

/-! ## The occasion after some packets -/

/-- The `k`-th test packet of an occasion (R49, R50, R158). -/
def TenantUnit.testEntry (u : TenantUnit) (a : Working) (frame : BitVec 32) (run : BitVec 16) (length k : Nat) : Entry :=
  { seq := u.nextSeq + BitVec.ofNat 16 k, length := length, total := blocksFor length, sent := 0, arrival := frame,
    origin := .test, run := some run, step := some a.index, data := testPacketBytes run a.index a.pattern length }

/-- The pause output once the occupancy has grown, while it stays below the halt level (R51). -/
def TenantUnit.grownPause (u : TenantUnit) (size : Nat) : Bool :=
  if occupancy u.queue + size < u.record.ingressHalt ∧ occupancy u.queue + size ≤ u.record.ingressResume then false
  else u.paused

/-- The queue takes one more test packet behind `k` of them (R50). -/
def TenantUnit.takesAfter (u : TenantUnit) (size k : Nat) : Prop :=
  (u.state = .pending ∨ u.state = .active) ∧ occupancy u.queue + k * size + size ≤ 1024 ∧ u.queue.length + k < 256

/-- An occasion on a unit `u` of a step `a` after `k` packets: the unit `v` and the step `b`. -/
structure TakenSoFar (frame : BitVec 32) (run : BitVec 16) (packets length : Nat) (u : TenantUnit) (a : Working) (k : Nat)
    (v : TenantUnit) (b : Working) : Prop where
  work : b = { a with
    made := a.made + k, injectPause := (a.judgeInjection u).injectPause ||
      decide (u.record.ingressHalt ≤ occupancy u.queue + k * blocksFor length) }
  queue : v.queue = u.queue ++ (List.range k).map (u.testEntry a frame run length)
  nextSeq : v.nextSeq = u.nextSeq + BitVec.ofNat 16 k
  record : v.record = u.record
  state : v.state = u.state
  first : k = 0 → v.paused = u.paused ∧ v.ingress.pauses = u.ingress.pauses
  paused : 0 < k → v.paused = (decide (u.record.ingressHalt ≤ occupancy u.queue + k * blocksFor length) ||
      u.grownPause (blocksFor length)) ∧
    v.ingress.pauses = if u.record.ingressHalt ≤ occupancy u.queue + k * blocksFor length ∧
      u.grownPause (blocksFor length) = false then bump u.ingress.pauses else u.ingress.pauses
  testTaken : v.ingress.testTaken = if k = 0 then u.ingress.testTaken else addCount u.ingress.testTaken k
  each : ∀ j, j < k → (a.judgeInjection u).injectPause = false ∧
    occupancy u.queue + j * blocksFor length < u.record.ingressHalt ∧ a.made + j < packets ∧
    u.takesAfter (blocksFor length) j

section
variable {frame : BitVec 32} {run : BitVec 16} {packets length : Nat} {u v : TenantUnit} {a b : Working} {k : Nat}

/-- An occasion begins with the pause judged (R158). -/
theorem takenSoFar_zero (frame : BitVec 32) (run : BitVec 16) (packets length : Nat) (u : TenantUnit) (a : Working) :
    TakenSoFar frame run packets length u a 0 u (a.judgeInjection u) where
  work := by
    have high : u.record.ingressHalt ≤ occupancy u.queue → (a.judgeInjection u).injectPause = true := fun h => if_pos h
    have same : ((a.judgeInjection u).injectPause || decide (u.record.ingressHalt ≤ occupancy u.queue + 0 * blocksFor length)) =
        (a.judgeInjection u).injectPause := by
      rw [Nat.zero_mul, Nat.add_zero]
      by_cases h : u.record.ingressHalt ≤ occupancy u.queue
      · rw [high h, Bool.true_or]
      · rw [decide_eq_false h, Bool.or_false]
    rw [same]
    rfl
  queue := (List.append_nil _).symm
  nextSeq := by simp
  record := rfl
  state := rfl
  first _ := ⟨rfl, rfl⟩
  paused h := absurd h (Nat.lt_irrefl 0)
  testTaken := rfl
  each j h := absurd h (Nat.not_lt_zero j)

theorem TakenSoFar.occupancy (h : TakenSoFar frame run packets length u a k v b) :
    occupancy v.queue = Machine.occupancy u.queue + k * blocksFor length := by
  have each : ((List.range k).map (u.testEntry a frame run length)).map Entry.unsent =
      List.replicate k (blocksFor length) := by
    rw [List.map_map, List.eq_replicate_iff]
    refine ⟨by simp, fun n m => ?_⟩
    obtain ⟨j, -, rfl⟩ := List.mem_map.mp m
    rfl
  rw [h.queue, occupancy_append]
  simp [Machine.occupancy, each]

theorem judged_iff (s : TenantState) : s.judged = true ↔ s = .pending ∨ s = .active := by
  cases s <;> simp [TenantState.judged]

theorem takesTest_iff : u.takesTest length = true ↔ (u.state = .pending ∨ u.state = .active) ∧
    occupancy u.queue + blocksFor length ≤ 1024 ∧ u.queue.length < 256 := by
  rw [TenantUnit.takesTest, Bool.and_eq_true, judged_iff, hasRoom_iff]

/-- The queue takes a packet behind `k` of them exactly when there is room for one more. -/
theorem TakenSoFar.takes_iff (h : TakenSoFar frame run packets length u a k v b) :
    v.takesTest length = true ↔ u.takesAfter (blocksFor length) k := by
  rw [takesTest_iff, h.occupancy, h.state, h.queue]
  simp [TenantUnit.takesAfter]

/-- The pause output behind one more packet (R51). -/
theorem TakenSoFar.pausedNext (h : TakenSoFar frame run packets length u a k v b)
    (below : Machine.occupancy u.queue + k * blocksFor length < u.record.ingressHalt) :
    hysteresis u.record.ingressHalt u.record.ingressResume (Machine.occupancy u.queue + (k + 1) * blocksFor length) v.paused =
      (decide (u.record.ingressHalt ≤ Machine.occupancy u.queue + (k + 1) * blocksFor length) ||
        u.grownPause (blocksFor length)) ∧
    (u.grownPause (blocksFor length) = v.paused ∨ u.grownPause (blocksFor length) = false ∧
      ¬ u.record.ingressHalt ≤ Machine.occupancy u.queue + (k + 1) * blocksFor length) ∧
    v.ingress.pauses = u.ingress.pauses := by
  rcases Nat.eq_zero_or_pos k with zero | some'
  · obtain ⟨paused, pauses⟩ := h.first zero
    subst zero
    rw [paused, hysteresis, TenantUnit.grownPause, Nat.zero_add, Nat.one_mul]
    refine ⟨?_, ?_, pauses⟩
    rotate_left
    · split
      · next c => exact .inr ⟨rfl, Nat.not_le_of_lt c.1⟩
      · exact .inl rfl
    by_cases high : u.record.ingressHalt ≤ Machine.occupancy u.queue + blocksFor length
    · rw [if_pos high, decide_eq_true high, Bool.true_or]
    · rw [if_neg high, decide_eq_false high, Bool.false_or]
      by_cases low : Machine.occupancy u.queue + blocksFor length ≤ u.record.ingressResume
      · rw [if_pos low, if_pos ⟨Nat.lt_of_not_le high, low⟩]
      · rw [if_neg low, if_neg fun c => low c.2]
  · obtain ⟨paused, pauses⟩ := h.paused some'
    rw [decide_eq_false (Nat.not_le_of_lt below), Bool.false_or] at paused
    rw [if_neg fun c => Nat.not_le_of_lt below c.1] at pauses
    refine ⟨?_, .inl paused.symm, pauses⟩
    rw [paused, hysteresis]
    have first : blocksFor length ≤ k * blocksFor length := Nat.le_mul_of_pos_left _ some'
    have grown : (k + 1) * blocksFor length = k * blocksFor length + blocksFor length := Nat.succ_mul _ _
    by_cases high : u.record.ingressHalt ≤ Machine.occupancy u.queue + (k + 1) * blocksFor length
    · rw [if_pos high, decide_eq_true high, Bool.true_or]
    · rw [if_neg high, decide_eq_false high, Bool.false_or]
      split
      · next low => rw [TenantUnit.grownPause, if_pos ⟨by omega, by omega⟩]
      · rfl

/-- One packet more (R50, R51, R158). -/
theorem TakenSoFar.next (h : TakenSoFar frame run packets length u a k v b) (long : 64 ≤ length)
    (clear : b.injectPause = false) (more : b.made < packets) (takes : v.takesTest length = true) :
    TakenSoFar frame run packets length u a (k + 1) (v.takeTest frame run b.index (testPacketBytes run b.index b.pattern length))
      { (b.judgeInjection (v.takeTest frame run b.index (testPacketBytes run b.index b.pattern length))) with
        made := b.made + 1 } := by
  have fits := h.takes_iff.mp takes
  have judged : v.state.judged = true := by rw [h.state, judged_iff]; exact fits.1
  have bytes : (testPacketBytes run b.index b.pattern length).length = length := testPacketBytes_length _ _ _ _ (by omega)
  have load : Machine.occupancy u.queue + k * blocksFor length + blocksFor length =
      Machine.occupancy u.queue + (k + 1) * blocksFor length := by rw [Nat.succ_mul, Nat.add_assoc]
  have index : b.index = a.index := by rw [h.work]
  have pattern : b.pattern = a.pattern := by rw [h.work]
  have made : b.made = a.made + k := by rw [h.work]
  have pause : ((a.judgeInjection u).injectPause ||
      decide (u.record.ingressHalt ≤ Machine.occupancy u.queue + k * blocksFor length)) = false := by
    rw [h.work] at clear; exact clear
  obtain ⟨opened, below⟩ := Bool.or_eq_false_iff.mp pause
  have below := Nat.lt_of_not_le (of_decide_eq_false below)
  obtain ⟨paused, old, pauses⟩ := h.pausedNext below
  have taken := takeTest_eq judged frame run b.index (testPacketBytes run b.index b.pattern length)
  dsimp only at taken
  rw [bytes, h.occupancy, load, h.record, paused] at taken
  have grown : Machine.occupancy (v.takeTest frame run b.index (testPacketBytes run b.index b.pattern length)).queue =
      Machine.occupancy u.queue + (k + 1) * blocksFor length := by
    rw [taken, occupancy_append, h.occupancy, ← load]
    simp [Machine.occupancy, Entry.unsent]
  refine ⟨?_, ?_, ?_, ?_, ?_, nofun, fun _ => ⟨?_, ?_⟩, ?_, fun j less => ?_⟩
  · have record : (v.takeTest frame run b.index (testPacketBytes run b.index b.pattern length)).record = u.record := by
      rw [taken]
    have judgedPause : hysteresis u.record.ingressHalt u.record.ingressResume
        (Machine.occupancy u.queue + (k + 1) * blocksFor length) false =
        decide (u.record.ingressHalt ≤ Machine.occupancy u.queue + (k + 1) * blocksFor length) := by
      unfold hysteresis
      split
      · next high => rw [decide_eq_true high]
      · next high => rw [decide_eq_false high]; split <;> rfl
    rw [Working.judgeInjection, record, grown, clear, judgedPause, opened, Bool.false_or, made, h.work]
    rfl
  · rw [taken, List.range_succ, List.map_append, ← List.append_assoc, ← h.queue]
    simp only [List.map_cons, List.map_nil, TenantUnit.testEntry, index, pattern, h.nextSeq]
  · rw [taken]
    change v.nextSeq + 1 = _
    rw [h.nextSeq, BitVec.ofNat_add, BitVec.add_assoc]
    rfl
  · rw [taken]
  · rw [taken]; exact h.state
  · rw [taken]
  · rw [taken]
    change bumpIf _ v.ingress.pauses = _
    rw [pauses]
    by_cases high : u.record.ingressHalt ≤ Machine.occupancy u.queue + (k + 1) * blocksFor length
    · rw [decide_eq_true high, ← old.resolve_right fun c => c.2 high]
      cases u.grownPause (blocksFor length) <;> simp [bumpIf, high]
    · rw [decide_eq_false high, if_neg fun c => high c.1]
      rcases old with e | ⟨e, -⟩
      · rw [← e, Bool.false_or, Bool.and_not_self]; rfl
      · rw [e]; rfl
  · rw [taken]
    change bump v.ingress.testTaken = _
    rw [h.testTaken, if_neg (Nat.succ_ne_zero k)]
    split
    · next zero => rw [zero]; rfl
    · rw [bump, addCount, addCount, addCount]
      generalize countMax = most
      omega
  · rcases Nat.lt_succ_iff_lt_or_eq.mp less with less | same
    · exact h.each j less
    · subst same
      exact ⟨opened, below, by omega, fits⟩

end

/-! ## The whole occasion -/

/-- Packets offered until one is not taken, or the offers end (R50, R158). -/
theorem injectPackets_taken {frame : BitVec 32} {run : BitVec 16} {packets length : Nat} {u : TenantUnit} {a : Working}
    (long : 64 ≤ length) (n : Nat) : ∀ k v b, TakenSoFar frame run packets length u a k v b →
    ∃ m, TakenSoFar frame run packets length u a m (injectPackets frame run packets length n (v, b)).1
        (injectPackets frame run packets length n (v, b)).2 ∧
      (m = k + n ∨ (injectPackets frame run packets length n (v, b)).2.injectPause = true ∨ packets ≤ a.made + m ∨
        ¬ u.takesAfter (blocksFor length) m) := by
  induction n with
  | zero => exact fun k v b h => ⟨k, h, .inl rfl⟩
  | succ n ih =>
    intro k v b h
    unfold injectPackets
    split
    · next offered =>
      obtain ⟨clear, more, takes⟩ := offered
      obtain ⟨m, taken, stop⟩ := ih _ _ _ (h.next long clear more takes)
      exact ⟨m, taken, stop.imp_left fun e => by omega⟩
    · next refused =>
      refine ⟨k, h, .inr ?_⟩
      have made : b.made = a.made + k := by rw [h.work]
      rw [← h.takes_iff, ← made]
      by_contra open'
      simp only [not_or, Bool.not_eq_true, not_le, Bool.not_eq_false] at open'
      exact refused open'

/-- One occasion puts the next packets into the queue, as the statements say (R50, R51, R158). -/
theorem injectPackets_injected (frame : BitVec 32) (run : BitVec 16) (packets length : Nat) (u : TenantUnit) (a : Working)
    (long : 64 ≤ length) : ∃ n, injected frame run packets length u
      (injectPackets frame run packets length 257 (u, a.judgeInjection u)).1 a
      (injectPackets frame run packets length 257 (u, a.judgeInjection u)).2 n := by
  obtain ⟨n, taken, stop⟩ := injectPackets_taken long 257 0 u _ (takenSoFar_zero frame run packets length u a)
  have stopped := stop.resolve_left fun e => by
    obtain ⟨-, -, -, -, -, room⟩ := taken.each 256 (by omega)
    omega
  exact ⟨n, taken.work, taken.queue, taken.nextSeq, taken.record, taken.first, taken.paused, taken.testTaken, taken.each,
    stopped⟩

/-- A unit after test packets have been taken: state and egress side as they were. -/
theorem injectPackets_unit (f : BitVec 32) (r : BitVec 16) (c l n : Nat) (u : TenantUnit) (w : Working) :
    let v := (injectPackets f r c l n (u, w)).1
    v = { u with queue := v.queue, nextSeq := v.nextSeq, paused := v.paused,
                 ingress := { u.ingress with testTaken := v.ingress.testTaken, pauses := v.ingress.pauses } } := by
  have unit := injectPackets_runUnit f r c l n (u, w)
  unfold RunUnit at unit
  rw [injectPackets_state] at unit
  exact unit

/-- An occasion of a TENANT_PATH step in ACTIVE on the queue of its tenant (R158). -/
theorem inject_injected {s : State} {x : Tenant} {w : Working} {k packets length errorLimit missLimit : Nat}
    (run : s.test.runState = .running) (work : s.test.work = some w) (phase : w.phase = .active)
    (body : w.step.body = .tenantPath x k packets length errorLimit missLimit) (long : 64 ≤ length) :
    ∃ b n, inject x s = (s.withTenant x ((inject x s).tenant x)).withWork (some b) ∧
      injected s.link.frameCounter s.test.runId packets length (s.tenant x) ((inject x s).tenant x) w b n ∧
      (inject x s).tenant x = { s.tenant x with
        queue := ((inject x s).tenant x).queue, nextSeq := ((inject x s).tenant x).nextSeq,
        paused := ((inject x s).tenant x).paused,
        ingress := { (s.tenant x).ingress with
          testTaken := ((inject x s).tenant x).ingress.testTaken, pauses := ((inject x s).tenant x).ingress.pauses } } := by
  obtain ⟨n, taken⟩ := injectPackets_injected s.link.frameCounter s.test.runId packets length (s.tenant x) w long
  have unit := injectPackets_unit s.link.frameCounter s.test.runId packets length 257 (s.tenant x) (w.judgeInjection (s.tenant x))
  have occasion : inject x s = (s.withTenant x (injectPackets s.link.frameCounter s.test.runId packets length 257
      (s.tenant x, w.judgeInjection (s.tenant x))).1).withWork (some (injectPackets s.link.frameCounter s.test.runId packets
        length 257 (s.tenant x, w.judgeInjection (s.tenant x))).2) := by
    simp only [inject, run, work, phase, body, if_true]
  have tenant : (inject x s).tenant x = (injectPackets s.link.frameCounter s.test.runId packets length 257
      (s.tenant x, w.judgeInjection (s.tenant x))).1 := by
    rw [occasion]
    exact State.withTenant_same s x _
  rw [tenant]
  exact ⟨_, n, occasion, taken, unit⟩

end Sys2Proof.Machine
end

section
/-! PROOF. A packet at a tenant port (R48 to R51, R158). -/

namespace Sys2Proof.Machine

section
variable (u : TenantUnit) (frame : BitVec 32) (bad : Bool) (data : List Byte)

/-- The packet passes the five tests of R48. -/
def TenantUnit.admits : Prop := bad = false ∧ 64 ≤ data.length ∧ data.length ≤ 1536 ∧ u.state = .active ∧
  occupancy u.queue + blocksFor data.length ≤ 1024 ∧ u.queue.length < 256

/-- The unit with an admitted packet in its queue and the pause judged (R49, R51). -/
def TenantUnit.admitted : TenantUnit :=
  let b := blocksFor data.length
  let pause := hysteresis u.record.ingressHalt u.record.ingressResume (occupancy u.queue + b) u.paused
  { u with
    queue := u.queue ++ [{ seq := u.nextSeq, length := data.length, total := b, sent := 0, arrival := frame,
                           origin := .tenant, run := none, step := none, data := data }],
    nextSeq := u.nextSeq + 1, paused := pause,
    ingress := { u.ingress with
      packets := bump u.ingress.packets, blocks := addCount u.ingress.blocks b,
      pauses := if pause = true ∧ u.paused = false then bump u.ingress.pauses else u.ingress.pauses } }

/-- An admitted packet is a change of occupancy of an ACTIVE tenant (R49, R51). -/
theorem append_admitted (active : u.state = .active) : (({ u with
    ingress := { u.ingress with
      packets := bump u.ingress.packets
      blocks := addCount u.ingress.blocks (blocksFor data.length) } } : TenantUnit).append frame .tenant none none
        data).judgePause = u.admitted frame data := by
  rw [TenantUnit.judgePause]
  refine (if_pos (congrArg TenantState.judged active)).trans ?_
  simp only [TenantUnit.append, occupancy_concat, TenantUnit.admitted, bumpIf, Bool.and_eq_true, Bool.not_eq_true']
  rfl

/-- The five tests in their order, the room of R50 in numbers (R48). -/
theorem arrive_eq : u.arrive frame bad data =
    if bad = true then { u with ingress := { u.ingress with bad := bump u.ingress.bad } }
    else if data.length < 64 ∨ 1536 < data.length then
      { u with ingress := { u.ingress with lengthErrors := bump u.ingress.lengthErrors } }
    else if u.state ≠ .active then { u with ingress := { u.ingress with refused := bump u.ingress.refused } }
    else if 1024 < occupancy u.queue + blocksFor data.length ∨ 256 ≤ u.queue.length then
      { u with ingress := { u.ingress with overrun := bump u.ingress.overrun } }
    else u.admitted frame data := by
  have room : u.hasRoom (blocksFor data.length) = false ↔
      1024 < occupancy u.queue + blocksFor data.length ∨ 256 ≤ u.queue.length := by
    rw [Bool.eq_false_iff, ne_eq, hasRoom_iff]
    omega
  by_cases active : u.state = .active
  · unfold TenantUnit.arrive
    dsimp only
    rw [append_admitted u frame data active]
    simp only [room]
  · unfold TenantUnit.arrive
    dsimp only
    rw [if_pos active, if_pos active]

/-- A packet that is dropped leaves the queue as it is (R48). -/
theorem arrive_dropped (h : ¬ u.admits bad data) : (u.arrive frame bad data).queue = u.queue := by
  rw [arrive_eq]
  split
  · rfl
  split
  · rfl
  split
  · rfl
  split
  · rfl
  · next ok length active room =>
    refine absurd ⟨?_, ?_⟩ h
    · simpa using ok
    · simp only [not_or, Nat.not_lt, not_le, ne_eq, not_not] at length active room
      exact ⟨length.1, length.2, active, room.1, room.2⟩

theorem arrive_admitted (h : u.admits bad data) : u.arrive frame bad data = u.admitted frame data := by
  obtain ⟨ok, short, long, active, blocks, entries⟩ := h
  rw [arrive_eq, if_neg (by rw [ok]; decide), if_neg (by omega), if_neg (not_not.mpr active), if_neg (by omega)]

end

/-- A packet that leaves the queue as it is is no occasion of a step (R158). -/
theorem arriveAt_dropped (s : State) (x : Tenant) (bad : Bool) (data : List Byte) (h : ¬ (s.tenant x).admits bad data) :
    arriveAt x bad data s = s.withTenant x ((s.tenant x).arrive s.link.frameCounter bad data) := by
  unfold arriveAt
  dsimp only
  rw [if_pos (by rw [arrive_dropped _ _ _ _ h])]

/-- An admitted packet is a change of occupancy (R158). -/
theorem arriveAt_admitted (s : State) (x : Tenant) (bad : Bool) (data : List Byte) (h : (s.tenant x).admits bad data) :
    arriveAt x bad data s = inject x (s.withTenant x ((s.tenant x).arrive s.link.frameCounter bad data)) := by
  unfold arriveAt
  dsimp only
  refine if_neg ?_
  have ⟨_, short, _⟩ := h
  have more : 0 < blocksFor data.length := by unfold blocksFor; omega
  rw [arrive_admitted _ _ _ _ h]
  simp only [TenantUnit.admitted, occupancy_concat, Entry.unsent]
  omega

/-- An admitted packet at the port of a tenant whose queue a TENANT_PATH step fills (R49, R158). -/
theorem arrival_injected {s : State} {x : Tenant} {bad : Bool} {data : List Byte} {v : TenantUnit} {w : Working}
    {k packets length errorLimit missLimit : Nat} (admits : (s.tenant x).admits bad data)
    (unit : (s.tenant x).arrive s.link.frameCounter bad data = v) (run : s.test.runState = .running)
    (work : s.test.work = some w) (phase : w.phase = .active)
    (body : w.step.body = .tenantPath x k packets length errorLimit missLimit) (long : 64 ≤ length) :
    ∃ (t : State) (w1 : Working) (n : Nat), exec (.tenantPacketArrival x bad data) s = .next t ∧
      injected s.link.frameCounter s.test.runId packets length v (t.tenant x) w w1 n ∧
      t.tenant x = { v with
        queue := (t.tenant x).queue, nextSeq := (t.tenant x).nextSeq, paused := (t.tenant x).paused,
        ingress := { v.ingress with
          testTaken := (t.tenant x).ingress.testTaken, pauses := (t.tenant x).ingress.pauses } } ∧
      t = { s with tenants := s.tenants.set x (t.tenant x), test := { s.test with work := some w1 }, port := t.port } := by
  have arrived := arriveAt_admitted s x bad data admits
  rw [unit] at arrived
  obtain ⟨b, n, occasion, taken, kept⟩ := inject_injected (s := s.withTenant x v) run work phase body long
  rw [State.withTenant_same] at taken kept
  have tenant : (announce (arriveAt x bad data s)).tenant x = (inject x (s.withTenant x v)).tenant x := by
    rw [announce_tenant, arrived]
  refine ⟨announce (arriveAt x bad data s), b, n, rfl, ?_, ?_, ?_⟩
  · rw [tenant]; exact taken
  · rw [tenant]; exact kept
  · rw [tenant, announce_eq, arrived]
    generalize (inject x (s.withTenant x v)).tenant x = u at occasion
    rw [occasion]
    simp only [State.withWork, State.withTest, State.withTenant, State.withTenants, State.withPort, Quad.set_set_same]

/-- Settles O22: the five tests are those of the model in its order; an admitted packet is the occasion at which a
TENANT_PATH step of the tenant offers its own. -/
theorem packetAdmissionInOrder : Obligations.PacketAdmissionInOrder := by
  intro s x bad data
  dsimp only
  have arrived := arrive_eq (s.tenant x) s.link.frameCounter bad data
  refine ⟨fun quiet => ?_, fun w k packets length errorLimit missLimit run work phase body long admitted =>
    arrival_injected admitted arrived run work phase body long⟩
  refine congrArg (fun t => Host.Outcome.next (announce t)) ?_
  refine Eq.trans ?_ (congrArg (s.withTenant x) arrived)
  by_cases admits : (s.tenant x).admits bad data
  · rw [arriveAt_admitted s x bad data admits]
    exact inject_none x _ (quiet.resolve_right fun no => no admits)
  · exact arriveAt_dropped s x bad data admits

end Sys2Proof.Machine
end

section
/-! SUPPORT. The start of a step: refused at once, or begun (R155, R156, R158, R160, R161). -/

namespace Sys2Proof.Machine

section
variable {i : Nat} {e : Step} {s : State}

theorem startStep_entry (entry : s.test.steps.toList.getD i none = some e) :
    startStep i s = beginStep (Working.fresh i e (s.test.patternFor e.body)) s := by
  rw [startStep, entry]

theorem crossReady_iff : s.crossReady = true ↔
    s.timing.sourceState .gnss = .qualified ∧ s.timing.sourceState .link = .qualified := by
  simp [State.crossReady]

/-- Start conditions that are not met end the step before it does anything (R155). -/
theorem beginStep_refused {w : Working} {v : Verdict} {r : EndReason} (h : startRefused w.step s = some (v, r)) :
    beginStep w s = (s.withWork (some w), some (v, r)) := by
  unfold startRefused at h
  unfold beginStep
  cases body : w.step.body with
  | linkPattern =>
    simp only [body] at h ⊢
    split at h
    · cases h
    · next down => rw [if_pos down, h]
  | tenantPath x =>
    simp only [body] at h ⊢
    split at h
    · next down => rw [if_pos down, h]
    · next up =>
      rw [if_neg up]
      split at h
      · cases h
      · next left =>
        have unjudged : (s.tenant x).state.judged = false := Bool.eq_false_iff.mpr (mt (judged_iff _).mp left)
        rw [if_pos unjudged, h]
  | timingCross =>
    simp only [body] at h ⊢
    split at h
    · next role => rw [if_pos role, h]
    · next role =>
      rw [if_neg role]
      split at h
      · cases h
      · next lost =>
        have unready : s.crossReady = false := Bool.eq_false_iff.mpr (mt crossReady_iff.mp lost)
        rw [if_pos unready, h]
  | wait =>
    simp only [body] at h ⊢
    split at h
    · next met => rw [if_pos met, h]
    · cases h

/-- The start of a LINK_PATTERN step in UP (R156). -/
theorem beginStep_linkPattern {w : Working} {profile : Option Nat} {k blocks lead active tail errorLimit missLimit : Nat}
    {mode : ReserveMode} (body : w.step.body = .linkPattern profile k blocks mode lead active tail errorLimit missLimit)
    (up : s.link.state = .up) : (beginStep w s).2 = none ∧
    (beginStep w s).1.test.work = some { w with
      phase := if lead = 0 then .active else .lead, remaining := if lead = 0 then active else lead } ∧
    (beginStep w s).1.tenants = s.tenants ∧
    (beginStep w s).1.ladder = { s.ladder with forced := if profile.isSome = true then profile else s.ladder.forced } := by
  cases profile with
  | none =>
    simp only [beginStep, body, up, ne_eq, not_true_eq_false, if_false]
    split <;> exact ⟨rfl, rfl, rfl, rfl⟩
  | some p =>
    have notice := raiseProfile_onlyNotices (s.withLadder { s.ladder with forced := some p }) .forceSet
    simp only [beginStep, body, up, ne_eq, not_true_eq_false, if_false]
    split
    all_goals
      refine ⟨rfl, ?_, notice.tenants, notice.ladder⟩
      rw [State.withWork_test, setForce_test]

/-- The start of a TENANT_PATH step in UP whose tenant is PENDING or ACTIVE (R158). -/
theorem beginStep_tenantPath {w : Working} {x : Tenant} {k packets length errorLimit missLimit : Nat}
    (body : w.step.body = .tenantPath x k packets length errorLimit missLimit) (up : s.link.state = .up)
    (judged : (s.tenant x).state = .pending ∨ (s.tenant x).state = .active) :
    beginStep w s = (inject x (s.withWork (some { w with phase := .active })), none) := by
  have state : (s.tenant x).state.judged = true := (judged_iff _).mpr judged
  simp only [beginStep, body, up, ne_eq, not_true_eq_false, if_false, state, Bool.true_eq_false]

/-- The start of a TIMING_CROSS step of a TRAILER with both sources (R160). -/
theorem beginStep_timingCross {w : Working} {samples limit : Nat} (body : w.step.body = .timingCross samples limit)
    (role : s.role = some .trailer) (ready : s.crossReady = true) :
    beginStep w s = (s.withWork (some { w with deadline := 2 * samples }), none) := by
  simp only [beginStep, body, role, ne_eq, not_true_eq_false, if_false, ready, Bool.true_eq_false]

/-- The start of a WAIT step whose condition does not hold (R161). -/
theorem beginStep_wait {w : Working} {cond : WaitCond} {timeout : Nat} (body : w.step.body = .wait cond timeout)
    (unmet : s.holds cond = false) : beginStep w s = (s.withWork (some { w with deadline := timeout }), none) := by
  simp only [beginStep, body, unmet, Bool.false_eq_true, if_false]

/-- A step that is not refused begins in its first phase with every count 0 (R156, R158, R160, R161). -/
theorem startStep_begun (entry : s.test.steps.toList.getD i none = some e) (run : s.test.runState = .running)
    (free : startRefused e s = none) (long : ∀ x k packets length errorLimit missLimit,
      e.body = .tenantPath x k packets length errorLimit missLimit → 64 ≤ length) :
    (startStep i s).2 = none ∧ stepBegun i e s (startStep i s).1 := by
  have still : (startStep i s).1.test.runState = .running := by rw [startStep_test]; exact run
  have runId : (startStep i s).1.test.runId = s.test.runId := by rw [startStep_test]
  rw [stepBegun, runId]
  refine and_left_comm.mp ⟨still, ?_⟩
  rw [startStep_entry entry]
  unfold startRefused at free
  cases body : e.body with
  | linkPattern profile k blocks mode lead active tail errorLimit missLimit =>
    simp only [body] at free
    have up : s.link.state = .up := by
      by_contra down
      rw [if_neg down] at free
      cases free
    exact beginStep_linkPattern (w := Working.fresh i e (s.test.patterns.at k)) body up
  | tenantPath x k packets length errorLimit missLimit =>
    simp only [body] at free
    have up : s.link.state = .up := by
      by_contra down
      rw [if_pos down] at free
      cases free
    rw [if_neg (not_not.mpr up)] at free
    have judged : (s.tenant x).state = .pending ∨ (s.tenant x).state = .active := by
      by_contra left
      rw [if_neg left] at free
      cases free
    have began := beginStep_tenantPath (w := Working.fresh i e (s.test.patternFor (.tenantPath x k packets length errorLimit missLimit)))
      body up judged
    rw [began]
    obtain ⟨b, n, occasion, taken, unit⟩ := inject_injected (s := s.withWork (some { Working.fresh i e (s.test.patterns.at k) with
      phase := .active })) run rfl rfl body (long x k packets length errorLimit missLimit body)
    refine ⟨rfl, inject_ladder _ _, fun y other => inject_other x y _ other, b, n, ?_, taken, unit⟩
    exact congrArg (fun t => t.test.work) occasion
  | timingCross samples limit =>
    simp only [body] at free
    have role : s.role = some .trailer := by
      by_contra other
      rw [if_pos other] at free
      cases free
    rw [if_neg (not_not.mpr role)] at free
    have ready : s.crossReady = true := crossReady_iff.mpr (by
      by_contra lost
      rw [if_neg lost] at free
      cases free)
    rw [beginStep_timingCross (w := Working.fresh i e (s.test.patternFor (.timingCross samples limit))) body role ready]
    exact ⟨rfl, rfl, rfl, _, rfl⟩
  | wait cond timeout =>
    simp only [body] at free
    have unmet : s.holds cond = false := Bool.eq_false_iff.mpr fun met => by
      rw [if_pos met] at free
      cases free
    rw [beginStep_wait (w := Working.fresh i e (s.test.patternFor (.wait cond timeout))) body unmet]
    exact ⟨rfl, rfl, rfl, _, rfl⟩

end

end Sys2Proof.Machine
end

section
/-! PROOF. TEST_START (R154 to R156, R158, R160, R161). -/

namespace Sys2Proof.Machine

/-- The tenants in service, as R154 lists them. -/
theorem inService_eq (s : State) : s.inService =
    Tenant.all.filter fun x => (s.tenant x).state == .active || (s.tenant x).state == .draining := by
  unfold State.inService
  congr 1
  funext x
  cases (s.tenant x).state <;> rfl

/-- A run of which no step is missing has no first empty entry (R154). -/
theorem firstEmpty_full {t : TestUnit} {n : Nat} (h : ∀ i, i < n → (t.steps.toList.getD i none).isSome = true) :
    t.firstEmpty n = none :=
  List.find?_eq_none.mpr fun i m => by
    have some' := h i (List.mem_range.mp m)
    simpa [Option.isSome_iff_ne_none] using some'

theorem firstEmpty_first {t : TestUnit} {n i : Nat} (less : i < n) (empty : t.steps.toList.getD i none = none)
    (first : ∀ k, k < i → (t.steps.toList.getD k none).isSome = true) : t.firstEmpty n = some i := by
  refine List.find?_range_eq_some.mpr ⟨by rw [empty]; rfl, List.mem_range.mpr less, fun k before => ?_⟩
  have some' := first k before
  simpa [Option.isSome_iff_ne_none] using some'

section
variable {n : Nat} {flag : Bool} {s : State}

theorem doTestStart_running (run : s.test.runState = .running) : doTestStart n flag s = (s, .wrongState, .empty) := if_pos run

theorem doTestStart_range (idle : s.test.runState ≠ .running) (range : n < 1 ∨ 16 < n) :
    doTestStart n flag s = (s, .badValue, .firstEmpty none) := by
  rw [doTestStart, if_neg idle, if_pos range]

theorem doTestStart_empty {i : Nat} (idle : s.test.runState ≠ .running) (range : ¬ (n < 1 ∨ 16 < n))
    (empty : s.test.firstEmpty n = some i) : doTestStart n flag s = (s, .badValue, .firstEmpty (some i)) := by
  rw [doTestStart, if_neg idle, if_neg range, empty]
  rfl

theorem doTestStart_served (idle : s.test.runState ≠ .running) (range : ¬ (n < 1 ∨ 16 < n))
    (full : s.test.firstEmpty n = none) (served : flag = true ∧ s.inService ≠ []) :
    doTestStart n flag s = (s, .wrongState, .tenants s.inService) := by
  rw [doTestStart, if_neg idle, if_neg range, if_neg (by rw [full]; decide), if_pos served]

theorem doTestStart_ok (idle : s.test.runState ≠ .running) (range : ¬ (n < 1 ∨ 16 < n))
    (full : s.test.firstEmpty n = none) (free : ¬ (flag = true ∧ s.inService ≠ [])) :
    doTestStart n flag s = (runFirstStep (s.withTest (s.test.started n flag)), .ok, .runId (s.test.runId + 1)) := by
  rw [doTestStart, if_neg idle, if_neg range, if_neg (by rw [full]; decide), if_neg free]

end

/-- A run whose step 0 is refused ends it at once; its record does not depend on the pattern it copied (R155, R166). -/
theorem runFirstStep_refused {e : Step} {s : State} {v : Verdict} {r : EndReason}
    (entry : s.test.steps.toList.getD 0 none = some e) (run : s.test.runState = .running)
    (refused : startRefused e s = some (v, r)) :
    stepEnded (Working.fresh 0 e (s.test.patterns.at 0)) v r s (runFirstStep s) := by
  have started : startStep 0 s = (s.withWork (some (Working.fresh 0 e (s.test.patternFor e.body))), some (v, r)) := by
    rw [startStep_entry entry]
    exact beginStep_refused refused
  have ended := endStep_stepEnded v r (s.withWork (some (Working.fresh 0 e (s.test.patternFor e.body))))
    (Working.fresh 0 e (s.test.patternFor e.body)) run rfl
  rw [runFirstStep, started]
  exact ended

/-- A run whose step 0 is not refused is in it (R155). -/
theorem runFirstStep_begun {e : Step} {s : State} (entry : s.test.steps.toList.getD 0 none = some e)
    (run : s.test.runState = .running) (free : startRefused e s = none) (long : ∀ x k packets length errorLimit missLimit,
      e.body = .tenantPath x k packets length errorLimit missLimit → 64 ≤ length) :
    stepBegun 0 e s (runFirstStep s) ∧ (runFirstStep s).test.results = s.test.results ∧
    (runFirstStep s).test.acceptance = s.test.acceptance := by
  obtain ⟨going, begun⟩ := startStep_begun entry run free long
  have started : runFirstStep s = (startStep 0 s).1 := by
    unfold runFirstStep
    split
    · next h => rw [h]
    · next h => rw [h] at going; cases going
  rw [started]
  refine ⟨begun, ?_, ?_⟩ <;> rw [startStep_test]

/-- Settles O40: the three checks are those of the model in its order; the run started is the run record's and step 0's
start. -/
theorem testStartChecksInOrder : Obligations.TestStartChecksInOrder := by
  intro s tag n flag free
  dsimp only
  rw [← inService_eq]
  refine ⟨fun run => ?_, fun idle out => ?_, fun i idle least most less empty first => ?_,
    fun idle least most full flagged served => ?_, fun idle least most full unserved => ?_⟩
  · exact congrArg Host.Outcome.next (requestFrame_read tag _ s _ _ free fun k => doTestStart_running run)
  · exact congrArg Host.Outcome.next (requestFrame_read tag _ s _ _ free fun k => doTestStart_range idle (by omega))
  · exact congrArg Host.Outcome.next (requestFrame_read tag _ s _ _ free fun k =>
      doTestStart_empty idle (by omega) (firstEmpty_first less empty first))
  · exact congrArg Host.Outcome.next (requestFrame_read tag _ s _ _ free fun k =>
      doTestStart_served idle (by omega) (firstEmpty_full full) ⟨flagged, served⟩)
  · let u := (s.serving (BitVec.ofNat 8 17) tag).withTest (s.test.started n flag)
    have frame := runFirstStep_stepFrame u
    have tables := (runFirstStep_runFrame u).tables
    have begun (e : Step) (entry : s.test.steps.toList.getD 0 none = some e) (going : startRefused e s = none)
        (long : ∀ x k packets length errorLimit missLimit,
          e.body = .tenantPath x k packets length errorLimit missLimit → 64 ≤ length) :
        stepBegun 0 e s (runFirstStep u) ∧ (runFirstStep u).test.results = [] ∧
        (runFirstStep u).test.acceptance = s.test.acceptance :=
      runFirstStep_begun (s := u) entry rfl going long
    refine ⟨runFirstStep u, ?_, tables.runId, tables.count, tables.flag, tables.steps, tables.patterns, ?_, frame.role,
      frame.link, frame.planner, frame.timing, frame.store, frame.pending, fun cond timeout m entry unmet => ?_,
      fun e entry => ⟨fun v r refused => ?_, begun e entry⟩⟩
    · refine congrArg Host.Outcome.next (requestFrame_ends tag _ s _ _ _ free ?_)
      refine doTestStart_ok idle (by omega) (firstEmpty_full full) ?_
      rintro ⟨flagged, served⟩
      rcases unserved with unflagged | none'
      · rw [flagged] at unflagged; cases unflagged
      · exact served none'
    · rw [tables]
      rfl
    · obtain ⟨⟨run, begun⟩, results, acceptance⟩ := begun _ entry (by simp [startRefused, unmet]) nofun
      obtain ⟨tenants, ladder, p, work⟩ := begun
      exact ⟨run, results, acceptance, tenants, ladder, _, work, rfl, rfl, rfl, rfl, rfl⟩
    · exact (runFirstStep_refused (s := u) entry rfl refused).of_log rfl rfl

end Sys2Proof.Machine
end

section
/-! PROOF. The phases of a step and their ends (R155 to R157, R160, R161). -/

namespace Sys2Proof.Machine

/-! ## What a start reads -/

/-- `stepBegun` reads of both states the units, the ladder, and of the one before the patterns and the frame counter. -/
theorem stepBegun_congr {i : Nat} {e : Step} {s s' t t' : State} (patterns : s'.test.patterns = s.test.patterns)
    (tenants : s'.tenants = s.tenants) (ladder : s'.ladder = s.ladder) (link : s'.link = s.link) (test : t'.test = t.test)
    (tenants' : t'.tenants = t.tenants) (ladder' : t'.ladder = t.ladder) (h : stepBegun i e s t) : stepBegun i e s' t' := by
  simpa only [stepBegun, State.tenant, patterns, tenants, ladder, link, test, tenants', ladder'] using h

theorem startRefused_congr {s t : State} (e : Step) (role : t.role = s.role) (link : t.link = s.link)
    (timing : t.timing = s.timing) (tenants : t.tenants = s.tenants) : startRefused e t = startRefused e s := by
  have holds (c : WaitCond) : t.holds c = s.holds c := by
    cases c <;> simp only [State.holds, link, timing]
  have tenant (x : Tenant) : t.tenant x = s.tenant x := by
    rw [State.tenant, tenants]
    rfl
  unfold startRefused
  cases e.body with
  | linkPattern => simp only [link]
  | tenantPath => simp only [link, tenant]
  | timingCross => simp only [role, timing]
  | wait => simp only [holds]

/-! ## The phases of a step -/

section
variable {s : State} {w : Working}

/-- The current step in a phase that is over. -/
theorem phaseOver_some {p : Phase} (k : Option StepKind) (run : s.test.runState = .running) (work : s.test.work = some w)
    (phase : w.phase = p) (over' : w.remaining = 0) (kind : k = none ∨ k = some w.step.body.kind) :
    s.test.phaseOver k p = some w := by
  simp only [TestUnit.phaseOver, run, work]
  exact if_pos ⟨phase, over', kind⟩

section
variable {profile : Option Nat} {pattern blocks lead active tail errorLimit missLimit : Nat} {mode : ReserveMode}

theorem leadOver_eq (body : w.step.body = .linkPattern profile pattern blocks mode lead active tail errorLimit missLimit)
    (run : s.test.runState = .running) (work : s.test.work = some w) (phase : w.phase = .lead) (spent : w.remaining = 0) :
    leadOver s = s.withWork (some { w with phase := .active, remaining := active }) := by
  simp only [leadOver, phaseOver_some (some .linkPattern) run work phase spent (.inr (by rw [body]; rfl)), body]

theorem activeOver_eq (body : w.step.body = .linkPattern profile pattern blocks mode lead active tail errorLimit missLimit)
    (run : s.test.runState = .running) (work : s.test.work = some w) (phase : w.phase = .active) (spent : w.remaining = 0) :
    activeOver s = s.withWork (some { w with phase := .tail, remaining := tail }) := by
  simp only [activeOver, phaseOver_some (some .linkPattern) run work phase spent (.inr (by rw [body]; rfl)), body]

end

/-- TAIL over with a report held ends the step on it (R157). -/
theorem tailOver_ended {r : Report} (run : s.test.runState = .running) (work : s.test.work = some w) (phase : w.phase = .tail)
    (spent : w.remaining = 0) (report : w.report = some r) :
    stepEnded w (evaluateReport w r).1 (evaluateReport w r).2 s (tailOver s) := by
  simp only [tailOver, phaseOver_some none run work phase spent (.inl rfl), report, endOnReport]
  exact endStep_stepEnded _ _ s w run work

theorem tailOver_waits (run : s.test.runState = .running) (work : s.test.work = some w) (phase : w.phase = .tail)
    (spent : w.remaining = 0) (report : w.report = none) :
    tailOver s = s.withWork (some { w with phase := .awaitReport, remaining := 256 }) := by
  simp only [tailOver, phaseOver_some none run work phase spent (.inl rfl), report]

theorem reportWaitOver_eq (run : s.test.runState = .running) (work : s.test.work = some w) (phase : w.phase = .awaitReport)
    (spent : w.remaining = 0) : reportWaitOver s = endStep .fail .noReport s := by
  simp only [reportWaitOver, phaseOver_some none run work phase spent (.inl rfl)]

/-- The current step in WAITING with its deadline reached. -/
theorem deadlineOver_true (run : s.test.runState = .running) (work : s.test.work = some w) (phase : w.phase = .waiting)
    (spent : w.deadline = 0) : s.test.deadlineOver w.step.body.kind = true := by
  simp [TestUnit.deadlineOver, run, work, phase, spent]

theorem waitOver_eq {cond : WaitCond} {limit : Nat} (body : w.step.body = .wait cond limit)
    (run : s.test.runState = .running) (work : s.test.work = some w) (phase : w.phase = .waiting) (spent : w.deadline = 0) :
    waitOver s = endStep .fail .timeout s := by
  have due := deadlineOver_true run work phase spent
  rw [body] at due
  exact if_pos due

theorem crossOver_eq {samples limit : Nat} (body : w.step.body = .timingCross samples limit)
    (run : s.test.runState = .running) (work : s.test.work = some w) (phase : w.phase = .waiting) (spent : w.deadline = 0) :
    crossOver s = endStep .fail .timeout s := by
  have due := deadlineOver_true run work phase spent
  rw [body] at due
  exact if_pos due

/-! ## The step behind a WAIT step -/

/-- The end of a WAIT step touches the log and the notices alone (R155). -/
theorem closeStep_wait {cond : WaitCond} {limit : Nat} (body : w.step.body = .wait cond limit) (v : Verdict) (r : EndReason) :
    (closeStep w v r s).tenants = s.tenants ∧ (closeStep w v r s).ladder = s.ladder := by
  have force : w.step.body.forces.isSome = false := by rw [body]; rfl
  have entries : removeStepEntries w s = s := by simp only [removeStepEntries, body]
  unfold closeStep
  dsimp only
  rw [force, if_neg (by decide), entries]
  exact ⟨(raiseTest_onlyNotices _ _).tenants, (raiseTest_onlyNotices _ _).ladder⟩

/-- Behind a WAIT step that is not mandatory the next step starts at once (R155). -/
theorem endStep_next {cond : WaitCond} {limit : Nat} {e : Step} (run : s.test.runState = .running)
    (work : s.test.work = some w) (body : w.step.body = .wait cond limit) (free : w.step.mandatory = false)
    (more : w.index + 1 < s.test.count) (entry : s.test.steps.toList.getD (w.index + 1) none = some e)
    (going : startRefused e s = none) (long : ∀ x k packets length errorLimit missLimit,
      e.body = .tenantPath x k packets length errorLimit missLimit → 64 ≤ length) (v : Verdict) (r : EndReason) :
    stepBegun (w.index + 1) e s (endStep v r s) := by
  have tables := (closeStep_runFrame w v r s).tables
  have frame := closeStep_stepFrame w v r s
  obtain ⟨tenants, ladder⟩ := closeStep_wait (s := s) body v r
  obtain ⟨-, -, -, runs, -⟩ := closeStep_log w v r s
  obtain ⟨quiet, begun⟩ := startStep_begun (s := closeStep w v r s) (i := w.index + 1) (e := e) (by rw [tables.steps]; exact entry)
    (runs.trans run) (by rw [startRefused_congr e frame.role frame.link frame.timing tenants]; exact going) long
  have ended : endStep v r s = (startStep (w.index + 1) (closeStep w v r s)).1 := by
    have optional : ¬ (w.step.mandatory = true ∧ v ≠ .pass) := by simp [free]
    rw [endStep, if_pos run, endStepFor]
    simp only [work, if_neg optional, tables.count, if_neg (Nat.not_le_of_lt more)]
    split
    · next h => rw [h]
    · next h => rw [h] at quiet; cases quiet
  rw [ended]
  exact stepBegun_congr tables.patterns.symm tenants.symm ladder.symm frame.link.symm rfl rfl rfl begun

end

end Sys2Proof.Machine
end

section
/-! SUPPORT. The counts of a step at a frame start, and the occasion of a TENANT_PATH step behind it (R156, R158, R159). -/

namespace Sys2Proof.Machine

/-! ## The counts of a frame start (R156, R157) -/

/-- A frame start of a step's phase: a LINK_PATTERN step in ACTIVE counts its blocks and the lowest profile. -/
def Working.frameCounted (w : Working) (blocks profile : Nat) : Working :=
  { w with
    remaining := w.remaining - 1
    blocksSent := if w.step.body.kind = .linkPattern ∧ w.phase = .active then w.blocksSent + blocks else w.blocksSent
    lowest := if w.step.body.kind = .linkPattern ∧ w.phase = .active then some (min profile (w.lowest.getD profile))
      else w.lowest }

theorem countFrame_work {t : TestUnit} {w : Working} (run : t.runState = .running) (work : t.work = some w) (n p : Nat) :
    (t.countFrame n p).work = some (w.frameCounted n p) := by
  simp only [TestUnit.countFrame, run, work, Option.some.injEq]
  split
  · next body phase =>
    simp only [Working.frameCounted, body, phase, StepBody.kind, and_self, if_true]
  · next other =>
    have no : ¬ (w.step.body.kind = .linkPattern ∧ w.phase = .active) := by
      rintro ⟨kind, phase⟩
      cases body : w.step.body with
      | linkPattern => exact other _ _ _ _ _ _ _ _ _ body phase
      | tenantPath => rw [body] at kind; cases kind
      | timingCross => rw [body] at kind; cases kind
      | wait => rw [body] at kind; cases kind
    simp only [Working.frameCounted, if_neg no]

/-- The Test Controller before the occasion of a TENANT_PATH step: run, step and log are those before the frame. -/
theorem frameSent_test {s : State} {w : Working} (run : s.test.runState = .running) (work : s.test.work = some w)
    (p : Plan × Vector Tenant 8) (g : Quad TenantGiven) :
    (s.frameSent p g).test.work = some (w.frameCounted p.1.testBlocks s.nextTxProfile) ∧
    (s.frameSent p g).test.runState = .running ∧ (s.frameSent p g).test.runId = s.test.runId := by
  have placed := (placed_frame s p.1.controls).test
  have kept := (countFrame_kept (s.placed p.1.controls).test p.1.testBlocks s.nextTxProfile).eq
  refine ⟨countFrame_work (by rw [placed]; exact run) (by rw [placed]; exact work) _ _, ?_, ?_⟩
  · change (TestUnit.countFrame _ _ _).runState = _
    rw [kept, placed]
    exact run
  · change (TestUnit.countFrame _ _ _).runId = _
    rw [kept, placed]

/-! ## Without a TENANT_PATH step -/

/-- Where the current step is no TENANT_PATH step, its occasion changes nothing. -/
theorem pathOccasion_other {s : State} (other : ∀ w, s.test.work = some w → w.step.body.kind ≠ .tenantPath)
    (old : Quad TenantUnit) (g : Quad TenantGiven) : pathOccasion old g s = s := by
  have counted (a b : List Entry) : countPathEntries a b s = s := by
    unfold countPathEntries
    split
    · next w _ work =>
      split
      · next body => exact absurd (congrArg StepBody.kind body) (other w work)
      · rfl
    · rfl
  have offered (x : Tenant) : inject x s = s := inject_none x s fun ⟨_, w, _, _, _, _, _, work, _, body⟩ =>
    other w work (congrArg StepBody.kind body)
  have tests (x : Tenant) : tenantTests old g s x = s := by
    unfold tenantTests
    dsimp only
    rw [counted, offered, ite_self]
  have fold : Tenant.all.foldl (tenantTests old g) s = s := by
    simp only [Tenant.all, List.foldl_cons, List.foldl_nil, tests]
  rw [pathOccasion, fold]
  unfold endPathActive
  split
  · next w _ work =>
    split
    · next body _ => exact absurd (congrArg StepBody.kind body) (other w work)
    · rfl
  · rfl

/-! ## The occasion of a TENANT_PATH step -/

/-- The counts of sent and of aged entries raised (R158). -/
def Working.pathCounted (w : Working) (sent aged : Nat) : Working := { w with sent := w.sent + sent, aged := w.aged + aged }

theorem pathCounted_twice (w : Working) (a b c d : Nat) : (w.pathCounted a b).pathCounted c d = w.pathCounted (a + c) (b + d) := by
  simp [Working.pathCounted, Nat.add_assoc]

/-- The current step is a TENANT_PATH step of a tenant. -/
structure OnPath (x : Tenant) (s : State) (w : Working) : Prop where
  run : s.test.runState = .running
  work : s.test.work = some w
  body : ∃ k packets length errorLimit missLimit, w.step.body = .tenantPath x k packets length errorLimit missLimit

section
variable {x : Tenant} {s : State} {w : Working}

theorem OnPath.withWork (h : OnPath x s w) {b : Working} (step : b.step = w.step) : OnPath x (s.withWork (some b)) b :=
  ⟨h.run, rfl, by rw [step]; exact h.body⟩

theorem OnPath.countPathEntries (h : OnPath x s w) (sent aged : List Entry) : Machine.countPathEntries sent aged s =
    s.withWork (some (w.pathCounted (w.ofStep s.test.runId sent) (w.ofStep s.test.runId aged))) := by
  obtain ⟨k, packets, length, errorLimit, missLimit, body⟩ := h.body
  simp only [Machine.countPathEntries, h.run, h.work, body]
  rfl

/-- The occasion of another tenant counts its entries and offers nothing. -/
theorem OnPath.tenantTests_other (h : OnPath x s w) (old : Quad TenantUnit) (g : Quad TenantGiven) {y : Tenant} (other : y ≠ x) :
    tenantTests old g s y = s.withWork (some (w.pathCounted (w.ofStep s.test.runId (g.get y).given.left)
      (w.ofStep s.test.runId (g.get y).removed))) := by
  unfold tenantTests
  dsimp only
  rw [h.countPathEntries]
  split
  · refine inject_none y _ fun ⟨_, v, _, _, _, _, _, work, _, body⟩ => other ?_
    obtain ⟨k, packets, length, errorLimit, missLimit, own⟩ := h.body
    injection work with work
    rw [← work] at body
    injection own.symm.trans body with same
    exact same.symm
  · rfl

/-- The entries of the step that the tenants of a list sent and those that aged there. -/
def Working.sums (w : Working) (r : BitVec 16) (g : Quad TenantGiven) (l : List Tenant) : Nat × Nat :=
  ((l.map fun y => w.ofStep r (g.get y).given.left).sum, (l.map fun y => w.ofStep r (g.get y).removed).sum)

/-- The occasions of other tenants, one after another. -/
theorem foldl_tenantTests_other (old : Quad TenantUnit) (g : Quad TenantGiven) (l : List Tenant) : ∀ (s : State) (w : Working),
    OnPath x s w → (∀ y ∈ l, y ≠ x) → l.foldl (tenantTests old g) s =
      s.withWork (some (w.pathCounted (w.sums s.test.runId g l).1 (w.sums s.test.runId g l).2)) := by
  induction l with
  | nil =>
    intro s w h _
    rw [List.foldl_nil, State.withWork]
    change s = s.withTest { s.test with work := some w }
    rw [← h.work]
    rfl
  | cons y l ih =>
    intro s w h others
    have rest := ih _ _ (h.withWork (b := w.pathCounted (w.ofStep s.test.runId (g.get y).given.left)
      (w.ofStep s.test.runId (g.get y).removed)) rfl) fun z m => others z (List.mem_cons_of_mem _ m)
    rw [List.foldl_cons, h.tenantTests_other old g (others y (List.mem_cons_self ..)), rest, pathCounted_twice]
    rfl

end

/-- `injected` does not read the counts of sent and aged entries (R158). -/
theorem injected_pathCounted {frame : BitVec 32} {run : BitVec 16} {packets length n : Nat} {u v : TenantUnit} {a b : Working}
    (h : injected frame run packets length u v a b n) (i j : Nat) :
    injected frame run packets length u v (a.pathCounted i j) (b.pathCounted i j) n := by
  obtain ⟨work, rest⟩ := h
  rw [work] at rest ⊢
  exact ⟨rfl, rest⟩

/-- A tenant with those before it and those behind it in the order T0 to T3. -/
theorem all_split (x : Tenant) : ∃ p q, Tenant.all = p ++ x :: q ∧ (∀ y ∈ p, y ≠ x) ∧ (∀ y ∈ q, y ≠ x) := by
  cases x
  · exact ⟨[], [.t1, .t2, .t3], rfl, by decide, by decide⟩
  · exact ⟨[.t0], [.t2, .t3], rfl, by decide, by decide⟩
  · exact ⟨[.t0, .t1], [.t3], rfl, by decide, by decide⟩
  · exact ⟨[.t0, .t1, .t2], [], rfl, by decide, by decide⟩

section
variable {x : Tenant} {s : State} {w : Working} {k packets length errorLimit missLimit : Nat}

/-- The occasion of the step's own tenant: its entries counted, and where the occupancy moved in ACTIVE the next packets
taken (R158). -/
theorem OnPath.tenantTests_own (h : OnPath x s w) (body : w.step.body = .tenantPath x k packets length errorLimit missLimit)
    (long : 64 ≤ length) (old : Quad TenantUnit) (g : Quad TenantGiven) :
    ∃ b n v, tenantTests old g s x = (s.withTenant x v).withWork (some b) ∧
      b.index = w.index ∧ b.step = w.step ∧ b.phase = w.phase ∧
      (w.phase = .active ∧ occupancyMoved (old.get x) (g.get x) = true →
        injected s.link.frameCounter s.test.runId packets length (s.tenant x) v
          (w.pathCounted (w.ofStep s.test.runId (g.get x).given.left) (w.ofStep s.test.runId (g.get x).removed)) b n) ∧
      (¬ (w.phase = .active ∧ occupancyMoved (old.get x) (g.get x) = true) →
        b = w.pathCounted (w.ofStep s.test.runId (g.get x).given.left) (w.ofStep s.test.runId (g.get x).removed) ∧
        v = s.tenant x) := by
  generalize counted : w.pathCounted (w.ofStep s.test.runId (g.get x).given.left) (w.ofStep s.test.runId (g.get x).removed) = c
  have index : c.index = w.index := by rw [← counted]; rfl
  have step : c.step = w.step := by rw [← counted]; rfl
  have phase : c.phase = w.phase := by rw [← counted]; rfl
  have tests : tenantTests old g s x =
      if occupancyMoved (old.get x) (g.get x) then inject x (s.withWork (some c)) else s.withWork (some c) := by
    unfold tenantTests
    dsimp only
    rw [h.countPathEntries, counted]
  by_cases offers : w.phase = .active ∧ occupancyMoved (old.get x) (g.get x) = true
  · obtain ⟨b, n, occasion, taken, -⟩ := inject_injected (s := s.withWork (some c)) h.run rfl (phase.trans offers.1)
      ((congrArg Step.body step).trans body) long
    refine ⟨b, n, (inject x (s.withWork (some c))).tenant x, ?_, ?_, ?_, ?_, fun _ => taken, fun no => absurd offers no⟩
    · rw [tests, if_pos offers.2]
      exact occasion
    · rw [taken.1]; exact index
    · rw [taken.1]; exact step
    · rw [taken.1]; exact phase
  · refine ⟨c, 0, s.tenant x, ?_, index, step, phase, fun yes => absurd yes offers, fun _ => ⟨rfl, rfl⟩⟩
    rw [tests, State.withTenant_self]
    split
    · next moved =>
      refine inject_none x _ fun ⟨_, v, _, _, _, _, _, work, active, _⟩ => offers ⟨?_, moved⟩
      injection work with work
      rw [← phase, work]
      exact active
    · rfl

/-- ACTIVE of a TENANT_PATH step ends when every packet is made and each is sent or aged (R159). -/
theorem OnPath.endPathActive_work (h : OnPath x s w) (body : w.step.body = .tenantPath x k packets length errorLimit missLimit) :
    (endPathActive s).test.work = some (if w.phase = .active ∧ w.made = packets ∧ w.sent + w.aged = w.made
      then { w with phase := .tail, remaining := 4 } else w) := by
  unfold endPathActive
  simp only [h.run, h.work, body]
  by_cases active : w.phase = .active
  · simp only [active, true_and]
    split
    · rfl
    · exact h.work
  · rw [if_neg fun c => active c.1]
    split
    · next a => exact absurd a active
    · exact h.work

/-- The occasion of a frame start as a whole (R158, R159). -/
theorem pathOccasion_injected (h : OnPath x s w) (body : w.step.body = .tenantPath x k packets length errorLimit missLimit)
    (long : 64 ≤ length) (old : Quad TenantUnit) (g : Quad TenantGiven) :
    let counted := w.pathCounted (w.sums s.test.runId g Tenant.all).1 (w.sums s.test.runId g Tenant.all).2
    ∃ b n,
      (w.phase = .active ∧ occupancyMoved (old.get x) (g.get x) = true →
        injected s.link.frameCounter s.test.runId packets length (s.tenant x) ((pathOccasion old g s).tenant x) counted b n) ∧
      (¬ (w.phase = .active ∧ occupancyMoved (old.get x) (g.get x) = true) →
        b = counted ∧ (pathOccasion old g s).tenant x = s.tenant x) ∧
      (pathOccasion old g s).test.work = some (if w.phase = .active ∧ b.made = packets ∧ b.sent + b.aged = b.made
        then { b with phase := .tail, remaining := 4 } else b) := by
  obtain ⟨p, q, all, before, behind⟩ := all_split x
  have first := foldl_tenantTests_other old g p s w h before
  have h1 : OnPath x (s.withWork (some (w.pathCounted (w.sums s.test.runId g p).1 (w.sums s.test.runId g p).2))) _ :=
    h.withWork rfl
  obtain ⟨b, n, v, own, index, step, phase, takes, keeps⟩ := h1.tenantTests_own body long old g
  have h2 : OnPath x ((s.withTenant x v).withWork (some b)) b := ⟨h.run, rfl, by rw [step]; exact h.body⟩
  have last := foldl_tenantTests_other old g q _ b h2 behind
  have sums (l : List Tenant) : b.sums s.test.runId g l = w.sums s.test.runId g l := by
    have same (es : List Entry) : b.ofStep s.test.runId es = w.ofStep s.test.runId es := by
      unfold Working.ofStep
      rw [index]
      rfl
    simp only [Working.sums, same]
  rw [show ((s.withTenant x v).withWork (some b)).test.runId = s.test.runId from rfl, sums] at last
  have fold : Tenant.all.foldl (tenantTests old g) s = (s.withTenant x v).withWork
      (some (b.pathCounted (w.sums s.test.runId g q).1 (w.sums s.test.runId g q).2)) := by
    rw [all, List.foldl_append, first, List.foldl_cons, own]
    exact last
  have unit : (pathOccasion old g s).tenant x = v := by
    rw [pathOccasion, State.tenant, endPathActive_tenants, fold]
    exact State.withTenant_same s x v
  have total : w.pathCounted (w.sums s.test.runId g Tenant.all).1 (w.sums s.test.runId g Tenant.all).2 =
      (((w.pathCounted (w.sums s.test.runId g p).1 (w.sums s.test.runId g p).2).pathCounted
        (w.ofStep s.test.runId (g.get x).given.left) (w.ofStep s.test.runId (g.get x).removed)).pathCounted
        (w.sums s.test.runId g q).1 (w.sums s.test.runId g q).2) := by
    rw [pathCounted_twice, pathCounted_twice, all]
    simp [Working.sums]
  dsimp only
  rw [total, unit]
  refine ⟨b.pathCounted (w.sums s.test.runId g q).1 (w.sums s.test.runId g q).2, n,
    fun moved => injected_pathCounted (takes moved) _ _, fun still => ?_, ?_⟩
  · obtain ⟨same, kept⟩ := keeps still
    exact ⟨by rw [same]; rfl, kept⟩
  · have on : OnPath x ((s.withTenant x v).withWork (some (b.pathCounted (w.sums s.test.runId g q).1
        (w.sums s.test.runId g q).2))) _ := h2.withWork rfl
    rw [pathOccasion, fold, on.endPathActive_work ((congrArg Step.body step).trans body)]
    have active : (b.pathCounted (w.sums s.test.runId g q).1 (w.sums s.test.runId g q).2).phase = w.phase := phase
    rw [active]

end

end Sys2Proof.Machine
end

section
/-! SUPPORT. A good GNSS pulse as a sample of a TIMING_CROSS step (R106, R107, R109, R160). -/

namespace Sys2Proof.Machine

/-! ## What a measurement leaves of the sources -/

theorem measure_gnss (t : Timing) (x : Source) (m w : Int) : (t.measure x m w).1.base.gnss = t.base.gnss := by
  have steps (u : Timing) : (u.makeStep x m w).base.gnss = u.base.gnss := by
    unfold Timing.makeStep
    dsimp only
    split <;> rfl
  have averages (u : Timing) : u.averageStage.base = u.base := by
    unfold Timing.averageStage
    split <;> rfl
  have counts (u : Timing) (e : Int) : (u.countStage e).base = u.base := by
    unfold Timing.countStage
    dsimp only
    repeat' split
    all_goals rfl
  unfold Timing.measure
  dsimp only
  split
  · split
    · exact steps _
    · exact (congrArg TimeBase.gnss ((counts _ _).trans (averages _))).trans rfl
  · rfl

theorem measure_link (t : Timing) (x : Source) (m w : Int) : (t.measure x m w).1.xfer.link = t.xfer.link := by
  rcases measure_xfer t x m w with e | e <;> rw [e]
  rfl

/-- A measurement handed on leaves the states of GNSS and LINK as they are. -/
theorem measure_sources (t : Timing) (x : Source) (m w : Int) :
    (t.measure x m w).1.sourceState .gnss = t.sourceState .gnss ∧
    (t.measure x m w).1.sourceState .link = t.sourceState .link :=
  ⟨congrArg Qualifier.state (measure_gnss t x m w), congrArg LinkSource.state (measure_link t x m w)⟩

/-! ## A TIMING_CROSS step that keeps both sources -/

/-- The current step is a TIMING_CROSS step, if there is one. -/
def State.onCross (s : State) : Prop := ∀ w, s.test.work = some w → w.step.body.kind = .timingCross

/-- With both sources QUALIFIED the watch leaves a TIMING_CROSS step alone (R160). -/
theorem stepWatch_ready {s : State} (cross : s.onCross) (ready : s.crossReady = true) : stepWatch s = s := by
  unfold stepWatch
  split
  · rfl
  · next w work =>
    have kind := cross w work
    split
    · next body => rw [body] at kind; cases kind
    · exact if_pos ready
    · rfl

theorem timingEvent_ready {s : State} {t : Timing} (cross : s.onCross) (gnss : t.sourceState .gnss = .qualified)
    (link : t.sourceState .link = .qualified) : (timingEvent t s).test = s.test := by
  have notices := raiseTiming_onlyNotices s.timing (s.withTiming t) (timingCauses s.timing t false)
  rw [timingEvent, stepWatch_ready]
  · exact notices.test
  · intro w work
    rw [notices.test] at work
    exact cross w work
  · rw [crossReady_iff, notices.timing]
    exact ⟨gnss, link⟩

theorem handOn_ready {s : State} (cross : s.onCross) (ready : s.crossReady = true) (x : Source) (m w : Int) :
    (handOn x m w s).test = s.test ∧ (handOn x m w s).crossReady = true ∧
    (handOn x m w s).timing.base.gnss = s.timing.base.gnss ∧ (handOn x m w s).timing.xfer.link = s.timing.xfer.link := by
  have timing : (handOn x m w s).timing = (s.timing.measure x m w).1 := by
    simp [handOn, (stepWatch_stepFrame _).timing]
  obtain ⟨gnss, link⟩ := measure_sources s.timing x m w
  obtain ⟨g, l⟩ := crossReady_iff.mp ready
  have still : (s.timing.measure x m w).1.sourceState .gnss = .qualified ∧
      (s.timing.measure x m w).1.sourceState .link = .qualified := ⟨gnss.trans g, link.trans l⟩
  refine ⟨?_, crossReady_iff.mpr (timing ▸ still), timing ▸ measure_gnss _ _ _ _, timing ▸ measure_link _ _ _ _⟩
  have notices := raiseTiming_onlyNotices s.timing (s.withTiming (s.timing.measure x m w).1)
    (timingCauses s.timing (s.timing.measure x m w).1 (s.timing.measure x m w).2)
  rw [handOn, stepWatch_ready]
  · exact notices.test
  · intro v work
    rw [notices.test] at work
    exact cross v work
  · rw [crossReady_iff, notices.timing]
    exact still

/-! ## The pulse -/

/-- A good pulse of a QUALIFIED input leaves it QUALIFIED (R106, R107). -/
theorem pulse_good {q : Qualifier} {r reading : Nat} (c : LocalTime) (state : q.state = .qualified) (reference : q.reference = some r)
    (least : 1999998000 ≤ reading - r) (most : reading - r ≤ 2000002000) :
    (q.pulse reading c).2 = .good ∧ (q.pulse reading c).1.state = .qualified := by
  have good : judgePulse q.reference reading = .good := by
    rw [reference, judgePulse]
    rw [if_neg (by omega), if_pos ⟨least, most⟩]
  refine ⟨good, ?_⟩
  change (q.judged (judgePulse q.reference reading)).state = .qualified
  simp only [good, Qualifier.judged, state]

/-- A good GNSS pulse: judged, its measurement kept, handed to the Servo and then to the Test Controller (R109, R160). -/
theorem takePulse_good {s : State} (good : (s.timing.pulsed .gnss).2 = .good) :
    takePulse .gnss s = crossSample (phaseMeasurement s.timing.base.now.half)
      (handOn .gnss (phaseMeasurement s.timing.base.now.half) 0 ((timingEvent (s.timing.pulsed .gnss).1 s).withTiming
        ((s.timing.pulsed .gnss).1.keepM .gnss (phaseMeasurement s.timing.base.now.half)))) := by
  unfold takePulse
  dsimp only
  rw [if_pos good, timingEvent_timing]
  rfl

/-- A good GNSS pulse with both sources QUALIFIED reaches the step as a sample, the step untouched before it (R109, R160). -/
theorem takePulse_sample {s : State} {r : Nat} (cross : s.onCross) (ready : s.crossReady = true)
    (reference : s.timing.base.gnss.reference = some r) (least : 1999998000 ≤ s.timing.base.advance - r)
    (most : s.timing.base.advance - r ≤ 2000002000) :
    ∃ (u : State) (m : Int), takePulse .gnss s = crossSample m u ∧ u.test = s.test ∧ u.crossReady = true ∧
      u.timing.base.gnss.lastM = some m ∧ u.timing.xfer.link = s.timing.xfer.link := by
  obtain ⟨gnss, link⟩ := crossReady_iff.mp ready
  obtain ⟨good, state⟩ := pulse_good s.timing.base.now gnss reference least most
  have qualified : (s.timing.pulsed .gnss).1.sourceState .gnss = .qualified := by
    change (Timing.reselect _).base.gnss.state = .qualified
    rw [reselect_base]
    exact state
  have linked : (s.timing.pulsed .gnss).1.xfer = s.timing.xfer := reselect_xfer _
  have onward : (s.timing.pulsed .gnss).1.sourceState .link = .qualified := by
    rw [Timing.sourceState, linked]
    exact link
  have judged := timingEvent_ready cross qualified onward
  rw [takePulse_good good]
  generalize (s.timing.pulsed .gnss).1 = t at qualified linked onward judged
  generalize phaseMeasurement s.timing.base.now.half = m
  have kept : ((timingEvent t s).withTiming (t.keepM .gnss m)).crossReady = true := crossReady_iff.mpr ⟨qualified, onward⟩
  have onCross : ((timingEvent t s).withTiming (t.keepM .gnss m)).onCross := fun w work => cross w (judged ▸ work)
  obtain ⟨test, still, gnssKept, linkKept⟩ := handOn_ready onCross kept .gnss m 0
  refine ⟨_, m, rfl, test.trans judged, still, ?_, ?_⟩
  · rw [gnssKept]
    rfl
  · rw [linkKept]
    exact congrArg Transfer.link linked

/-- A sample of a TIMING_CROSS step, and the end of the step with its last one (R160). -/
theorem crossSample_eq {s : State} {w : Working} {samples limit : Nat} {l whole m : Int} (run : s.test.runState = .running)
    (work : s.test.work = some w) (body : w.step.body = .timingCross samples limit) (ready : s.crossReady = true)
    (last : s.timing.xfer.link.lastM = some (l, whole)) :
    let w1 := { w with samples := w.samples + 1, sum := w.sum + (m - l) }
    (w.samples + 1 < samples → crossSample m s = s.withWork (some w1)) ∧
    (samples ≤ w.samples + 1 → (rndDiv w1.sum w1.samples).natAbs ≤ limit →
      stepEnded w1 .pass .none s (crossSample m s)) ∧
    (samples ≤ w.samples + 1 → limit < (rndDiv w1.sum w1.samples).natAbs →
      stepEnded w1 .fail .limitExceeded s (crossSample m s)) := by
  dsimp only
  have ended (v : Verdict) (r : EndReason) := (endStep_stepEnded v r
    (s.withWork (some { w with samples := w.samples + 1, sum := w.sum + (m - l) })) _ run rfl).of_log (s := s) rfl rfl
  refine ⟨fun few => ?_, fun enough inside => ?_, fun enough outside => ?_⟩
  · simp only [crossSample, run, work, last, body, ready, if_true, if_neg (Nat.not_le_of_lt few)]
  · simp only [crossSample, run, work, last, body, ready, if_true, if_pos enough, if_pos inside]
    exact ended _ _
  · simp only [crossSample, run, work, last, body, ready, if_true, if_pos enough, if_neg (Nat.not_le_of_lt outside)]
    exact ended _ _

end Sys2Proof.Machine
end

section
/-! PROOF. The phases, counts and ends of steps (R155 to R161): frame starts, pulses, and the statement assembled. -/

namespace Sys2Proof.Machine

/-! ## A frame start in a LINK_PATTERN step (R156) -/

/-- A frame start on its boundary with nothing due, up to the occasion of a TENANT_PATH step. -/
theorem frameStart_occasion {s : State} (role : s.role ≠ none) (here : s.timing.base.frameHere = true)
    (second : s.timing.base.secondHere = false) (quiet : s.quiet = true) : ∃ q, frameStart s = pathOccasion s.tenants
      (s.ticked.given s.ticked.plan.1) ((s.ticked.frameSent s.ticked.plan (s.ticked.given s.ticked.plan.1)).withPort q) := by
  rw [frameStart_here s role here second quiet]
  exact sendFrame_eq _

theorem frameCounted_other {w : Working} (h : w.step.body.kind ≠ .linkPattern) (n p : Nat) :
    w.frameCounted n p = { w with remaining := w.remaining - 1 } := by
  simp only [Working.frameCounted, if_neg fun k : w.step.body.kind = .linkPattern ∧ w.phase = .active => h k.1]

theorem frameCounted_linkPattern {w : Working} (h : w.step.body.kind = .linkPattern) (n p : Nat) :
    w.frameCounted n p = { w with
      remaining := w.remaining - 1
      blocksSent := if w.phase = .active then w.blocksSent + n else w.blocksSent
      lowest := if w.phase = .active then some (min p (w.lowest.getD p)) else w.lowest } := by
  simp only [Working.frameCounted, h, true_and]

theorem frameStart_linkPattern {s : State} {w : Working} (role : s.role ≠ none) (here : s.timing.base.frameHere = true)
    (second : s.timing.base.secondHere = false) (quiet : s.quiet = true) (run : s.test.runState = .running)
    (work : s.test.work = some w) (kind : w.step.body.kind = .linkPattern) :
    (frameStart s).test.work = some (w.frameCounted s.ticked.plan.1.testBlocks s.ticked.nextTxProfile) := by
  obtain ⟨q, e⟩ := frameStart_occasion role here second quiet
  obtain ⟨counted, -, -⟩ := frameSent_test (s := s.ticked) run work s.ticked.plan (s.ticked.given s.ticked.plan.1)
  have other : ∀ v, ((s.ticked.frameSent s.ticked.plan (s.ticked.given s.ticked.plan.1)).withPort q).test.work = some v →
      v.step.body.kind ≠ .tenantPath := fun v k => by
    have same := Option.some.inj (counted.symm.trans k)
    rw [← same]
    change w.step.body.kind ≠ .tenantPath
    rw [kind]
    decide
  rw [e, pathOccasion_other other]
  exact counted

/-! ## A frame start in a TENANT_PATH step (R158, R159) -/

/-- The pause output, its count and that of test packets after a drain that may complete (R45, R51). -/
theorem drained_pause (u : TenantUnit) :
    let pause := if u.state = .pending ∨ u.state = .active then
        hysteresis u.record.ingressHalt u.record.ingressResume (occupancy u.queue) u.paused
      else if u.state = .draining ∧ u.queue = [] then false else u.paused
    u.judgePause.drained.paused = pause ∧ u.judgePause.drained.ingress.pauses =
      (if pause = true ∧ u.paused = false then bump u.ingress.pauses else u.ingress.pauses) ∧
    u.judgePause.drained.ingress.testTaken = u.ingress.testTaken := by
  cases state : u.state with
  | off =>
    rw [off_drained u state]
    simp
  | draining =>
    rw [draining_drained u state]
    cases u.queue <;> simp
  | pending =>
    rw [judged_drained u (.inl state)]
    simp [bumpIf]
  | active =>
    rw [judged_drained u (.inr state)]
    simp [bumpIf]

/-- What `injected` reads of the unit before the occasion. -/
theorem injected_congr {frame : BitVec 32} {run : BitVec 16} {packets length n : Nat} {u u' v : TenantUnit} {a b : Working}
    (queue : u'.queue = u.queue) (nextSeq : u'.nextSeq = u.nextSeq) (record : u'.record = u.record)
    (paused : u'.paused = u.paused) (pauses : u'.ingress.pauses = u.ingress.pauses)
    (testTaken : u'.ingress.testTaken = u.ingress.testTaken)
    (judged : (u'.state = .pending ∨ u'.state = .active) ↔ (u.state = .pending ∨ u.state = .active))
    (h : injected frame run packets length u v a b n) : injected frame run packets length u' v a b n := by
  simp only [injected, queue, nextSeq, record, paused, pauses, testTaken, judged]
  exact h

/-- What a tenant's unit is at the occasion, next to what it was before the frame (R45, R51, R53, R54). -/
theorem givenUnit_injected {s : State} {p : Plan} {x : Tenant} {frame : BitVec 32} {run : BitVec 16} {packets length n : Nat}
    {v : TenantUnit} {a b : Working} (h : injected frame run packets length ((s.given p).get x).unit v a b n) :
    let u := s.tenant x
    let q := ((s.given p).get x).given.queue
    let pause := if u.state = .pending ∨ u.state = .active then
        hysteresis u.record.ingressHalt u.record.ingressResume (occupancy q) u.paused
      else if u.state = .draining ∧ q = [] then false else u.paused
    injected frame run packets length { u with
      queue := q
      paused := pause
      ingress := { u.ingress with
        pauses := if pause = true ∧ u.paused = false then bump u.ingress.pauses else u.ingress.pauses } } v a b n := by
  have given := given_eq s p x
  generalize (s.given p).get x = g at h given
  have handed : (g.aged.handed g.given).state = (s.tenant x).state ∧ (g.aged.handed g.given).record = (s.tenant x).record ∧
      (g.aged.handed g.given).nextSeq = (s.tenant x).nextSeq ∧ (g.aged.handed g.given).paused = (s.tenant x).paused ∧
      (g.aged.handed g.given).ingress.pauses = (s.tenant x).ingress.pauses ∧
      (g.aged.handed g.given).ingress.testTaken = (s.tenant x).ingress.testTaken := by
    rw [given]
    exact ⟨rfl, rfl, rfl, rfl, rfl, rfl⟩
  have left : (g.aged.handed g.given).queue = g.given.queue := rfl
  rw [unit_eq] at h
  generalize g.aged.handed g.given = u at h handed left
  obtain ⟨states, records, seqs, pause, counts, taken⟩ := handed
  obtain ⟨queue, nextSeq, state, -, -⟩ := judgePause_drained u
  obtain ⟨paused, pauses, testTaken⟩ := drained_pause u
  rw [left, states, records, pause] at paused
  rw [left, states, records, pause, counts] at pauses
  refine injected_congr (left.symm.trans queue.symm) (seqs.symm.trans nextSeq.symm)
    (records.symm.trans (drained_runUnit u).record.symm) paused.symm pauses.symm (taken.symm.trans testTaken.symm) ?_ h
  change ((s.tenant x).state = .pending ∨ (s.tenant x).state = .active) ↔ _
  rw [state, states]
  by_cases off : (s.tenant x).state = .draining ∧ u.queue = []
  · rw [if_pos off, off.1]
    decide
  · rw [if_neg off]

/-- A frame start in a TENANT_PATH step: the counts of all four tenants, and the packets its own tenant then takes. -/
theorem frameStart_tenantPath {s : State} {w : Working} {x : Tenant} {k packets length errorLimit missLimit : Nat}
    (role : s.role ≠ none) (here : s.timing.base.frameHere = true) (second : s.timing.base.secondHere = false)
    (quiet : s.quiet = true) (run : s.test.runState = .running) (work : s.test.work = some w)
    (body : w.step.body = .tenantPath x k packets length errorLimit missLimit) (long : 64 ≤ length) :
    let g := s.ticked.given s.ticked.plan.1
    let counted := ({ w with remaining := w.remaining - 1 } : Working).pathCounted (w.sums s.test.runId g Tenant.all).1
      (w.sums s.test.runId g Tenant.all).2
    ∃ b n,
      (w.phase = .active ∧ occupancyMoved (s.tenant x) (g.get x) = true →
        injected (s.link.frameCounter + 1) s.test.runId packets length (g.get x).unit ((frameStart s).tenant x) counted b n) ∧
      (¬ (w.phase = .active ∧ occupancyMoved (s.tenant x) (g.get x) = true) →
        b = counted ∧ (frameStart s).tenant x = (g.get x).unit) ∧
      (frameStart s).test.work = some (if w.phase = .active ∧ b.made = packets ∧ b.sent + b.aged = b.made
        then { b with phase := .tail, remaining := 4 } else b) := by
  obtain ⟨q, e⟩ := frameStart_occasion role here second quiet
  obtain ⟨counted, runs, runId⟩ := frameSent_test (s := s.ticked) run work s.ticked.plan (s.ticked.given s.ticked.plan.1)
  have kind : w.step.body.kind ≠ .linkPattern := by rw [body]; nofun
  rw [frameCounted_other kind] at counted
  have on : OnPath x ((s.ticked.frameSent s.ticked.plan (s.ticked.given s.ticked.plan.1)).withPort q)
      { w with remaining := w.remaining - 1 } := ⟨runs, counted, ⟨_, _, _, _, _, body⟩⟩
  have occasion := pathOccasion_injected on body long s.tenants (s.ticked.given s.ticked.plan.1)
  have unit : ((s.ticked.frameSent s.ticked.plan (s.ticked.given s.ticked.plan.1)).withPort q).tenant x =
      ((s.ticked.given s.ticked.plan.1).get x).unit := Quad.get_map _ _ _
  have id : ((s.ticked.frameSent s.ticked.plan (s.ticked.given s.ticked.plan.1)).withPort q).test.runId = s.test.runId := runId
  rw [← e, unit, id] at occasion
  exact occasion

end Sys2Proof.Machine
end

section
/-! PROOF. The phases, counts and ends of steps (R155 to R161): the statement assembled. -/

namespace Sys2Proof.Machine

section
variable {s : State} {w : Working}

/-- The current step ended by an event that does nothing else: log, link and time behind it (R155). -/
theorem endStep_announced (run : s.test.runState = .running) (work : s.test.work = some w) (v : Verdict) (r : EndReason) :
    stepEnded w v r s (announce (endStep v r s)) ∧ (announce (endStep v r s)).link = s.link ∧
    (announce (endStep v r s)).timing = s.timing := by
  have frame := endStep_stepFrame v r s
  exact ⟨(endStep_stepEnded v r s w run work).announced, (announce_link _).trans frame.link,
    (announce_timing _).trans frame.timing⟩

/-- Behind a WAIT step at its deadline that is not mandatory the next step starts (R155, R161). -/
theorem waitOver_next {cond : WaitCond} {limit : Nat} {e : Step} (run : s.test.runState = .running)
    (work : s.test.work = some w) (body : w.step.body = .wait cond limit) (phase : w.phase = .waiting) (spent : w.deadline = 0)
    (free : w.step.mandatory = false) (more : w.index + 1 < s.test.count)
    (entry : s.test.steps.toList.getD (w.index + 1) none = some e) (going : startRefused e s = none)
    (long : ∀ x k packets length errorLimit missLimit,
      e.body = .tenantPath x k packets length errorLimit missLimit → 64 ≤ length) :
    stepBegun (w.index + 1) e s (announce (waitOver s)) := by
  rw [waitOver_eq body run work phase spent]
  exact stepBegun_congr rfl rfl rfl rfl (announce_test _) (announce_tenants _) (announce_ladder _)
    (endStep_next run work body free more entry going long _ _)

/-! ## The counts of a TENANT_PATH step over the four tenants (R158) -/

theorem occupancyMoved_iff (u : TenantUnit) (g : TenantGiven) :
    occupancyMoved u g = true ↔ u.agedEarly = true ∨ occupancy g.given.queue ≠ occupancy u.queue := by
  rw [occupancyMoved, Bool.or_eq_true, bne_iff_ne, ne_comm]

theorem unit_queue (g : TenantGiven) : g.unit.queue = g.given.queue := by
  rw [unit_eq]
  exact (judgePause_drained _).1

theorem sums_all (w : Working) (r : BitVec 16) (g : Quad TenantGiven) : w.sums r g Tenant.all =
    (w.ofStep r (g.get .t0).given.left + w.ofStep r (g.get .t1).given.left + w.ofStep r (g.get .t2).given.left +
      w.ofStep r (g.get .t3).given.left,
    w.ofStep r (g.get .t0).removed + w.ofStep r (g.get .t1).removed + w.ofStep r (g.get .t2).removed +
      w.ofStep r (g.get .t3).removed) := by
  simp [Working.sums, Tenant.all, Nat.add_assoc]

/-! ## A sample of a TIMING_CROSS step (R160) -/

/-- Local time passed within a boundary leaves the sources, and moves the reading on (R98). -/
theorem advanceBy_reads (dt : Nat) (b : TimeBase) :
    (b.advanceBy dt).gnss = b.gnss ∧ (b.advanceBy dt).advance = b.advance + dt := by
  unfold TimeBase.advanceBy
  split
  · next nothing => exact ⟨rfl, by rw [nothing, Nat.add_zero]⟩
  · exact ⟨rfl, rfl⟩

/-- A good GNSS pulse with both sources QUALIFIED, as the Test Controller takes it (R160). -/
theorem pulse_sample {samples limit dt r : Nat} {l whole : Int} (run : s.test.runState = .running)
    (work : s.test.work = some w) (body : w.step.body = .timingCross samples limit) (within : dt ≤ s.toBoundary)
    (quiet : (s.withBase (s.timing.base.advanceBy dt)).quiet = true) (reference : s.timing.base.gnss.reference = some r)
    (least : 1999998000 ≤ s.timing.base.advance + dt - r) (most : s.timing.base.advance + dt - r ≤ 2000002000)
    (gnss : s.timing.sourceState .gnss = .qualified) (link : s.timing.sourceState .link = .qualified)
    (last : s.timing.xfer.link.lastM = some (l, whole)) :
    ∃ t m, exec (.pulse .gnss dt) s = .next t ∧ t.timing.base.gnss.lastM = some m ∧
      let w1 := { w with samples := w.samples + 1, sum := w.sum + (m - l) }
      (w.samples + 1 < samples → t.test.work = some w1 ∧ t.test.results = s.test.results) ∧
      (samples ≤ w.samples + 1 → (rndDiv w1.sum w1.samples).natAbs ≤ limit → stepEnded w1 .pass .none s t) ∧
      (samples ≤ w.samples + 1 → limit < (rndDiv w1.sum w1.samples).natAbs → stepEnded w1 .fail .limitExceeded s t) := by
  obtain ⟨base, reading⟩ := advanceBy_reads dt s.timing.base
  have reached : exec (.pulse .gnss dt) s = .next (announce (takePulse .gnss (s.withBase (s.timing.base.advanceBy dt)))) := by
    rw [← settle_quiet _ quiet, ← passTime_within dt s within]
    rfl
  have cross : (s.withBase (s.timing.base.advanceBy dt)).onCross := fun v k => by
    have same := Option.some.inj (work.symm.trans k)
    rw [← same, body]
    rfl
  have ready : (s.withBase (s.timing.base.advanceBy dt)).crossReady = true :=
    crossReady_iff.mpr ⟨(congrArg Qualifier.state base).trans gnss, link⟩
  obtain ⟨u, m, taken, test, still, kept, source⟩ := takePulse_sample cross ready ((congrArg Qualifier.reference base).trans reference)
    (le_of_le_of_eq least (congrArg (· - r) reading.symm)) (le_of_eq_of_le (congrArg (· - r) reading) most)
  change u.test = s.test at test
  have sampled := crossSample_eq (s := u) (m := m) (by rw [test]; exact run) (by rw [test]; exact work) body still
    ((congrArg LinkSource.lastM source).trans last)
  obtain ⟨few, inside, outside⟩ := sampled
  rw [taken] at reached
  refine ⟨_, m, reached, ?_, fun h => ?_, fun h k => ?_, fun h k => ?_⟩
  · rw [announce_timing, (crossSample_stepFrame m u).timing]
    exact kept
  · rw [announce_test, few h]
    exact ⟨rfl, (congrArg TestUnit.results test :)⟩
  · exact ((inside h k).of_log (congrArg TestUnit.results test) (congrArg TestUnit.flag test)).announced
  · exact ((outside h k).of_log (congrArg TestUnit.results test) (congrArg TestUnit.flag test)).announced

end

/-- Settles O42: each phase's end is one event, a frame start counts through `Working.frameCounted` and `pathOccasion`, and a
good pulse is a sample. -/
theorem stepPhasesEnd : Obligations.StepPhasesEnd := by
  intro s w run work
  refine ⟨?phases, ?path, ?waits, ?noReport, ?waitEnds, ?crossEnds, ?next, ?frame, ?pulse⟩
  case phases =>
    intro profile pattern blocks mode lead active tail errorLimit missLimit body spent
    refine ⟨fun phase => ?_, fun phase => ?_, fun r phase report => ?_⟩
    · exact congrArg (fun t => Host.Outcome.next (announce t)) (leadOver_eq body run work phase spent)
    · exact congrArg (fun t => Host.Outcome.next (announce t)) (activeOver_eq body run work phase spent)
    · exact ⟨_, rfl, stepEnded_limits (tailOver_ended run work phase spent report).announced _ _ _ _
        (evaluateReport_linkPattern w r _ _ _ _ _ _ _ _ _ body)⟩
  case path =>
    intro x pattern packets length errorLimit missLimit r body spent phase report
    exact ⟨_, rfl, stepEnded_limits (tailOver_ended run work phase spent report).announced _ _ _ _
      (evaluateReport_tenantPath w r _ _ _ _ _ _ body)⟩
  case waits =>
    intro spent phase report
    exact congrArg (fun t => Host.Outcome.next (announce t)) (tailOver_waits run work phase spent report)
  case noReport =>
    intro spent phase
    refine ⟨announce (reportWaitOver s), rfl, ?_⟩
    rw [reportWaitOver_eq run work phase spent]
    exact endStep_announced run work _ _
  case waitEnds =>
    intro cond limit body phase spent
    refine ⟨announce (waitOver s), rfl, ?_⟩
    rw [waitOver_eq body run work phase spent]
    exact endStep_announced run work _ _
  case crossEnds =>
    intro samples limit body phase spent
    refine ⟨announce (crossOver s), rfl, ?_⟩
    rw [crossOver_eq body run work phase spent]
    exact endStep_announced run work _ _
  case next =>
    intro cond limit e body phase spent free more entry going long
    exact ⟨_, rfl, waitOver_next run work body phase spent free more entry going long⟩
  case frame =>
    intro role here second quiet
    rw [reachFrame_here s here second quiet]
    refine ⟨fun forced pattern blocks mode lead active tail errorLimit missLimit body => ?_,
      fun x pattern packets length errorLimit missLimit body long => ?_⟩
    · refine ⟨_, rfl, ?_⟩
      have kind : w.step.body.kind = .linkPattern := by rw [body]; rfl
      rw [announce_test, frameStart_linkPattern role here second quiet run work kind, frameCounted_linkPattern kind]
      rfl
    · obtain ⟨b, n, takes, keeps, after⟩ := frameStart_tenantPath role here second quiet run work body long
      rw [sums_all] at takes keeps
      simp only [occupancyMoved_iff] at takes keeps
      refine ⟨announce (frameStart s), b, n, rfl, fun active moved => ?_, fun still => ?_, fun active made gone => ?_,
        fun going => ?_⟩
      · rw [announce_tenant]
        exact givenUnit_injected (takes ⟨active, moved⟩)
      · rw [announce_tenant]
        obtain ⟨same, unit⟩ := keeps fun k => still.elim (· k.1) (· k.2)
        exact ⟨same, by rw [unit]; exact unit_queue _⟩
      · rw [announce_test, after, if_pos ⟨active, made, gone⟩]
      · rw [announce_test, after, if_neg fun k => going.elim (· k.1) (·.elim (· k.2.1) (· k.2.2))]
  case pulse =>
    intro samples limit dt r l whole body within quiet _ reference least most gnss link last
    obtain ⟨t, m, e, kept, few, inside, outside⟩ := pulse_sample run work body within quiet reference least most gnss link last
    exact ⟨t, m, e, kept, few, fun h a b => inside h (by omega), fun h k => outside h (by omega)⟩

end Sys2Proof.Machine
end

section
/-! PROOF. SET_SHARES (R77). -/

namespace Sys2Proof.Machine

/-- A statement about the four tenants is one about each. -/
theorem forall_tenant_iff (P : Tenant → Prop) : (∀ x, P x) ↔ P .t0 ∧ P .t1 ∧ P .t2 ∧ P .t3 :=
  ⟨fun h => ⟨h _, h _, h _, h _⟩, fun ⟨h0, h1, h2, h3⟩ x => by cases x <;> assumption⟩

/-- What the check of SET_SHARES says. -/
theorem shareTable_ok_iff (q : ShareTable) : q.ok = true ↔
    (∀ x, (q.get x).level ≤ 7 ∧ (q.get x).share ≤ 256) ∧ q.t0.share + q.t1.share + q.t2.share + q.t3.share ≤ 256 := by
  have sum : (q.map Share.share).sum = q.t0.share + q.t1.share + q.t2.share + q.t3.share := rfl
  rw [forall_tenant_iff, ← sum]
  simp [ShareTable.ok, Quad.toList, Quad.get]

/-- Settles O21: the check of R77 as the ranges of its fields, and the request answered at once. -/
theorem setSharesTakesOrRefuses : Obligations.SetSharesTakesOrRefuses := by
  intro s tag q free
  dsimp only
  rw [← shareTable_ok_iff]
  refine ⟨fun ok => ?_, fun bad => ?_⟩
  · have done (k : Byte) : perform (.setShares q) (s.serving k tag) =
        ((s.withPlanner { s.planner with shares := q }).serving k tag, .ok, .shares q) := if_pos ok
    exact congrArg Host.Outcome.next (requestFrame_done tag _ s _ _ _ free done)
  · have refused (k : Byte) : perform (.setShares q) (s.serving k tag) =
        (s.serving k tag, .badValue, .shares s.planner.shares) := if_neg bad
    exact congrArg Host.Outcome.next (requestFrame_read tag _ s _ _ free refused)

end Sys2Proof.Machine
end

section
/-! PROOF. The capacity, the committed grants and the blocks of a plan (R62 to R66, R70). -/

namespace Sys2Proof.Machine

/-! ## The capacity (R62, R64, R65, R71) -/

theorem planFrame_capacity (i : PlanInputs) : (planFrame i).1.capacity = i.capacity := by rw [planFrame_eq]

theorem planFrame_spareLeft (i : PlanInputs) : (planFrame i).1.spareLeft = i.spare.1.left := by rw [planFrame_eq]

theorem planFrame_demand (i : PlanInputs) (t : Tenant) : ((planFrame i).1.tenants.get t).demand = i.demand.get t := by
  rw [planFrame_eq, Quad.get_ofFn]

theorem planFrame_committed (i : PlanInputs) (t : Tenant) :
    ((planFrame i).1.tenants.get t).committed = i.committed.get t := by
  rw [planFrame_eq, Quad.get_ofFn]

theorem planFrame_committeds (i : PlanInputs) : (planFrame i).1.tenants.map TenantPlan.committed = i.committed :=
  Quad.ext_get fun t => by rw [Quad.get_map, planFrame_committed]

/-- A request read while UP with mode RESERVED takes its blocks ahead of the tenants. -/
theorem capacity_reserved {i : PlanInputs} {n : Nat} (up : i.link = .up) (r : i.request = some (.reserved, n)) :
    i.capacity = i.left - min n i.left := by
  rw [PlanInputs.capacity, PlanInputs.testRequest, if_pos up, r]
  rfl

/-- Without such a request, the tenants have all that header and control blocks leave. -/
theorem capacity_unreserved {i : PlanInputs} (h : i.link ≠ .up ∨ ∀ n, i.request ≠ some (.reserved, n)) :
    i.capacity = i.left := by
  have zero : reservedBlocks i.testRequest i.left = 0 := by
    rw [PlanInputs.testRequest]
    split
    · next up =>
      unfold reservedBlocks
      split
      · next n e => exact absurd e (h.resolve_left (absurd up) n)
      · rfl
    · rfl
  rw [PlanInputs.capacity, zero, Nat.sub_zero]

/-- No frame has more than two control blocks (R64). -/
theorem controls_length_le (i : PlanInputs) : i.controls.length ≤ 2 := by
  have timing : i.timing.toList.length ≤ 1 := by cases i.timing <;> simp
  unfold PlanInputs.controls
  split
  · have report : (if i.report = true then [ControlKind.testReport] else []).length ≤ 1 := by split <;> simp
    rw [List.length_append]
    omega
  · have := List.length_filter_le (fun k => k == .sync || k == .delayReq) i.timing.toList
    omega
  · exact Nat.zero_le _

/-! ## The committed grants (R66) -/

/-- Shares of a capacity, each rounded down, fit into it when the shares sum to at most 256. -/
theorem share_terms_le (c : Nat) (shares : ShareTable) (h : (shares.map Share.share).sum ≤ 256) :
    c * shares.t0.share / 256 + c * shares.t1.share / 256 + c * shares.t2.share / 256 + c * shares.t3.share / 256 ≤ c := by
  have le := committed_sum_le c (shares.map fun e => c * e.share / 256) _ h
  simpa only [Quad.sum, Quad.ofFn, Quad.get, Quad.map, committedOf, Nat.min_self] using le

theorem committed_get (i : PlanInputs) (t : Tenant) :
    i.committed.get t = min (i.demand.get t) (i.capacity * (i.shares.get t).share / 256) := Quad.get_ofFn _ _

theorem committed_le_capacity (i : PlanInputs) (h : (i.shares.map Share.share).sum ≤ 256) :
    i.committed.sum ≤ i.capacity := by
  have terms := share_terms_le i.capacity i.shares h
  have one (t : Tenant) : i.committed.get t ≤ i.capacity * (i.shares.get t).share / 256 := by
    rw [committed_get]
    exact Nat.min_le_right _ _
  have h0 := one .t0
  have h1 := one .t1
  have h2 := one .t2
  have h3 := one .t3
  simp only [Quad.get] at h0 h1 h2 h3
  rw [Quad.sum]
  omega

/-- Grants and the spare that remains make up the capacity (R67, R70). -/
theorem grants_and_spare (i : PlanInputs) (h : (i.shares.map Share.share).sum ≤ 256) :
    i.spare.1.grants.sum + i.spare.1.left = i.capacity := by
  have total := (spare_keeps i).total
  have committed := committed_le_capacity i h
  omega

/-- Settles O9: what fits behind the header is filled up with IDLE blocks, and grants and spare make up the capacity. -/
theorem planUsesEveryBlockOnce : Obligations.PlanUsesEveryBlockOnce := by
  intro i shares blocks
  have fits := planFrame_fits i shares
  have idle := planFrame_idle i
  have controls := controls_length_le i
  have left : i.left = i.blocks - 1 - i.controls.length := rfl
  rw [planFrame_grants] at fits
  dsimp only
  rw [planFrame_grants, planFrame_controls, planFrame_capacity, planFrame_spareLeft]
  refine ⟨by omega, grants_and_spare i shares, fun t => ?_⟩
  rw [planFrame_grant, planFrame_demand]
  exact (spare_keeps i).bound t

end Sys2Proof.Machine
end

section
/-! SUPPORT. What the spare stage moves (R67). `SpareRises`: spare is handed out to some tenants only, and without spare
nothing moves. `Spare.Done`: a level has met every demand or used the spare up, which its rounds reach. -/

namespace Sys2Proof.Machine

/-! ## What a visit can change -/

/-- The spare stage at a later point: spare only falls and grants only rise, those of tenants named by `among` only. -/
structure SpareRises (among : Tenant → Prop) (x y : Spare) : Prop where
  left : y.left ≤ x.left
  grants : ∀ t, x.grants.get t ≤ y.grants.get t
  others : ∀ t, ¬ among t → y.grants.get t = x.grants.get t
  spent : x.left = 0 → y.grants = x.grants

namespace SpareRises

variable {among : Tenant → Prop} {x y z : Spare}

theorem of_same (left : y.left = x.left) (grants : y.grants = x.grants) : SpareRises among x y :=
  ⟨left.le, fun _ => by rw [grants], fun _ _ => by rw [grants], fun _ => grants⟩

theorem trans (h : SpareRises among x y) (k : SpareRises among y z) : SpareRises among x z where
  left := k.left.trans h.left
  grants t := (h.grants t).trans (k.grants t)
  others t n := (k.others t n).trans (h.others t n)
  spent e := (k.spent (Nat.le_zero.mp (e ▸ h.left))).trans (h.spent e)

theorem anyone (h : SpareRises among x y) : SpareRises (fun _ => True) x y :=
  ⟨h.left, h.grants, fun _ n => absurd trivial n, h.spent⟩

end SpareRises

section
variable (shares : ShareTable) (demand : Quad Nat) (level : Nat)

/-- The tenants of a level (R67). -/
def AtLevel (t : Tenant) : Prop := (shares.get t).level = level

theorem visit_rises (t : Tenant) (x : Spare) : SpareRises (AtLevel shares level) x (x.visit shares demand level t) := by
  unfold Spare.visit
  split
  · next h =>
    obtain ⟨spare, here, -⟩ := h
    have other {s : Tenant} (ne : s ≠ t) : (x.grants.set t (x.grants.get t + 1)).get s = x.grants.get s :=
      Quad.get_set_other _ _ _ _ ne
    refine ⟨Nat.sub_le _ _, fun s => ?_, fun s away => other fun e => away (e ▸ here), fun e => absurd e spare.ne'⟩
    by_cases e : s = t
    · rw [e, Quad.get_set_same]
      exact Nat.le_succ _
    · rw [other e]
  · exact .of_same rfl rfl

theorem round_rises (p : Tenant) (x : Spare) : SpareRises (AtLevel shares level) x (x.round shares demand level p) :=
  (((visit_rises shares demand level _ _).trans (visit_rises ..)).trans (visit_rises ..)).trans (visit_rises ..)

theorem rounds_rises (p : Tenant) (n : Nat) :
    ∀ x, SpareRises (AtLevel shares level) x (Spare.rounds shares demand level p n x) := by
  induction n with
  | zero => exact fun _ => .of_same rfl rfl
  | succ n ih => exact fun x => (round_rises shares demand level p x).trans (ih _)

/-! ## The end of a level -/

/-- A level is at its end: the spare is used up, or every tenant of the level has its demand. -/
def Spare.Done (x : Spare) : Prop := x.left = 0 ∨ ∀ t, AtLevel shares level t → demand.get t ≤ x.grants.get t

variable {shares demand level}

/-- A visit after which all the spare is still there at a later point finds no spare or a tenant without a claim, and
changes nothing. -/
theorem visit_idle {among : Tenant → Prop} {t : Tenant} {x y : Spare}
    (later : SpareRises among (x.visit shares demand level t) y) (idle : x.left ≤ y.left) :
    x.visit shares demand level t = x ∧ (x.left = 0 ∨ (AtLevel shares level t → demand.get t ≤ x.grants.get t)) := by
  have left := idle.trans later.left
  unfold Spare.visit at left ⊢
  split at left
  · next k =>
    have := k.1
    dsimp only at left
    omega
  · next k =>
    refine ⟨if_neg k, ?_⟩
    by_contra claim
    push Not at claim
    obtain ⟨spare, here, unmet⟩ := claim
    exact k ⟨Nat.pos_of_ne_zero spare, here, unmet⟩

/-- A round that hands out no block is at the end of the level. -/
theorem done_of_round_idle {p : Tenant} {x : Spare} (h : x.left ≤ (x.round shares demand level p).left) :
    x.Done shares demand level := by
  have v (t : Tenant) (y : Spare) := visit_rises shares demand level t y
  unfold Spare.round at h
  obtain ⟨e1, d1⟩ := visit_idle (((v p.next _).trans (v p.next.next _)).trans (v p.next.next.next _)) h
  rw [e1] at h
  obtain ⟨e2, d2⟩ := visit_idle ((v p.next.next _).trans (v p.next.next.next _)) h
  rw [e2] at h
  obtain ⟨e3, d3⟩ := visit_idle (v p.next.next.next _) h
  rw [e3] at h
  obtain ⟨-, d4⟩ := visit_idle (.of_same (among := fun _ => True) rfl rfl) h
  rcases Nat.eq_zero_or_pos x.left with spent | spare
  · exact .inl spent
  · refine .inr ((forall_tenant_iff _).mpr ?_)
    have claim {t : Tenant} := fun d : x.left = 0 ∨ (AtLevel shares level t → demand.get t ≤ x.grants.get t) =>
      d.resolve_left spare.ne'
    cases p
    · exact ⟨claim d1, claim d2, claim d3, claim d4⟩
    · exact ⟨claim d4, claim d1, claim d2, claim d3⟩
    · exact ⟨claim d3, claim d4, claim d1, claim d2⟩
    · exact ⟨claim d2, claim d3, claim d4, claim d1⟩

/-- What is at its end stays there. -/
theorem Spare.Done.later {among : Tenant → Prop} {x y : Spare} (h : x.Done shares demand level) (k : SpareRises among x y) :
    y.Done shares demand level :=
  h.imp (fun spent => Nat.le_zero.mp (k.left.trans spent.le)) fun met t here => (met t here).trans (k.grants t)

/-- As many rounds as there are spare blocks reach the end of the level: each hands one out, or is at the end (R67). -/
theorem rounds_done (p : Tenant) (n : Nat) :
    ∀ x, x.left ≤ n → (Spare.rounds shares demand level p n x).Done shares demand level := by
  induction n with
  | zero => exact fun x le => .inl (Nat.le_zero.mp le)
  | succ n ih =>
    intro x le
    by_cases idle : x.left ≤ (x.round shares demand level p).left
    · exact (done_of_round_idle idle).later (rounds_rises shares demand level p (n + 1) x)
    · exact ih _ (by omega)

end

/-! ## The levels in turn -/

section
variable (shares : ShareTable) (demand : Quad Nat)

theorem spareLevel_rounds (x : Spare × Vector Tenant 8) (level : Fin 8) : (spareLevel shares demand x level).1 =
    Spare.rounds shares demand level.val x.2[level] x.1.left { x.1 with last := none } := by
  unfold spareLevel
  dsimp only
  split <;> rfl

theorem spareLevel_rises (x : Spare × Vector Tenant 8) (level : Fin 8) :
    SpareRises (AtLevel shares level) x.1 (spareLevel shares demand x level).1 := by
  have begin : SpareRises (AtLevel shares level) x.1 { x.1 with last := none } := .of_same rfl rfl
  rw [spareLevel_rounds]
  exact begin.trans (rounds_rises ..)

theorem spareLevel_done (x : Spare × Vector Tenant 8) (level : Fin 8) :
    (spareLevel shares demand x level).1.Done shares demand level := by
  rw [spareLevel_rounds]
  exact rounds_done _ _ _ le_rfl

theorem spareLevels_rise (levels : List (Fin 8)) :
    ∀ x, SpareRises (fun _ => True) x.1 (levels.foldl (spareLevel shares demand) x).1 := by
  induction levels with
  | nil => exact fun _ => .of_same rfl rfl
  | cons l ls ih => exact fun x => (spareLevel_rises shares demand x l).anyone.trans (ih _)

/-- Over levels in ascending order, a tenant of a later level receives spare only where a tenant of an earlier one has its
demand: the earlier level's end with spare left has met it, and one without leaves nothing to receive (R67). -/
theorem spareLevels_strict {lower higher : Tenant} (lt : (shares.get lower).level < (shares.get higher).level)
    (levels : List (Fin 8)) (order : levels.Pairwise (· < ·)) (visited : ∃ l ∈ levels, (shares.get lower).level = l.val) :
    ∀ x, x.1.grants.get higher < (levels.foldl (spareLevel shares demand) x).1.grants.get higher →
      demand.get lower ≤ (levels.foldl (spareLevel shares demand) x).1.grants.get lower := by
  induction levels with
  | nil => simp at visited
  | cons l ls ih =>
    intro x received
    rw [List.foldl_cons] at received ⊢
    obtain ⟨before, order⟩ := List.pairwise_cons.mp order
    have later := spareLevels_rise shares demand ls (spareLevel shares demand x l)
    have lowest : l.val ≤ (shares.get lower).level := by
      obtain ⟨m, mem, e⟩ := visited
      rcases List.mem_cons.mp mem with rfl | mem
      · exact e.ge
      · exact e ▸ (Fin.lt_def.mp (before m mem)).le
    have kept : (spareLevel shares demand x l).1.grants.get higher = x.1.grants.get higher :=
      (spareLevel_rises shares demand x l).others higher fun here => by
      have here : (shares.get higher).level = l.val := here
      omega
    by_cases here : (shares.get lower).level = l.val
    · rcases spareLevel_done shares demand x l with spent | met
      · rw [later.spent spent, kept] at received
        exact absurd received (lt_irrefl _)
      · exact (met lower here).trans (later.grants lower)
    · obtain ⟨m, mem, e⟩ := visited
      have mem : m ∈ ls := (List.mem_cons.mp mem).resolve_left fun eq => here (eq ▸ e)
      exact ih order ⟨m, mem, e⟩ _ (kept ▸ received)

theorem spareStage_rises (x : Spare × Vector Tenant 8) : SpareRises (fun _ => True) x.1 (spareStage shares demand x).1 :=
  spareLevels_rise shares demand _ x

/-- The same over the levels of the stage, 0 to 7. -/
theorem spareStage_strict {lower higher : Tenant} (level : (shares.get lower).level ≤ 7)
    (lt : (shares.get lower).level < (shares.get higher).level) (x : Spare × Vector Tenant 8)
    (received : x.1.grants.get higher < (spareStage shares demand x).1.grants.get higher) :
    demand.get lower ≤ (spareStage shares demand x).1.grants.get lower := by
  have order : [(0 : Fin 8), 1, 2, 3, 4, 5, 6, 7].Pairwise (· < ·) := by decide
  have all : ∀ l : Fin 8, l ∈ [(0 : Fin 8), 1, 2, 3, 4, 5, 6, 7] := by decide
  exact spareLevels_strict shares demand lt _ order ⟨⟨_, Nat.lt_succ_of_le level⟩, all _, rfl⟩ x received

end

end Sys2Proof.Machine
end

section
/-! PROOF. Committed grants and priority levels in a plan (R66, R67). -/

namespace Sys2Proof.Machine

/-- A grant is at least the committed grant (R66). -/
theorem committed_le_grant (i : PlanInputs) (t : Tenant) : i.committed.get t ≤ (planFrame i).1.grant t := by
  rw [planFrame_grant, PlanInputs.spare]
  exact (spareStage_rises i.shares i.demand
    ({ left := i.capacity - i.committed.sum, grants := i.committed, last := none }, i.pointers)).grants t

/-- Settles O8: the committed grant is that of the stage, and the spare stage only adds to it. -/
theorem plannerGivesCommittedShare : Obligations.PlannerGivesCommittedShare := by
  intro i x
  have demand : i.demand.get x = if i.link = .up ∧ i.xoff.get x = false then min (i.offers.get x) i.capacity else 0 :=
    Quad.get_ofFn _ _
  have grant := committed_le_grant i x
  have left : i.left = i.blocks - 1 - i.controls.length := rfl
  dsimp only
  rw [planFrame_controls, planFrame_capacity, ← left, planFrame_committeds, planFrame_demand, planFrame_committed, ← demand,
    ← committed_get]
  refine ⟨fun up => ?_, fun n up r => capacity_reserved up r, capacity_unreserved, rfl, rfl, grant,
    fun h => ⟨share_terms_le i.capacity i.shares h, committed_le_capacity i h⟩, fun all => ?_, fun zero => ?_⟩
  · rw [PlanInputs.controls, up]
  · rw [all, Nat.mul_div_cancel _ (by omega)]
  · rw [zero, Nat.mul_zero, Nat.zero_div]

/-- Settles O10: the levels are visited from 0 to 7, each to its end. -/
theorem spareGoesStrictlyByLevel : Obligations.SpareGoesStrictlyByLevel := by
  intro i x y levels
  dsimp only
  rw [planFrame_committed, planFrame_grant, planFrame_grant, planFrame_demand]
  intro lt received
  have met : i.demand.get x ≤ i.spare.1.grants.get x := by
    rw [PlanInputs.spare] at received ⊢
    exact spareStage_strict i.shares i.demand (levels x) lt (_, i.pointers) received
  exact le_antisymm ((spare_keeps i).bound x) met

end Sys2Proof.Machine
end

section
/-! SUPPORT. A TENANT block read from the air (11.3), and what one block in order does to a reassembly record (R83 to
R85). -/

namespace Sys2Proof.Machine

/-! ## Zero padding (R183) -/

/-- Padding is done piece by piece. -/
theorem padTo_add (m n : Nat) (d : List Byte) : padTo (m + n) d = padTo m d ++ padTo n (d.drop m) := by
  unfold padTo
  rw [List.take_add, List.length_drop]
  rcases Nat.le_total d.length m with short | long
  · rw [List.drop_eq_nil_of_le short, List.take_nil, List.append_nil, List.nil_append, List.append_assoc,
      List.replicate_append_replicate]
    congr 2
    omega
  · rw [Nat.sub_eq_zero_of_le long, List.replicate_zero, List.append_nil, List.append_assoc]
    congr 3
    omega

/-- Padding takes no byte beyond its length. -/
theorem padTo_take (n : Nat) (d : List Byte) : padTo n (d.take n) = padTo n d := by
  rw [padTo, padTo, List.take_take, Nat.min_self, List.length_take]
  congr 2
  omega

theorem padTo_of_length {n : Nat} {d : List Byte} (h : d.length = n) : padTo n d = d := by
  rw [padTo, ← h, List.take_length, Nat.sub_self, List.replicate_zero, List.append_nil]

/-- The bytes that were padded stand in front. -/
theorem take_padTo {n : Nat} {d : List Byte} (h : d.length ≤ n) : (padTo n d).take d.length = d := by
  rw [padTo, List.take_of_length_le h, List.take_left]

/-! ## A TENANT block as received (11.3) -/

/-- The flags of a segment descriptor lie in the three lowest bits of its first byte (11.3). -/
theorem flags_of_descriptor (first last : Bool) (o : Origin) :
    let b : Byte := BitVec.ofNat 8 (first.toNat + 2 * last.toNat + 4 * (decide (o = .test)).toNat)
    b.getLsbD 0 = first ∧ b.getLsbD 1 = last ∧ (if b.getLsbD 2 = true then Origin.test else .tenant) = o := by
  cases first <;> cases last <;> cases o <;> decide

/-- A TENANT block with a length of 16 bits is read back as it was sent, its data padded. -/
theorem segmentAt_bytes (g : Segment) (h : g.length < 65536) :
    segmentAt g.bytes = { g with data := padTo Config.segmentBytes g.data } := by
  have bytes : g.bytes = [BitVec.ofNat 8 (g.first.toNat + 2 * g.last.toNat + 4 * (decide (g.origin = .test)).toNat), g.seq,
      BitVec.ofNat 8 (g.length / 256), BitVec.ofNat 8 g.length, 0, 0, 0, 0] ++ padTo Config.segmentBytes g.data := by
    simp [Segment.bytes, numBytes_two]
  have length : numAt g.bytes 2 2 = g.length := by
    rw [bytes]
    simp [numAt, byteAt]
    omega
  have data : g.bytes.drop 8 = padTo Config.segmentBytes g.data := by rw [bytes]; rfl
  have descriptor : byteAt g.bytes 0 =
      BitVec.ofNat 8 (g.first.toNat + 2 * g.last.toNat + 4 * (decide (g.origin = .test)).toNat) := by rw [bytes]; rfl
  have seq : byteAt g.bytes 1 = g.seq := by rw [bytes]; rfl
  obtain ⟨first, last, origin⟩ := flags_of_descriptor g.first g.last g.origin
  rw [segmentAt, length, data, seq, descriptor, first, last, origin, padTo_of_length (padTo_length ..)]

/-! ## One block of a packet (R83 to R85) -/

/-- A block in sequence moves the expected sequence on and leaves the packet in progress (R83). -/
theorem gapCheck_inOrder {u : TenantUnit} {g : Segment} (bad : Bool) (h : u.expected = none ∨ u.expected = some g.seq) :
    (u.gapCheck g bad).expected = some (g.seq + 1) ∧ (u.gapCheck g bad).packet = u.packet := by
  rw [TenantUnit.gapCheck, if_pos h]
  exact ⟨rfl, rfl⟩

/-- What a block of a packet leaves: the packet in progress, or completed by its last block. -/
def Holds (last : Prop) [Decidable last] (p : Packet) (r : TenantUnit × Completion) : Prop :=
  if last then r.1.packet = none ∧ r.2 = .packet p else r.1.packet = some p

/-- The first block of a packet, in sequence and within the length limits, opens it (R84). -/
theorem takeBlock_opens {u : TenantUnit} {g : Segment} (bad : Bool) (order : u.expected = none ∨ u.expected = some g.seq)
    (first : g.first = true) (least : 64 ≤ g.length) (most : g.length ≤ 1536)
    (last : g.last = decide (blocksFor g.length = 1)) :
    (u.takeBlock g bad).1.expected = some (g.seq + 1) ∧
      Holds (blocksFor g.length = 1) (.opened g bad) (u.takeBlock g bad) := by
  have range : ¬ (g.length < 64 ∨ 1536 < g.length) := by omega
  obtain ⟨expected, -⟩ := gapCheck_inOrder bad order
  rw [TenantUnit.takeBlock, if_pos first, TenantUnit.firstBlock, if_neg range, last]
  by_cases one : blocksFor g.length = 1 <;> simp [Holds, one, expected]

/-- A further block of the packet's origin, in sequence, is taken into it; as many blocks as the packet has, with the last
flag on the last of them, complete it (R85). -/
theorem takeBlock_continues {u : TenantUnit} {g : Segment} {p : Packet} (bad : Bool) (order : u.expected = some g.seq)
    (further : g.first = false) (held : u.packet = some p) (origin : g.origin = p.origin)
    (last : g.last = decide (p.received + 1 = p.total)) :
    (u.takeBlock g bad).1.expected = some (g.seq + 1) ∧
      Holds (p.received + 1 = p.total) (p.continued g bad) (u.takeBlock g bad) := by
  have received : (p.continued g bad).received = p.received + 1 := rfl
  have total : (p.continued g bad).total = p.total := rfl
  obtain ⟨expected, packet⟩ := gapCheck_inOrder bad (.inr order)
  rw [TenantUnit.takeBlock, if_neg (by simp [further]), TenantUnit.continuationBlock, packet, held]
  dsimp only
  rw [if_neg (not_not_intro origin), received, total, last]
  by_cases full : p.received + 1 = p.total <;> simp [Holds, full, expected]

end Sys2Proof.Machine
end

section
/-! PROOF. A packet cut into TENANT blocks is reassembled from them (R73, R74, R83 to R85). -/

namespace Sys2Proof.Machine

/-! ## The blocks cut (R54, R73, R74) -/

/-- The `k`-th block that an entry gives from its present position on, behind the sequence `q` (R73, R74). -/
def Entry.cut (e : Entry) (q : BitVec 8) (k : Nat) : Segment :=
  ({ e with sent := e.sent + k } : Entry).segment (q + BitVec.ofNat 8 k)

theorem Entry.cut_zero (e : Entry) (q : BitVec 8) : e.cut q 0 = e.segment q := by
  rw [Entry.cut, BitVec.add_zero]
  rfl

theorem Entry.cut_succ (e : Entry) (q : BitVec 8) (k : Nat) :
    e.cut q (k + 1) = ({ e with sent := e.sent + 1 } : Entry).cut (q + 1) k := by
  rw [Entry.cut, Entry.cut, Nat.add_comm k 1, BitVec.ofNat_add, ← BitVec.add_assoc, ← Nat.add_assoc]
  rfl

/-- A grant of all the blocks that an entry has left gives them in order and empties its queue (R54, R74). -/
theorem giveBlocks_entry (n : Nat) : ∀ (e : Entry) (q : BitVec 8), 0 < n → e.sent + n = e.total →
    (giveBlocks n [e] q).queue = [] ∧ (giveBlocks n [e] q).segments = (List.range n).map (e.cut q) := by
  induction n with
  | zero => exact fun _ _ h => absurd h (Nat.lt_irrefl 0)
  | succ n ih =>
    intro e q _ all
    rw [List.range_succ_eq_map, List.map_cons, List.map_map, e.cut_zero]
    unfold giveBlocks
    dsimp only
    split
    · next last =>
      obtain rfl : n = 0 := by omega
      exact ⟨rfl, rfl⟩
    · next more =>
      have rest : e.sent + 1 + n = e.total := by omega
      obtain ⟨queue, segments⟩ := ih { e with sent := e.sent + 1 } (q + 1) (by omega) rest
      refine ⟨queue, congrArg (e.segment q :: ·) (segments.trans (List.map_congr_left fun k _ => ?_))⟩
      exact (e.cut_succ q k).symm

/-- The `k`-th block of a tenant packet as it is read from the air (11.3). -/
def Entry.onAir (e : Entry) (q : BitVec 8) (k : Nat) : Segment :=
  { first := decide (k = 0), last := decide (k + 1 = e.total), origin := .tenant, seq := q + BitVec.ofNat 8 k,
    length := if k = 0 then e.length else 0,
    data := padTo Config.segmentBytes (e.data.drop (Config.segmentBytes * k)) }

theorem segmentAt_cut {e : Entry} (q : BitVec 8) (k : Nat) (fresh : e.sent = 0) (own : e.origin = .tenant)
    (most : e.length ≤ 1536) : segmentAt (e.cut q k).bytes = e.onAir q k := by
  have cut : e.cut q k =
      { e.onAir q k with data := (e.data.drop (Config.segmentBytes * k)).take Config.segmentBytes } := by
    simp [Entry.cut, Entry.segment, Entry.onAir, fresh, own, beq_eq_decide]
  have short : (e.cut q k).length < 65536 := by
    rw [cut, Entry.onAir]
    dsimp only
    split <;> omega
  rw [segmentAt_bytes _ short, cut, padTo_take, Entry.onAir]

/-! ## Reassembly block by block (R83 to R85) -/

/-- A packet as its first `k` blocks, all unflagged, make it up. -/
structure Assembles (e : Entry) (k : Nat) (p : Packet) : Prop where
  length : p.length = e.length
  total : p.total = e.total
  received : p.received = k
  errored : p.errored = false
  origin : p.origin = .tenant
  data : p.data = padTo (Config.segmentBytes * k) e.data

theorem assembles_opened {e : Entry} (q : BitVec 8) (total : e.total = blocksFor e.length) :
    Assembles e 1 (.opened (e.onAir q 0) false) :=
  ⟨rfl, total.symm, rfl, rfl, rfl, rfl⟩

theorem Assembles.continued {e : Entry} {k : Nat} {p : Packet} (h : Assembles e k p) (q : BitVec 8) :
    Assembles e (k + 1) (p.continued (e.onAir q k) false) where
  length := h.length
  total := h.total
  received := congrArg (· + 1) h.received
  errored := by rw [Packet.continued, h.errored]; rfl
  origin := h.origin
  data := by
    rw [Packet.continued, h.origin, Nat.mul_succ, padTo_add, ← h.data]
    rfl

/-- A reassembly record after the first `k` blocks of an entry. -/
def CutTaken (e : Entry) (q : BitVec 8) (k : Nat) (r : TenantUnit × Completion) : Prop :=
  r.1.expected = some (q + BitVec.ofNat 8 k) ∧ ∃ p, Assembles e k p ∧ Holds (k = e.total) p r

theorem seq_succ (q : BitVec 8) (k : Nat) : q + BitVec.ofNat 8 k + 1 = q + BitVec.ofNat 8 (k + 1) := by
  rw [BitVec.ofNat_add, ← BitVec.add_assoc]
  rfl

theorem cutTaken_first {e : Entry} {q : BitVec 8} {u : TenantUnit} (least : 64 ≤ e.length) (most : e.length ≤ 1536)
    (total : e.total = blocksFor e.length) (order : u.expected = none ∨ u.expected = some q) :
    CutTaken e q 1 (u.takeBlock (e.onAir q 0) false) := by
  have seq : (e.onAir q 0).seq = q := BitVec.add_zero q
  have one : (blocksFor e.length = 1) = (1 = e.total) := propext (by omega)
  obtain ⟨expected, holds⟩ := takeBlock_opens (g := e.onAir q 0) false (seq ▸ order) rfl least most
    (by simp only [Entry.onAir, if_pos, one])
  refine ⟨by rw [expected, seq]; rfl, _, assembles_opened q total, ?_⟩
  have length : (e.onAir q 0).length = e.length := rfl
  simpa only [length, one] using holds

theorem cutTaken_next {e : Entry} {q : BitVec 8} {k : Nat} {r : TenantUnit × Completion} (h : CutTaken e q k r)
    (begun : k ≠ 0) (more : k < e.total) : CutTaken e q (k + 1) (r.1.takeBlock (e.onAir q k) false) := by
  obtain ⟨order, p, assembles, holds⟩ := h
  rw [Holds, if_neg more.ne] at holds
  obtain ⟨expected, holds⟩ := takeBlock_continues (g := e.onAir q k) false order (decide_eq_false begun) holds
    assembles.origin.symm (by rw [assembles.received, assembles.total]; rfl)
  rw [assembles.received, assembles.total] at holds
  exact ⟨expected.trans (congrArg _ (seq_succ q k)), _, assembles.continued q, holds⟩

/-- All blocks of an entry in order, up to the `k`-th. -/
theorem cutTaken_blocks {e : Entry} {q : BitVec 8} {u : TenantUnit} (least : 64 ≤ e.length) (most : e.length ≤ 1536)
    (total : e.total = blocksFor e.length) (order : u.expected = none ∨ u.expected = some q) (k : Nat) (begun : k ≠ 0)
    (within : k ≤ e.total) :
    CutTaken e q k (((List.range k).map (e.onAir q)).foldl (fun x g => x.1.takeBlock g false) (u, .nothing)) := by
  induction k with
  | zero => exact absurd rfl begun
  | succ k ih =>
    rw [List.range_succ, List.map_append, List.foldl_append]
    by_cases first : k = 0
    · subst first
      exact cutTaken_first least most total order
    · exact cutTaken_next (ih first (by omega)) first within

/-- Settles O13: the blocks on the air, taken one after the other, and the padding behind the packet's bytes cut off. -/
theorem cutPacketIsReassembled : Obligations.CutPacketIsReassembled := by
  intro u e q least most length total fresh own idle order
  rw [← length] at least most
  have blocks : 0 < e.total ∧ e.length ≤ Config.segmentBytes * e.total := by
    rw [total, blocksFor, Config.segmentBytes]
    omega
  obtain ⟨pos, room⟩ := blocks
  obtain ⟨queue, segments⟩ := giveBlocks_entry e.total e q pos (by omega)
  have onAir : (giveBlocks e.total [e] q).segments.map (fun b => segmentAt b.bytes) =
      (List.range e.total).map (e.onAir q) := by
    rw [segments, List.map_map]
    exact List.map_congr_left fun k _ => segmentAt_cut q k fresh own most
  obtain ⟨expected, p, assembles, holds⟩ := cutTaken_blocks least most total order e.total pos.ne' le_rfl
  rw [← onAir, List.foldl_map] at expected holds
  rw [Holds, if_pos rfl] at holds
  obtain ⟨packet, complete⟩ := holds
  refine ⟨queue, by rw [segments, List.length_map, List.length_range], p, complete, assembles.length.trans length,
    assembles.total, ?_, assembles.errored, assembles.origin, expected, packet⟩
  rw [assembles.data, assembles.length, length]
  exact take_padTo (length ▸ room)

end Sys2Proof.Machine
end

section
/-! PROOF. The hold input and the end of a delivery (R91, R92, R94). -/

namespace Sys2Proof.Machine

/-- A moment at which a delivery could begin (R91, R92): the input is sampled where an entry waits and no delivery is in
progress, and the head is then delivered where hold is released. -/
theorem beginDelivery_eq (u : TenantUnit) : u.beginDelivery = { u with
    holdSeen := if u.delivering = false ∧ u.egress ≠ [] then u.hold else u.holdSeen,
    delivering := u.delivering || (!u.hold && !u.egress.isEmpty),
    portErrored := if u.delivering = false ∧ u.hold = false then
      (u.egress.head?.map EgressEntry.errored).getD u.portErrored else u.portErrored } := by
  unfold TenantUnit.beginDelivery
  split
  · next empty =>
    cases u
    cases empty
    simp
  · next e rest waiting =>
    split
    · next busy =>
      cases u
      cases busy
      simp
    split
    · next idle held => simp [waiting, idle, held]
    · next idle released => simp [waiting, idle, released]

/-- The unit whose delivery has ended, before the next one may begin (R91, R94). -/
def TenantUnit.ended (u : TenantUnit) (e : EgressEntry) (rest : List EgressEntry) : TenantUnit :=
  ({ u with egress := rest, delivering := false,
            egressCounters := { u.egressCounters with
              delivered := bumpIf (!e.errored) u.egressCounters.delivered,
              erroredDelivered := bumpIf e.errored u.egressCounters.erroredDelivered } } : TenantUnit).judgeXoff

/-- The head leaves where its delivery is in progress, and the next delivery may begin. -/
theorem endDelivery_busy {u : TenantUnit} {e : EgressEntry} {rest : List EgressEntry} (head : u.egress = e :: rest)
    (busy : u.delivering = true) : u.endDelivery = (u.ended e rest).beginDelivery := by
  simp only [TenantUnit.endDelivery, head, busy, if_true, TenantUnit.ended]

/-- With no delivery in progress there is nothing to end. -/
theorem endDelivery_idle {u : TenantUnit} (idle : u.egress = [] ∨ u.delivering = false) : u.endDelivery = u := by
  unfold TenantUnit.endDelivery
  split
  · rfl
  · next e rest head =>
    obtain empty | still := idle
    · rw [empty] at head
      contradiction
    · rw [still]
      rfl

/-- The counts of an ended delivery, and the XOFF-sent state on the occupancy that results (R91, R94). -/
theorem ended_eq (u : TenantUnit) (e : EgressEntry) (rest : List EgressEntry) :
    let x1 := hysteresis u.record.egressHalt u.record.egressResume (egressOccupancy rest) u.xoff
    let c := u.egressCounters
    u.ended e rest = { u with
      egress := rest, delivering := false, xoff := x1,
      egressCounters := { c with
        delivered := if e.errored then c.delivered else bump c.delivered,
        erroredDelivered := if e.errored then bump c.erroredDelivered else c.erroredDelivered,
        xoffs := if x1 = true ∧ u.xoff = false then bump c.xoffs else c.xoffs } } := by
  have delivered (n : Nat) : bumpIf (!e.errored) n = if e.errored then n else bump n := by
    cases e.errored <;> rfl
  have rising (x : Bool) (n : Nat) : bumpIf (x && !u.xoff) n = if x = true ∧ u.xoff = false then bump n else n := by
    simp only [bumpIf, Bool.and_eq_true, Bool.not_eq_true']
  dsimp only
  rw [← delivered, ← rising]
  rfl

/-- Settles O23: each of the two events is one moment at which a delivery could begin, at the level set or behind the head
that leaves. -/
theorem deliveryAtPacketBoundary : Obligations.DeliveryAtPacketBoundary := by
  intro s x
  refine ⟨fun a => ?_, fun e rest head busy => ?_, fun idle => ?_⟩
  · have held := beginDelivery_eq ({ s.tenant x with hold := a } : TenantUnit)
    exact congrArg (fun v => Host.Outcome.next (announce (s.withTenant x v))) held
  · refine congrArg (fun v => Host.Outcome.next (announce (s.withTenant x v))) ?_
    rw [endDelivery_busy head busy, beginDelivery_eq, ended_eq]
    cases rest <;> simp [hysteresis, egressOccupancy]
  · refine congrArg (fun v => Host.Outcome.next (announce v)) ?_
    rw [endDelivery_idle idle, State.withTenant_self]

end Sys2Proof.Machine
end

section
/-! SUPPORT. What a step can do to the timing blocks and to the calibration in the store. `TimingMove` is one change of the
timing blocks, one constructor for each kind of change the part makes; `exec_timed` says that every command is a chain of
such changes and of store operations. -/

namespace Sys2Proof.Machine

/-! ## One change -/

/-- What the invariants of local time, of the steer and of the selection read of the timing blocks. -/
structure Vital where
  clock : LocalTime × Bool × Bool
  steer : Int
  servo : Servo
  gnss : SourceState
  ext : SourceState
  link : SourceState
  hubClass : Option QClass
  record : TimingRecord

def Timing.vital (t : Timing) : Vital :=
  { clock := t.clock, steer := t.base.steer, servo := t.servo, gnss := t.base.gnss.state, ext := t.base.ext.state,
    link := t.xfer.link.state, hubClass := t.xfer.link.hubClass, record := t.base.record }

/-- One change of the timing blocks. -/
inductive TimingMove (a b : Timing) : Prop
  | stays (h : b.vital = a.vital)
  | advanced (dt : Nat) (h : b.vital = Timing.vital { a with base := a.base.advanceBy dt })
  | second (h : b.vital = Timing.vital { a with base := a.base.reachSecond })
  | frameUsed (h : b.vital = Timing.vital { a with base := { a.base with frameHere := false } })
  | reselected (x : Timing) (clock : x.clock = a.clock) (steer : x.base.steer = a.base.steer) (servo : x.servo = a.servo)
      (h : b.vital = x.reselect.vital)
  | rejudged (h : b.vital = a.rejudge.vital)
  | measured (src : Source) (m w : Int) (h : b.vital = (a.measure src m w).1.vital)
  | aged (rate : Int) (h : b.vital = (a.ageStep rate).vital)
  | counted (h : b.vital = Timing.vital { a with servo := a.servo.countSecond })
  | restarted (h : b.vital = a.restart.vital)

/-- One change of the state: of the timing blocks, of the store, or a reset that starts both again. -/
inductive TimeChange (s t : State) : Prop
  | timing (move : TimingMove s.timing t.timing) (store : t.store = s.store)
  | opTaken (k : StoreOpKind) (reading : Nat) (cal : ∀ f aging, k = .cal f aging → f = s.timing.servo.fHold)
      (timing : t.timing = s.timing) (store : t.store = s.store.take k reading)
  | opErased (timing : t.timing = s.timing) (store : t.store = s.store.erased)
  | opEnds (o : StoreOp) (op : s.store.op = some o) (timing : t.timing = s.timing)
      (store : t.store = { s.store.finished o.kind with op := none })
  | fullReset (cause : ResetCause) (timing : t.timing = (fullReset cause s).timing)
      (store : t.store = (fullReset cause s).store)

/-- A chain of changes. -/
def Timed : State → State → Prop := Relation.ReflTransGen TimeChange

theorem Timed.refl (s : State) : Timed s s := Relation.ReflTransGen.refl

theorem Timed.trans {s t u : State} (h : Timed s t) (k : Timed t u) : Timed s u := Relation.ReflTransGen.trans h k

/-- What keeps a property through every change keeps it through a chain. -/
theorem Timed.keeps {P : State → Prop} (step : ∀ s t, TimeChange s t → P s → P t) {s t : State} (h : Timed s t) (p : P s) :
    P t := by
  induction h with
  | refl => exact p
  | tail _ k ih => exact step _ _ k ih

theorem TimingMove.timed {s t : State} (move : TimingMove s.timing t.timing) (store : t.store = s.store) : Timed s t :=
  .single (.timing move store)

theorem timed_of_eq {s t : State} (timing : t.timing = s.timing) (store : t.store = s.store) : Timed s t :=
  TimingMove.timed (.stays (by rw [timing])) store

theorem StepFrame.timed {s t : State} (h : StepFrame s t) : Timed s t := timed_of_eq h.timing h.store

theorem OnlyNotices.timed {s t : State} (h : OnlyNotices s t) : Timed s t := h.stepFrame.timed

theorem withTiming_timed (s : State) (t : Timing) (move : TimingMove s.timing t) : Timed s (s.withTiming t) :=
  TimingMove.timed (t := s.withTiming t) move rfl

theorem foldl_timed {α : Type} (f : State → α → State) (h : ∀ s a, Timed s (f s a)) (l : List α) :
    ∀ s, Timed s (l.foldl f s) := by
  induction l with
  | nil => exact Timed.refl
  | cons a l ih => exact fun s => (h s a).trans (ih (f s a))

theorem timingEvent_timed (t : Timing) (s : State) (move : TimingMove s.timing t) : Timed s (timingEvent t s) :=
  ((withTiming_timed s t move).trans (raiseTiming_onlyNotices _ _ _).timed).trans (stepWatch_stepFrame _).timed

/-- The selection re-evaluated behind a change of the Time Transfer Unit. -/
theorem TimingMove.reselectedXfer (a : Timing) (x : Transfer) : TimingMove a ({ a with xfer := x } : Timing).reselect :=
  .reselected { a with xfer := x } rfl rfl rfl rfl

/-- The selection re-evaluated behind a change of one qualifier. -/
theorem TimingMove.reselectedQualifier (a : Timing) (i : PulseInput) (q : Qualifier) :
    TimingMove a ({ a with base := a.base.withQualifier i q } : Timing).reselect := by
  refine .reselected { a with base := a.base.withQualifier i q } ?_ ?_ rfl rfl <;> cases i <;> rfl

/-! ## What stands due -/

theorem lostEffect_timed (s : State) : Timed s (lostEffect s) := by
  rcases lostEffect_cases s with ⟨-, c, e⟩ | ⟨-, e, -⟩ <;> rw [e]
  · exact TimingMove.timed (by rw [enterDown_timing]; exact .reselectedXfer _ _) (enterDown_eventFrame c s).store
  · exact timed_of_eq rfl rfl

theorem absentDue_timed (s : State) : Timed s (absentDue s) := by
  unfold absentDue
  split
  · refine Timed.trans ?_ (lostEffect_timed _)
    exact timed_of_eq rfl rfl
  · exact .refl s

theorem supervisionDue_timed (s : State) : Timed s (supervisionDue s) := by
  unfold supervisionDue
  split
  · exact timingEvent_timed _ s (.reselectedXfer _ _)
  · exact .refl s

theorem agingDue_timed (s : State) : Timed s (agingDue s) := by
  unfold agingDue
  split
  · exact withTiming_timed s _ (.aged _ rfl)
  · exact .refl s

theorem limitDue_timed (s : State) : Timed s (limitDue s) := by
  unfold limitDue
  split
  · exact timingEvent_timed _ s (.rejudged rfl)
  · exact .refl s

theorem overdueAbsence_timed (i : PulseInput) (s : State) : Timed s (overdueAbsence i s) := by
  unfold overdueAbsence
  split
  · exact timingEvent_timed _ s (.reselectedQualifier _ i _)
  · exact .refl s

theorem settle_timed (s : State) : Timed s (settle s) := by
  have phases (u : State) := ((leadOver_stepFrame u).trans (activeOver_stepFrame _)).trans (tailOver_stepFrame _)
  have waits (u : State) := ((reportWaitOver_stepFrame u).trans (waitOver_stepFrame _)).trans (crossOver_stepFrame _)
  unfold settle
  refine Timed.trans ?_ ((phases _).trans (waits _)).timed
  refine Timed.trans ?_ ((agingDue_timed _).trans (limitDue_timed _))
  refine Timed.trans ?_ ((absentDue_timed _).trans (supervisionDue_timed _))
  exact (overdueAbsence_timed _ s).trans (overdueAbsence_timed _ _)

/-! ## A received frame -/

theorem handOn_timing (x : Source) (m w : Int) (s : State) : (handOn x m w s).timing = (s.timing.measure x m w).1 := by
  simp [handOn, (stepWatch_stepFrame _).timing]

theorem handOn_timed (x : Source) (m w : Int) (s : State) : Timed s (handOn x m w s) :=
  TimingMove.timed (by rw [handOn_timing]; exact .measured x m w rfl) (handOn_eventFrame x m w s).store

theorem takeSync_timed (b : List Byte) (m : Stamp) (s : State) : Timed s (takeSync b m s) :=
  (timingEvent_timed _ s (.reselectedXfer _ _)).trans (withTiming_timed _ _ (.stays rfl))

theorem takeReq_link (x : Transfer) (seq : BitVec 16) (t : Stamp) : (x.takeReq seq t).link = x.link := by
  unfold Transfer.takeReq
  dsimp only
  repeat' split
  all_goals rfl

theorem takeDelayReq_timed (b : List Byte) (m : Stamp) (s : State) : Timed s (takeDelayReq b m s) :=
  withTiming_timed s _ (.stays (by simp only [Timing.vital, Timing.clock, takeReq_link]))

theorem takeDelayResp_timed (b : List Byte) (s : State) : Timed s (takeDelayResp b s) := by
  have taken := timingEvent_timed _ s (.reselectedXfer s.timing
    (s.timing.xfer.takeResp (timingSeqAt b) (stampAt b 2) s.timing.base.record.asymmetry).1)
  unfold takeDelayResp
  dsimp only
  split
  · exact taken
  · exact taken.trans (handOn_timed _ _ _ _)

theorem routeControl_timed (m : Stamp) (s : State) (kp : ControlKind × Position) : Timed s (routeControl m s kp) := by
  unfold routeControl
  repeat' split
  · exact timed_of_eq rfl rfl
  · exact takeSync_timed _ _ s
  · exact takeDelayReq_timed _ _ s
  · exact takeDelayResp_timed _ s
  · exact (takeReport_stepFrame _ s).timed

theorem goodEffect_timed (s : State) : Timed s (goodEffect s) := by
  rcases goodEffect_timing s with e | e
  · exact timed_of_eq e (goodEffect_eventFrame s).store
  · exact TimingMove.timed (by rw [e]; exact .reselectedXfer _ _) (goodEffect_eventFrame s).store

theorem recordTaken_timed (s : State) (r : FrameRecord) : Timed s (s.recordTaken r) :=
  TimingMove.timed (t := s.recordTaken r) (.stays rfl) rfl

theorem takeFrame_timed (r : FrameRecord) (s : State) : Timed s (takeFrame r s) := by
  by_cases e : ∃ h, judgeHeader r = .good h
  · obtain ⟨h, e⟩ := e
    have header : Timed (goodEffect (s.recordTaken r)) (s.headerTaken r h) := by
      obtain ⟨p, k⟩ := headerTaken_eq s r h
      exact timed_of_eq (headerTaken_timing s r h) (by rw [k]; rfl)
    have frame (m : Stamp) (ps : List Position) (u : State) : Timed (u.controlsRouted h m ps) (routeFrame h m ps u) :=
      timed_of_eq (routeFrame_keeps h m ps u).1 ((routeFrame_eventFrame h m ps u).store.trans
        (foldl_eventFrame _ (routeControl_eventFrame m) _ u).store.symm)
    rw [takeFrame_routes r s h e]
    refine Timed.trans ?_ (frame _ _ _)
    refine Timed.trans ?_ (foldl_timed _ (routeControl_timed _) _ _)
    exact ((recordTaken_timed s r).trans (goodEffect_timed _)).trans header
  · obtain ⟨p, sampled⟩ := giveSample_eq 0 (s.recordTaken r)
    have sample : Timed (s.recordTaken r) (giveSample 0 (s.recordTaken r)) := by
      rw [sampled]
      exact timed_of_eq rfl rfl
    rw [takeFrame_lost r s (not_exists.mp e)]
    exact ((recordTaken_timed s r).trans sample).trans (lostEffect_timed _)

/-! ## The passing of local time -/

theorem tenantSecond_timing (s : State) (x : Tenant) : (tenantSecond s x).timing = s.timing := by
  unfold tenantSecond
  dsimp only
  split
  · rfl
  · exact (raiseTenant_onlyNotices _ _ _ _ _).timing

theorem tenantSecond_timed (s : State) (x : Tenant) : Timed s (tenantSecond s x) :=
  timed_of_eq (tenantSecond_timing s x) (tenantSecond_eventFrame s x).store

theorem timeSetTaken_timed (s : State) (b : Bool) : Timed s (s.timeSetTaken b) := by
  unfold State.timeSetTaken
  split
  · exact withTiming_timed s _ (.stays rfl)
  · exact .refl s

theorem countSecond_timed (s : State) : Timed s (countSecond s) :=
  TimingMove.timed (t := countSecond s) (.counted rfl) rfl

theorem secondEvent_timed (s : State) : Timed s (secondEvent s) := by
  unfold secondEvent
  refine Timed.trans ?_ (countSecond_timed _)
  refine Timed.trans ?_ (foldl_timed _ tenantSecond_timed _ _)
  refine Timed.trans ?_ (timeSetTaken_timed _ _)
  exact (withTiming_timed s _ (.second rfl)).trans (settle_timed _)

theorem placeControl_link (s : State) (k : ControlKind) : (placeControl s k).timing.xfer.link = s.timing.xfer.link := by
  cases k <;> rfl

theorem placed_link_source (s : State) (c : List ControlKind) : (s.placed c).timing.xfer.link = s.timing.xfer.link :=
  foldl_keeps (P := fun u => u.timing.xfer.link = s.timing.xfer.link) placeControl
    (fun u k h => (placeControl_link u k).trans h) c s rfl

theorem sendFrame_timed (s : State) : Timed s (sendFrame s) := by
  have started := sendFrame_started s
  refine TimingMove.timed (.frameUsed ?_) started.store
  rw [started.timing]
  simp only [Timing.vital, Timing.clock, placed_link_source]

theorem frameTick_move (t : Timing) (r : Option Role) (n : BitVec 32) : TimingMove t (t.frameTick r n) := by
  have supervised (l : LinkSource) (p : Nat) :
      (l.supervise p).state = l.state ∧ (l.supervise p).hubClass = l.hubClass := by
    unfold LinkSource.supervise
    split <;> exact ⟨rfl, rfl⟩
  unfold Timing.frameTick
  split
  · exact .stays rfl
  · refine .stays ?_
    simp only [Timing.vital, Timing.clock, supervised]
    rfl
  · exact .stays rfl

theorem advanceBy_timed (s : State) (dt : Nat) : Timed s (s.withBase (s.timing.base.advanceBy dt)) :=
  withTiming_timed s _ (.advanced dt rfl)

theorem reachFrame_timed (s : State) : Timed s (reachFrame s) := by
  unfold reachFrame
  dsimp only
  refine Timed.trans ?_ (withTiming_timed _ _ (frameTick_move _ _ _))
  refine Timed.trans ?_ (settle_timed _)
  refine Timed.trans ?_ (advanceBy_timed _ _)
  split
  · exact secondEvent_timed s
  · exact .refl s

theorem frameStart_timed (s : State) : Timed s (frameStart s) := by
  unfold frameStart
  split
  · exact .refl s
  · exact (reachFrame_timed s).trans (sendFrame_timed _)

theorem boundaryEvent_timed (s : State) : Timed s (boundaryEvent s) := by
  unfold boundaryEvent
  split
  · exact secondEvent_timed s
  · exact frameStart_timed s

theorem passOver_timed (n : Nat) : ∀ dt s, Timed s (passOver n dt s) := by
  induction n with
  | zero => exact fun dt s => advanceBy_timed s dt
  | succ n ih =>
    intro dt s
    rw [passOver_succ]
    split
    · exact (boundaryEvent_timed s).trans (ih _ _)
    · exact advanceBy_timed s dt

theorem passTime_timed (dt : Nat) (s : State) : Timed s (passTime dt s) := passOver_timed _ _ _

theorem keepM_move (t : Timing) (i : PulseInput) (m : Int) : TimingMove t (t.keepM i m) := by
  cases i <;> exact .stays rfl

theorem takePulse_timed (i : PulseInput) (s : State) : Timed s (takePulse i s) := by
  have judged : Timed s (timingEvent (s.timing.pulsed i).1 s) :=
    timingEvent_timed _ s (.reselectedQualifier s.timing i _)
  have handed (u : State) (m : Int) : Timed u (handOn i.source m 0 (u.withTiming (u.timing.keepM i m))) :=
    (withTiming_timed u _ (keepM_move _ i m)).trans (handOn_timed _ _ _ _)
  unfold takePulse
  dsimp only
  split
  · split
    · exact (judged.trans (handed _ _)).trans (crossSample_stepFrame _ _).timed
    · exact judged.trans (handed _ _)
  · exact judged

theorem absenceNow_timed (i : PulseInput) (s : State) : Timed s (absenceNow i s) := by
  unfold absenceNow
  split
  · exact timingEvent_timed _ s (.reselectedQualifier _ i _)
  · exact .refl s

end Sys2Proof.Machine
end

section
/-! SUPPORT. The chains of changes of the timing blocks and of the store that requests and resets make, and `exec_timed`:
those of every command. -/

namespace Sys2Proof.Machine

/-! ## Requests -/

theorem withTenant_timed (s : State) (x : Tenant) (u : TenantUnit) : Timed s (s.withTenant x u) := timed_of_eq rfl rfl

theorem withTest_timed (s : State) (u : TestUnit) : Timed s (s.withTest u) := timed_of_eq rfl rfl

theorem withPort_timed (s : State) (p : Port) : Timed s (s.withPort p) := timed_of_eq rfl rfl

theorem takeTimingRecord_timed (r : TimingRecord) (s : State) : Timed s (takeTimingRecord r s) :=
  timingEvent_timed _ s (.reselected { s.timing with
    base := { s.timing.base with record := r }, xfer := s.timing.xfer.limitCountdown s.role r.timingPeriod } rfl rfl rfl rfl)

theorem takeTenantRecord_timed (x : Tenant) (r : TenantRecord) (c : TenantCause) (s : State) :
    Timed s (takeTenantRecord x r c s) := by
  unfold takeTenantRecord
  dsimp only
  split
  · exact (withTenant_timed s x _).trans (raiseTenant_onlyNotices _ _ _ _ _).timed
  · exact withTenant_timed s x _

/-- A tenant switched into another state with its notice, and the end of a step of its own. -/
theorem tenantLeft_timed (s : State) (x : Tenant) (u : TenantUnit) (p : TenantState) (c : TenantCause) (e : TenantExtra) :
    Timed s (stepTenantLeft x ((s.withTenant x u).raiseTenant x p c e)) :=
  ((withTenant_timed s x u).trans (raiseTenant_onlyNotices _ _ _ _ _).timed).trans (stepTenantLeft_stepFrame _ _).timed

theorem applySettings_timed (v : Settings) (s : State) : Timed s (applySettings v s) := by
  unfold applySettings loadTenants
  dsimp only
  refine Timed.trans ?_ (foldl_timed _ (fun u x => takeTenantRecord_timed x _ _ u) _ _)
  refine Timed.trans ?_ (withTest_timed _ _)
  refine Timed.trans ?_ (takeTimingRecord_timed _ _)
  exact timed_of_eq rfl rfl

/-- An operation other than STORE_CAL writes no frequency. -/
theorem takeOp_timed (k : StoreOpKind) (s : State) (cal : ∀ f aging, k = .cal f aging → f = s.timing.servo.fHold) :
    Timed s (takeOp k s).1 := .single (.opTaken k s.timing.base.advance cal rfl rfl)

theorem setRole_timed (r : Option Role) (s : State) : Timed s (doSetRole r s).1 := by
  unfold doSetRole
  split
  · exact .refl s
  · split
    · exact .refl s
    · exact TimingMove.timed (t := s.startRole _) (.frameUsed rfl) rfl

theorem reset_timed (o : Option ResetOption) (s : State) : Timed s (doReset o s).1 := by
  unfold doReset
  split <;> exact timed_of_eq rfl rfl

theorem getStatus_timed (p : Option StatusPart) (s : State) : Timed s (doGetStatus p s).1 := by
  unfold doGetStatus
  split <;> exact .refl s

theorem setLink_timed (r : LinkRecord) (s : State) : Timed s (doSetLink r s).1 := by
  unfold doSetLink
  split <;> exact timed_of_eq rfl rfl

theorem setTenant_timed (i : Nat) (r : Option TenantRecord) (s : State) : Timed s (doSetTenant i r s).1 := by
  unfold doSetTenant setTenantOf
  dsimp only
  repeat' split
  all_goals first | exact .refl s | exact takeTenantRecord_timed _ _ _ s

theorem setShares_timed (t : ShareTable) (s : State) : Timed s (doSetShares t s).1 := by
  unfold doSetShares
  split <;> exact timed_of_eq rfl rfl

theorem tenantActivate_timed (i : Nat) (s : State) : Timed s (doTenantActivate i s).1 := by
  unfold doTenantActivate
  repeat' split
  · exact .refl s
  · exact (withTenant_timed s _ _).trans (raiseTenant_onlyNotices _ _ _ _ _).timed
  · exact .refl s
  · exact .refl s

theorem tenantDrain_timed (i : Nat) (s : State) : Timed s (doTenantDrain i s).1 := by
  unfold doTenantDrain drain
  dsimp only
  repeat' split
  all_goals first | exact .refl s | exact tenantLeft_timed s _ _ _ _ _

theorem tenantOff_timed (i : Nat) (s : State) : Timed s (doTenantOff i s).1 := by
  unfold doTenantOff switchOff
  dsimp only
  repeat' split
  · exact .refl s
  · exact withTenant_timed s _ _
  · exact tenantLeft_timed s _ _ _ _ _

theorem getCounters_timed (i : Nat) (c : Bool) (s : State) : Timed s (doGetCounters i c s).1 := by
  unfold doGetCounters
  split
  · exact .refl s
  · dsimp only
    split <;> exact timed_of_eq rfl rfl

theorem setTiming_timed (r : TimingRecord) (s : State) : Timed s (doSetTiming r s).1 := by
  unfold doSetTiming
  split
  · exact takeTimingRecord_timed r s
  · exact .refl s

theorem timeSet_timed (x : BitVec 48) (s : State) : Timed s (doTimeSet x s).1 := by
  unfold doTimeSet
  split
  · exact .refl s
  · exact withTiming_timed s _ (.stays rfl)

theorem timingRestart_timed (s : State) : Timed s (doTimingRestart s).1 :=
  ((withTiming_timed s s.timing.restart (.restarted rfl)).trans (raiseTiming_onlyNotices _ _ _).timed).trans
    (stepWatch_stepFrame _).timed

theorem setPattern_timed (i : Nat) (p : Option Pattern) (s : State) : Timed s (doSetPattern i p s).1 := by
  unfold doSetPattern
  repeat' split
  all_goals exact timed_of_eq rfl rfl

theorem setStep_timed (i : Nat) (a : StepArg) (s : State) : Timed s (doSetStep i a s).1 := by
  unfold doSetStep
  repeat' split
  all_goals exact timed_of_eq rfl rfl

theorem testStart_timed (n : Nat) (f : Bool) (s : State) : Timed s (doTestStart n f s).1 := by
  unfold doTestStart
  repeat' split
  all_goals first | exact .refl s | exact (withTest_timed s _).trans (runFirstStep_stepFrame _).timed

theorem testAbort_timed (s : State) : Timed s (doTestAbort s).1 := by
  unfold doTestAbort
  split
  · exact (abortRun_stepFrame _ s).timed
  · exact .refl s

theorem acceptWaive_timed (s : State) : Timed s (doAcceptWaive s).1 := by
  unfold doAcceptWaive
  split
  · exact .refl s
  · exact (withTest_timed s _).trans (raiseTest_onlyNotices _ _).timed

theorem storeSave_timed (i : Nat) (s : State) : Timed s (doStoreSave i s).1 := by
  unfold doStoreSave
  repeat' split
  · exact .refl s
  · exact .refl s
  · exact takeOp_timed _ s nofun

theorem storeLoad_timed (i : Nat) (s : State) : Timed s (doStoreLoad i s).1 := by
  unfold doStoreLoad
  split
  · exact .refl s
  split
  · exact .refl s
  split
  · exact .refl s
  split
  · exact .refl s
  · dsimp only
    exact Timed.trans (applySettings_timed _ s) (raiseStore_onlyNotices _ _ _).timed

theorem storeErase_timed (i : Nat) (s : State) : Timed s (doStoreErase i s).1 := by
  unfold doStoreErase
  repeat' split
  · exact .refl s
  · exact .refl s
  · exact takeOp_timed _ s nofun

theorem storeBoot_timed (i : Option Nat) (s : State) : Timed s (doStoreBoot i s).1 := by
  unfold doStoreBoot
  repeat' split
  all_goals first | exact .refl s | exact takeOp_timed _ s nofun

/-- STORE_CAL writes F_hold (R179). -/
theorem storeCal_timed (a : Int) (s : State) : Timed s (doStoreCal a s).1 := by
  unfold doStoreCal
  repeat' split
  · exact .refl s
  · exact .refl s
  · exact takeOp_timed _ s fun f _ e => by injection e with e; exact e.symm
  · exact .refl s

/-- Every request is a chain of changes (R171). -/
theorem perform_timed (r : Request) (s : State) : Timed s (perform r s).1 := by
  cases r
  case getId => exact .refl s
  case setRole r => exact setRole_timed r s
  case reset o => exact reset_timed o s
  case getStatus p => exact getStatus_timed p s
  case setLink r => exact setLink_timed r s
  case setTenant i r => exact setTenant_timed i r s
  case setShares t => exact setShares_timed t s
  case tenantActivate i => exact tenantActivate_timed i s
  case tenantDrain i => exact tenantDrain_timed i s
  case tenantOff i => exact tenantOff_timed i s
  case getCounters i c => exact getCounters_timed i c s
  case setTiming r => exact setTiming_timed r s
  case timeSet x => exact timeSet_timed x s
  case timingRestart => exact timingRestart_timed s
  case setPattern i p => exact setPattern_timed i p s
  case setStep i a => exact setStep_timed i a s
  case testStart n f => exact testStart_timed n f s
  case testAbort => exact testAbort_timed s
  case getResults => exact .refl s
  case acceptWaive => exact acceptWaive_timed s
  case storeSave i => exact storeSave_timed i s
  case storeLoad i => exact storeLoad_timed i s
  case storeErase i => exact storeErase_timed i s
  case storeBoot i => exact storeBoot_timed i s
  case storeCal a => exact storeCal_timed a s

/-! ## The management line -/

theorem completeRequest_timed (b : Buffered) (s : State) : Timed s (completeRequest b s) := by
  have answered (w : Incoming) (u : State) : Timed u (answer w u).1 := by
    cases w
    · exact .refl u
    · exact .refl u
    · exact perform_timed _ u
  exact ((withPort_timed s _).trans (answered _ _)).trans (withPort_timed _ _)

theorem takeRequest_timed (s : State) : Timed s (takeRequest s) := by
  unfold takeRequest
  repeat' split
  · exact .refl s
  · exact (withPort_timed s _).trans (completeRequest_timed _ _)
  · exact .refl s

theorem serve_timed (s : State) : Timed s (serve s) :=
  ((takeRequest_timed s).trans (withPort_timed _ _)).trans (takeRequest_timed _)

theorem offerFrame_timed (b : Buffered) (s : State) : Timed s (offerFrame b s) :=
  (withPort_timed s _).trans (serve_timed _)

theorem receiveByte_timed (s : State) (b : Byte) : Timed s (receiveByte s b) := by
  unfold receiveByte
  dsimp only
  split
  · exact withPort_timed s _
  · exact (withPort_timed s _).trans (offerFrame_timed _ _)

/-! ## Resets -/

theorem warmReset_timed (s : State) : Timed s (warmReset s) := by
  have blocks : Timed s (warmBlocks s) := TimingMove.timed (t := warmBlocks s) (.reselectedXfer s.timing _) rfl
  rw [warmReset_eq]
  refine Timed.trans ?_ (withTest_timed _ _)
  exact (blocks.trans (warmNoticed_onlyNotices s).timed).trans (abortByReset_stepFrame _).timed

theorem fullReset_timed (cause : ResetCause) (s : State) : Timed s (fullReset cause s) := .single (.fullReset cause rfl rfl)

theorem commandReset_timed (o : ResetOption) (s : State) : Timed s (commandReset o s) := by
  cases o
  · exact fullReset_timed .commandFull s
  · exact warmReset_timed s

theorem commandResetOf_timed (o : ResetOption) (s : State) : Timed s (commandResetOf o s) := by
  unfold commandResetOf
  split
  · exact commandReset_timed _ s
  · exact .refl s

theorem outgoingEnds_timed (s : State) : Timed s (outgoingEnds s) := by
  unfold outgoingEnds lineEnds
  repeat' split
  · exact commandReset_timed _ s
  · exact (withPort_timed s _).trans (serve_timed _)
  · exact .refl s

/-! ## Every command -/

theorem arriveAt_timed (x : Tenant) (bad : Bool) (b : List Byte) (s : State) : Timed s (arriveAt x bad b s) := by
  unfold arriveAt
  dsimp only
  split
  · exact withTenant_timed s x _
  · exact (withTenant_timed s x _).trans (inject_stepFrame _ _).timed

theorem removeStale_timed (x : Tenant) (s : State) : Timed s (removeStale x s) := by
  unfold removeStale
  repeat' split
  · exact .refl s
  · exact .refl s
  · exact (withTenant_timed s x _).trans ((countPathEntries_stepFrame _ _ _).trans (drainIfEmpty_stepFrame _ _)).timed

theorem syncDueNow_timed (s : State) : Timed s (syncDueNow s) := by
  unfold syncDueNow
  split
  · exact withTiming_timed s _ (.stays rfl)
  · exact .refl s

theorem timeoutsNow_timed (s : State) : Timed s (timeoutsNow s) := by
  unfold timeoutsNow
  split
  · exact withTiming_timed s _ (.stays rfl)
  · exact .refl s

theorem storeEnds_timed (s : State) : Timed s (storeEnds s) := by
  unfold storeEnds
  repeat' split
  · next o e _ =>
    exact Timed.trans (t := s.withStore { s.store.finished o.kind with op := none }) (.single (.opEnds o e rfl rfl))
      (raiseStore_onlyNotices _ _ _).timed
  · exact .refl s
  · exact .refl s

/-- What a command answers is a state that `announce` has been applied to; the chain up to there is the command's. -/
theorem timed_of_next {s t u : State} (h : (Host.Outcome.next (announce u) : Host.Outcome State Fault Refusal) = .next t)
    (k : Timed s u) : Timed s t := by
  injection h with h
  rw [← h]
  exact k.trans (announce_onlyNotices u).timed

/-- A command that is a request frame (log entry 5). -/
theorem requestFrame_timed {s t : State} {tag : Byte} {r : Request}
    (h : (Host.Outcome.next (requestFrame tag r s) : Host.Outcome State Fault Refusal) = .next t) : Timed s t :=
  timed_of_next h (offerFrame_timed _ s)

/-- Every command is a chain of changes. -/
theorem exec_timed (c : Instr) (s t : State) (h : exec c s = .next t) : Timed s t := by
  cases c
  case powerReset => exact timed_of_next h (fullReset_timed .power s)
  case pinReset => exact timed_of_next h (fullReset_timed .pin s)
  case commandFullReset => exact timed_of_next h (commandResetOf_timed _ s)
  case commandWarmReset => exact timed_of_next h (commandResetOf_timed _ s)
  case frameStart => exact timed_of_next h (frameStart_timed s)
  case receivedFrameRecord r =>
    refine timed_of_next h ?_
    split
    · exact withTiming_timed s _ (.stays rfl)
    · exact (settle_timed s).trans (takeFrame_timed r _)
  case receiveMarkerCapture n => exact timed_of_next h ((passTime_timed n s).trans (withTiming_timed _ _ (.stays rfl)))
  case absentFrame => exact timed_of_next h (absentDue_timed s)
  case tenantPacketArrival x bad b => exact timed_of_next h (arriveAt_timed x bad b s)
  case holdInput x a => exact timed_of_next h (withTenant_timed s x _)
  case deliveryEnd x => exact timed_of_next h (withTenant_timed s x _)
  case secondBoundary => exact timed_of_next h ((passTime_timed _ s).trans (secondEvent_timed _))
  case pulse i n => exact timed_of_next h (((passTime_timed n s).trans (settle_timed _)).trans (takePulse_timed i _))
  case absenceExpiry i => exact timed_of_next h ((passTime_timed _ s).trans (absenceNow_timed i _))
  case staleRemoval x => exact timed_of_next h (removeStale_timed x s)
  case syncDue => exact timed_of_next h (syncDueNow_timed s)
  case exchangeTimeout => exact timed_of_next h (timeoutsNow_timed s)
  case linkSupervisionExpiry => exact timed_of_next h (supervisionDue_timed s)
  case holdoverLimit => exact timed_of_next h (limitDue_timed s)
  case holdoverAging => exact timed_of_next h (agingDue_timed s)
  case leadEnd => exact timed_of_next h (leadOver_stepFrame s).timed
  case activeEnd => exact timed_of_next h (activeOver_stepFrame s).timed
  case tailEnd => exact timed_of_next h (tailOver_stepFrame s).timed
  case reportWaitExpiry => exact timed_of_next h (reportWaitOver_stepFrame s).timed
  case waitTimeout => exact timed_of_next h (waitOver_stepFrame s).timed
  case timingCrossTimeout => exact timed_of_next h (crossOver_stepFrame s).timed
  case managementFrame b => exact timed_of_next h (foldl_timed _ receiveByte_timed b s)
  case gapExpiry => exact timed_of_next h (withPort_timed s _)
  case outgoingFrameEnd => exact timed_of_next h (outgoingEnds_timed s)
  case erasingEnd => exact timed_of_next h (.single (.opErased rfl rfl))
  case storeOperationEnd => exact timed_of_next h (storeEnds_timed s)
  case unknownKind tag k => exact timed_of_next h (offerFrame_timed _ s)
  case strayByte b => exact timed_of_next h (receiveByte_timed s b)
  all_goals exact requestFrame_timed h

/-- A step is a chain of changes, once the oldest waiting command has left the queue. -/
theorem step_timed (s t : State) (h : step s = .next t) : Timed s t := by
  unfold step at h
  split at h
  · injection h with h
    rw [h]
    exact .refl t
  · next c rest _ => exact (timed_of_eq rfl rfl : Timed s (s.withPending rest)).trans (exec_timed c _ t h)

end Sys2Proof.Machine
end

section
/-! SUPPORT. The stages of a measurement at the Servo (R136 to R140): which stages it passes, and what each leaves alone. -/

namespace Sys2Proof.Machine

section
variable (t : Timing) (src : Source) (m w : Int)

theorem measure_ignored (h : t.servo.actsOn src = false) : (t.measure src m w).1 =
    { t with servo := { t.servo with counters := { t.servo.counters with ignored := bump t.servo.counters.ignored } } } := by
  rw [Timing.measure, h]
  rfl

theorem measure_steps (h : t.servo.actsOn src = true) (k : t.stepNeeded src m w = true) :
    (t.measure src m w).1 = (t.takeInput src m).makeStep src m w := by
  rw [Timing.measure, if_pos h, if_pos k]

/-- A measurement that brings no step is steered by, averaged and counted, and the class re-judged (R138 to R140). -/
theorem measure_steers (h : t.servo.actsOn src = true) (k : t.stepNeeded src m w = false) : (t.measure src m w).1 =
    ((((t.takeInput src m).steerStage (clampTo inputBound m) (t.base.record.gains src)).averageStage).countStage
      (clampTo inputBound m)).rejudge := by
  rw [Timing.measure, if_pos h, if_neg (by rw [k]; exact Bool.false_ne_true)]

end

/-- The averaging stage moves F_hold alone (R139). -/
theorem averageStage_eq (t : Timing) : t.averageStage = { t with servo := { t.servo with
    fHold := if t.servo.state = .locked then t.servo.fHold + rndDiv (t.servo.f - t.servo.fHold) 16
      else t.servo.fHold } } := by
  unfold Timing.averageStage
  split <;> rfl

/-- The counting stage moves the timing state with its counts alone (R140). -/
theorem countStage_frame (t : Timing) (e : Int) : t.countStage e = { t with servo := { t.servo with
    state := (t.countStage e).servo.state, lock := (t.countStage e).servo.lock, unlock := (t.countStage e).servo.unlock,
    everLocked := (t.countStage e).servo.everLocked, lockedTime := (t.countStage e).servo.lockedTime,
    counters := (t.countStage e).servo.counters } } := by
  unfold Timing.countStage
  dsimp only
  repeat' split
  all_goals rfl

/-- A step or a full set moves local time, and takes it off the boundaries it stood on (R99, R137). -/
theorem makeStep_clock (t : Timing) (src : Source) (m w : Int) :
    (t.makeStep src m w).clock = (t.base.now.shift m (if src = .link then -w else 0), false, false) := by
  unfold Timing.makeStep
  dsimp only
  split <;> rfl

/-- A step or a full set keeps F, F_hold, S, the timing state, the selection and the class (R137). -/
theorem makeStep_keeps (t : Timing) (src : Source) (m w : Int) :
    (t.makeStep src m w).base.steer = t.base.steer ∧
    (t.makeStep src m w).servo = { t.servo with
      lock := 0, unlock := 0, counters := (t.makeStep src m w).servo.counters } := by
  unfold Timing.makeStep
  dsimp only
  split <;> exact ⟨rfl, rfl⟩

end Sys2Proof.Machine
end

section
/-! PROOF. Local time stays within the second, and F, F_hold and S within their bound: each change keeps it, so every step
does. -/

namespace Sys2Proof.Machine

/-! ## Local time (R98) -/

/-- Local time stays within the second, and the boundaries noted as reached are boundaries. -/
def Timing.onTime (t : Timing) : Prop :=
  t.base.now.half < 2000000000 ∧ (t.base.frameHere = true → t.base.now.half % 250000 = 0) ∧
  (t.base.secondHere = true → t.base.now.half = 0)

theorem timeInv_iff (s : State) : s.timeInv ↔ s.timing.onTime := Iff.rfl

theorem onTime_of_clock {a b : Timing} (h : b.clock = a.clock) (k : a.onTime) : b.onTime := by
  simp only [Timing.clock, Prod.mk.injEq] at h
  obtain ⟨now, frame, second⟩ := h
  rw [Timing.onTime, now, frame, second]
  exact k

/-- A change of local time other than by advance ends within the second (R99). -/
theorem shift_within (t : LocalTime) (ns secs : Int) : (t.shift ns secs).half < 2000000000 := by
  simp only [LocalTime.shift]
  omega

theorem advanceBy_onTime (t : Timing) (dt : Nat) (h : t.onTime) : Timing.onTime { t with base := t.base.advanceBy dt } := by
  rcases Nat.eq_zero_or_pos dt with rfl | moves
  · exact h
  · obtain ⟨half, frame, second⟩ := advanceBy_moves dt t.base moves
    refine ⟨?_, fun k => ?_, fun k => ?_⟩
    · change (t.base.advanceBy dt).now.half < _
      omega
    · have whole := eq_of_beq (frame.symm.trans k)
      change (t.base.advanceBy dt).now.half % _ = 0
      omega
    · exact half.trans (eq_of_beq (second.symm.trans k))

theorem reachSecond_onTime (t : Timing) (h : t.onTime) : Timing.onTime { t with base := t.base.reachSecond } := by
  obtain ⟨within, -, here⟩ := h
  obtain ⟨half, second, -⟩ := reachSecond_clock t.base within here
  refine ⟨?_, fun _ => ?_, fun _ => half⟩
  · change t.base.reachSecond.now.half < _
    omega
  · change t.base.reachSecond.now.half % _ = 0
    omega

/-- A measurement leaves the clock, or steps local time (R137). -/
theorem measure_clock (t : Timing) (src : Source) (m w : Int) : (t.measure src m w).1.clock = t.clock ∨
    (t.measure src m w).1.clock = (t.base.now.shift m (if src = .link then -w else 0), false, false) := by
  cases acts : t.servo.actsOn src with
  | false => rw [measure_ignored t src m w acts]; exact .inl rfl
  | true =>
    cases step : t.stepNeeded src m w with
    | true => rw [measure_steps t src m w acts step]; exact .inr (makeStep_clock _ src m w)
    | false =>
      rw [measure_steers t src m w acts step, averageStage_eq, countStage_frame]
      exact .inl rfl

/-- Each change of the timing blocks keeps local time within the second. -/
theorem TimingMove.keepsTime {a b : Timing} (move : TimingMove a b) (h : a.onTime) : b.onTime := by
  have clock {x : Timing} (e : b.vital = x.vital) (k : x.onTime) : b.onTime := onTime_of_clock (congrArg Vital.clock e) k
  cases move with
  | stays e => exact clock e h
  | advanced dt e => exact clock e (advanceBy_onTime a dt h)
  | second e => exact clock e (reachSecond_onTime a h)
  | frameUsed e => exact clock e ⟨h.1, nofun, h.2.2⟩
  | reselected x same _ _ e => exact clock e (onTime_of_clock ((reselect_clock x).trans same) h)
  | rejudged e => exact clock e h
  | measured src m w e =>
    refine clock e ?_
    rcases measure_clock a src m w with k | k
    · exact onTime_of_clock k h
    · simp only [Timing.clock, Prod.mk.injEq] at k
      obtain ⟨now, frame, second⟩ := k
      rw [Timing.onTime, now, frame, second]
      exact ⟨shift_within _ _ _, nofun, nofun⟩
  | aged _ e => exact clock e h
  | counted e => exact clock e h
  | restarted e => exact clock e h

theorem TimeChange.keepsTime {s t : State} (change : TimeChange s t) (h : s.timeInv) : t.timeInv := by
  rw [timeInv_iff] at h ⊢
  cases change with
  | timing move => exact move.keepsTime h
  | opTaken _ _ _ same => rw [same]; exact h
  | opErased same => rw [same]; exact h
  | opEnds _ _ same => rw [same]; exact h
  | fullReset cause start =>
    rw [start]
    exact ⟨show 0 < 2000000000 by decide, nofun, nofun⟩

/-! ## F, F_hold and S (R138, R139, R143, R145) -/

theorem clampTo_inSteer (x : Int) : inSteer (clampTo Config.steerBound x) := by
  unfold inSteer clampTo Config.steerBound
  repeat' split
  all_goals omega

/-- An average moves towards F, and not past it (R139). -/
theorem average_inSteer {f h : Int} (hf : inSteer f) (hh : inSteer h) : inSteer (h + rndDiv (f - h) 16) := by
  unfold inSteer rndDiv at *
  split <;> omega

/-- F, F_hold and S lie within ±2,000,000 ppt. -/
def Timing.steerOk (t : Timing) : Prop := inSteer t.servo.f ∧ inSteer t.servo.fHold ∧ inSteer t.base.steer

theorem steerOk_of_vital {a b : Timing} (h : b.vital = a.vital) (k : a.steerOk) : b.steerOk := by
  have servo : b.servo = a.servo := congrArg Vital.servo h
  have steer : b.base.steer = a.base.steer := congrArg Vital.steer h
  rw [Timing.steerOk, servo, steer]
  exact k

/-- After a re-evaluation S is what it was, or F_hold at an entry to HOLDOVER (R143). -/
theorem reselect_steer (t : Timing) : t.reselect.base.steer = t.base.steer ∨ t.reselect.base.steer = t.servo.fHold := by
  unfold Timing.reselect Timing.takeSelection Timing.enterHoldover Timing.rejudge
  dsimp only
  repeat' split
  all_goals first | exact .inl rfl | exact .inr rfl

theorem reselect_steerOk (t : Timing) (h : t.steerOk) : t.reselect.steerOk := by
  obtain ⟨f, hold, steer⟩ := h
  obtain ⟨sameF, sameHold, -⟩ := reselect_integral t
  refine ⟨sameF ▸ f, sameHold ▸ hold, ?_⟩
  rcases reselect_steer t with e | e <;> rw [e]
  · exact steer
  · exact hold

theorem measure_steerOk (t : Timing) (src : Source) (m w : Int) (h : t.steerOk) : (t.measure src m w).1.steerOk := by
  obtain ⟨f, hold, steer⟩ := h
  cases acts : t.servo.actsOn src with
  | false => rw [measure_ignored t src m w acts]; exact ⟨f, hold, steer⟩
  | true =>
    cases step : t.stepNeeded src m w with
    | true =>
      rw [measure_steps t src m w acts step]
      obtain ⟨sameSteer, sameServo⟩ := makeStep_keeps (t.takeInput src m) src m w
      rw [Timing.steerOk, sameSteer, sameServo]
      exact ⟨f, hold, steer⟩
    | false =>
      rw [measure_steers t src m w acts step, averageStage_eq, countStage_frame]
      refine ⟨clampTo_inSteer _, ?_, clampTo_inSteer _⟩
      change inSteer (if t.servo.state = .locked then _ else _)
      split
      · exact average_inSteer (clampTo_inSteer _) hold
      · exact hold

/-- Each change of the timing blocks keeps F, F_hold and S within the bound. -/
theorem TimingMove.keepsSteer {a b : Timing} (move : TimingMove a b) (h : a.steerOk) : b.steerOk := by
  have same {x : Timing} (e : b.vital = x.vital) (servo : x.servo.f = a.servo.f ∧ x.servo.fHold = a.servo.fHold)
      (steer : x.base.steer = a.base.steer) : b.steerOk :=
    steerOk_of_vital e (by rw [Timing.steerOk, servo.1, servo.2, steer]; exact h)
  have advance (dt : Nat) : (a.base.advanceBy dt).steer = a.base.steer := by
    unfold TimeBase.advanceBy
    split <;> rfl
  cases move with
  | stays e => exact same e ⟨rfl, rfl⟩ rfl
  | advanced dt e => exact same e ⟨rfl, rfl⟩ (advance dt)
  | second e => exact same e ⟨rfl, rfl⟩ (advance _)
  | frameUsed e => exact same e ⟨rfl, rfl⟩ rfl
  | reselected x _ steer servo e =>
    exact steerOk_of_vital e (reselect_steerOk x (by rw [Timing.steerOk, servo, steer]; exact h))
  | rejudged e => exact same e ⟨rfl, rfl⟩ rfl
  | measured src m w e => exact steerOk_of_vital e (measure_steerOk a src m w h)
  | aged rate e => exact steerOk_of_vital e ⟨clampTo_inSteer _, h.2.1, clampTo_inSteer _⟩
  | counted e =>
    refine same e ?_ rfl
    change a.servo.countSecond.f = _ ∧ a.servo.countSecond.fHold = _
    unfold Servo.countSecond
    dsimp only
    split <;> exact ⟨rfl, rfl⟩
  | restarted e => exact same e ⟨rfl, rfl⟩ rfl

/-- The stored frequency, and one being written, lie within ±2,000,000 ppt (R177). -/
def Store.steerOk (st : Store) : Prop := inSteer st.cal.frequency ∧ ∀ o, st.op = some o → o.kind.steerOk

theorem steerOk_idle {st : Store} (frequency : inSteer st.cal.frequency) (idle : st.op = none) : st.steerOk :=
  ⟨frequency, fun o e => by rw [idle] at e; cases e⟩

theorem steerInv_iff (s : State) : s.steerInv ↔ s.timing.steerOk ∧ s.store.steerOk := by
  simp only [State.steerInv, Timing.steerOk, Store.steerOk, and_assoc]

/-- STORE_CAL takes F_hold as the frequency to write; no other operation takes one (R178, R179). -/
theorem take_steerOk (st : Store) (k : StoreOpKind) (reading : Nat) (hold : Int) (h : st.steerOk) (inside : inSteer hold)
    (cal : ∀ f aging, k = .cal f aging → f = hold) : (st.take k reading).steerOk := by
  refine ⟨?_, fun o e => ?_⟩
  · cases k <;> exact h.1
  · obtain rfl := Option.some.inj e
    cases k with
    | cal f aging => exact cal f aging rfl ▸ inside
    | _ => trivial

theorem erased_steerOk (st : Store) (h : st.steerOk) : st.erased.steerOk := by
  unfold Store.erased
  split
  · next o op =>
    split
    · refine ⟨h.1, fun p e => ?_⟩
      obtain rfl := Option.some.inj e
      exact h.2 o op
    · exact h
  · exact h

theorem finished_steerOk (st : Store) (k : StoreOpKind) (h : st.steerOk) (written : k.steerOk) :
    Store.steerOk { st.finished k with op := none } := by
  refine steerOk_idle ?_ rfl
  cases k with
  | cal f aging => exact written
  | _ => exact h.1

theorem TimeChange.keepsSteer {s t : State} (change : TimeChange s t) (h : s.steerInv) : t.steerInv := by
  rw [steerInv_iff] at h ⊢
  obtain ⟨timing, store⟩ := h
  cases change with
  | timing move same => exact ⟨move.keepsSteer timing, same ▸ store⟩
  | opTaken k reading cal same taken =>
    rw [same, taken]
    exact ⟨timing, take_steerOk _ k reading _ store timing.2.1 cal⟩
  | opErased same erased => rw [same, erased]; exact ⟨timing, erased_steerOk _ store⟩
  | opEnds o op same ended => 
    rw [same, ended]
    exact ⟨timing, finished_steerOk _ _ store (store.2 o op)⟩
  | fullReset cause start abandoned =>
    have frequency : inSteer s.store.startFrequency := by
      unfold Store.startFrequency
      split
      · exact store.1
      · exact ⟨by decide, by decide⟩
    rw [start, abandoned]
    exact ⟨⟨frequency, frequency, frequency⟩, steerOk_idle store.1 rfl⟩

/-- Settles O53: every change of the timing blocks and of the store keeps both invariants, so every chain does. -/
theorem everyStepKeepsTimeAndSteer : Obligations.EveryStepKeepsTimeAndSteer :=
  fun s t h next => (step_timed s t next).keeps (P := fun u => u.timeInv ∧ u.steerInv)
    (fun _ _ change k => ⟨change.keepsTime k.1, change.keepsSteer k.2⟩) h

end Sys2Proof.Machine
end

section
/-! PROOF. A second boundary (R98, R102, R114, R115, R126, R144, R160, R161). -/

namespace Sys2Proof.Machine

/-! ## Local time at the boundary -/

theorem reachSecond_eq (b : TimeBase) (ahead : b.secondHere = false) (within : b.now.half < 2000000000) : b.reachSecond =
    { b with now := { sec := b.pendingSet.getD (b.now.sec + 1), half := 0 }, pendingSet := none,
             advance := b.advance + (2000000000 - b.now.half), frameHere := true } := by
  have whole : b.now.half + (2000000000 - b.now.half) = 2000000000 := by omega
  have moves : b.advanceBy b.toSecond = { b with
      now := { sec := b.now.sec + 1, half := 0 }, advance := b.advance + (2000000000 - b.now.half),
      frameHere := true, secondHere := true } := by
    rw [toSecond_ahead ahead, TimeBase.advanceBy, if_neg (by omega), LocalTime.advance, whole]
    rfl
  rw [TimeBase.reachSecond, moves, ← ahead]

/-- Local time brought to the boundary stands on it, and its event is still to be taken. -/
theorem reachSecond_advanced (b : TimeBase) (ahead : b.secondHere = false) (within : b.now.half < 2000000000) :
    (b.advanceBy b.toSecond).reachSecond = b.reachSecond := by
  have here : (b.advanceBy b.toSecond).secondHere = true := by
    rw [toSecond_ahead ahead, (advanceBy_moves _ b (by omega)).2.2, beq_iff_eq]
    omega
  rw [TimeBase.reachSecond, toSecond_here here, advanceBy_zero]
  rfl

/-- The event of a second boundary brings local time there itself. -/
theorem secondEvent_advanced (s : State) (ahead : s.timing.base.secondHere = false)
    (within : s.timing.base.now.half < 2000000000) :
    secondEvent (s.withBase (s.timing.base.advanceBy s.timing.base.toSecond)) = secondEvent s := by
  have pending : (s.timing.base.advanceBy s.timing.base.toSecond).pendingSet = s.timing.base.pendingSet := by
    unfold TimeBase.advanceBy
    split <;> rfl
  rw [secondEvent, secondEvent, State.withBase_timing]
  dsimp only
  rw [pending, reachSecond_advanced _ ahead within]
  rfl

/-- No boundary lies before the second boundary: no frame starts there, or less than a frame period is left. -/
theorem toSecond_next (s : State) (ahead : s.timing.base.secondHere = false)
    (near : s.role = none ∨ (s.timing.base.frameHere = false ∧ 1999750000 ≤ s.timing.base.now.half))
    (within : s.timing.base.now.half < 2000000000) : s.timing.base.toSecond ≤ s.toBoundary := by
  unfold State.toBoundary
  rw [ahead, if_neg Bool.false_ne_true]
  split
  · exact Nat.le_refl _
  · next role =>
    obtain ⟨frame, last⟩ := near.resolve_left role
    rw [toSecond_ahead ahead, toFrame_ahead frame]
    omega

/-- SECOND_BOUNDARY where no other boundary comes first is the event of the second boundary. -/
theorem exec_secondBoundary (s : State) (ahead : s.timing.base.secondHere = false)
    (near : s.role = none ∨ (s.timing.base.frameHere = false ∧ 1999750000 ≤ s.timing.base.now.half))
    (within : s.timing.base.now.half < 2000000000) : exec .secondBoundary s = .next (announce (secondEvent s)) := by
  rw [← secondEvent_advanced s ahead within, ← passTime_within _ s (toSecond_next s ahead near within)]
  rfl

/-! ## The tenants and the counts -/

theorem tenantSecond_eq (s : State) (x : Tenant) : ∃ q, tenantSecond s x =
    (s.withTenant x ((s.tenant x).second s.timing.servo.cls s.timing.base.now.sec)).withPort q := by
  unfold tenantSecond
  dsimp only
  split
  · exact ⟨s.port, rfl⟩
  · exact ⟨_, (raiseTenant_onlyNotices _ _ _ _ _).eq⟩

theorem foldl_tenantSecond (l : List Tenant) : ∀ s, ∃ q, l.foldl tenantSecond s =
    (s.withTenants (l.foldl (fun v x => v.set x ((v.get x).second s.timing.servo.cls s.timing.base.now.sec)) s.tenants)).withPort
      q := by
  induction l with
  | nil => exact fun s => ⟨s.port, rfl⟩
  | cons x l ih =>
    intro s
    obtain ⟨q, h⟩ := tenantSecond_eq s x
    obtain ⟨r, k⟩ := ih (tenantSecond s x)
    refine ⟨r, ?_⟩
    rw [List.foldl_cons, k, h]
    rfl

/-- Each tenant's output is judged on the class in force and the new seconds value, and only notices differ besides (R114,
R115). -/
theorem tenantsSecond_eq (s : State) : ∃ q, Tenant.all.foldl tenantSecond s =
    (s.withTenants (s.tenants.map fun u => u.second s.timing.servo.cls s.timing.base.now.sec)).withPort q := by
  obtain ⟨q, h⟩ := foldl_tenantSecond Tenant.all s
  exact ⟨q, h⟩

theorem tenantSecond_cases (u : TenantUnit) (cls : QClass) (sec : BitVec 48) : u.second cls sec =
    if u.state = .off then { u with timingOut := none }
    else if cls.num ≤ u.record.minClass.num then
      { u with squelched := false, secondsEmitted := bump u.secondsEmitted, timingOut := some { sec := sec, cls := cls } }
    else { u with squelched := true, secondsSquelched := bump u.secondsSquelched, timingOut := none } := by
  simp only [TenantUnit.second, QClass.atLeast, decide_eq_true_eq]

/-- A second counted by the Servo (R144, R145). -/
theorem countSecond_servo (v : Servo) : v.countSecond = { v with
    elapsed := if v.state = .holdover then bump v.elapsed else v.elapsed,
    lockedTime := if v.state = .locked then bump v.lockedTime else v.lockedTime,
    agingDue := if v.state = .holdover ∧ bump v.elapsed % 3600 = 0 then true else v.agingDue } := by
  have counted : 0 < bump v.elapsed := by
    unfold bump addCount countMax
    omega
  unfold Servo.countSecond
  cases state : v.state with
  | holdover =>
    by_cases hour : bump v.elapsed % 3600 = 0
    · simp [hour, counted]
    · simp [hour]
  | locked => simp
  | _ => cases v; simp_all

/-- A second counted by the step in progress (R160, R161). -/
theorem countSecond_test (t : TestUnit) : (t.runState ≠ .running ∨ t.work = none → t.countSecond = t) ∧
    ∀ w, t.runState = .running → t.work = some w → t.countSecond = { t with
      work := some (if w.phase = .waiting then { w with deadline := w.deadline - 1, waited := w.waited + 1 } else w) } := by
  unfold TestUnit.countSecond
  refine ⟨fun idle => ?_, fun w run work => ?_⟩
  · split
    · next run work => rcases idle with h | h <;> simp_all
    · rfl
  · rw [run, work]
    dsimp only
    split
    · rfl
    · rw [← run, ← work]

/-- The event of a second boundary with nothing due there. -/
theorem secondEvent_quiet (s : State) (quiet : (s.withBase s.timing.base.reachSecond).quiet = true) :
    ∃ q, secondEvent s = { s with
      timing := {
        base := s.timing.base.reachSecond, servo := s.timing.servo.countSecond
        xfer := if s.timing.base.pendingSet.isSome = true ∧ s.role = some .trailer then s.timing.xfer.abandonExchanges
          else s.timing.xfer },
      tenants := s.tenants.map fun u => u.second s.timing.servo.cls s.timing.base.reachSecond.now.sec,
      test := s.test.countSecond, port := q } := by
  have taken : (s.withBase s.timing.base.reachSecond).timeSetTaken s.timing.base.pendingSet.isSome =
      s.withTiming { s.timing with
        base := s.timing.base.reachSecond
        xfer := if s.timing.base.pendingSet.isSome = true ∧ s.role = some .trailer then s.timing.xfer.abandonExchanges
          else s.timing.xfer } := by
    unfold State.timeSetTaken
    rw [State.withBase_role]
    split <;> rfl
  obtain ⟨q, judged⟩ := tenantsSecond_eq (s.withTiming { s.timing with
    base := s.timing.base.reachSecond
    xfer := if s.timing.base.pendingSet.isSome = true ∧ s.role = some .trailer then s.timing.xfer.abandonExchanges
      else s.timing.xfer })
  refine ⟨q, ?_⟩
  rw [secondEvent, settle_quiet _ quiet, taken, judged]
  rfl

/-- Settles O29: the event of the boundary, its four parts each read off. -/
theorem secondBoundaryEffect : Obligations.SecondBoundaryEffect := by
  intro s time ahead near quiet
  obtain ⟨within, -, -⟩ := time
  obtain ⟨q, event⟩ := secondEvent_quiet s quiet
  have base := reachSecond_eq s.timing.base ahead within
  obtain ⟨idle, working⟩ := countSecond_test s.test
  refine ⟨_, exec_secondBoundary s ahead near within, ?_⟩
  rw [announce_timing, announce_role, announce_link, announce_ladder, announce_planner, announce_store, announce_pending,
    announce_test, event]
  dsimp only
  refine ⟨base, countSecond_servo _, ?_, ?_, ?_, fun x => ?_, rfl, rfl, rfl, rfl, rfl, rfl, idle, working⟩
  · split <;> rfl
  · split <;> rfl
  · split <;> rfl
  · rw [announce_tenant, ← tenantSecond_cases]
    change Quad.get (Quad.map _ _) x = _
    rw [Quad.get_map, base]
    rfl

end Sys2Proof.Machine
end

section
/-! PROOF. The selected source of R112 and the class of R146: every step keeps them while the holdover elapsed time is a
32-bit count, as R144 makes it. As the statement stands it allows a state whose elapsed time lies above 4,294,967,295; there
the count at a second boundary takes the elapsed time back below the holdover limit, and the statement fails. -/

namespace Sys2Proof.Machine

/-! ## What the choice reads -/

/-- The selected source, its presence and the class, with the elapsed time a 32-bit count (R144). -/
def Timing.chosen (t : Timing) : Prop :=
  t.servo.selected = t.selection ∧
  (t.servo.selected.isSome = true ↔ t.servo.state = .acquiring ∨ t.servo.state = .locked) ∧
  (t.limitReached = true ∨ t.servo.cls = judgedClass t.servo t.xfer.link.hubClass t.base.record.holdoverLimit) ∧
  t.servo.elapsed ≤ countMax

theorem chosen_iff (s : State) : s.timing.chosen ↔ s.timingInv ∧ s.timing.servo.elapsed ≤ countMax := by
  simp only [Timing.chosen, State.timingInv, and_assoc]

/-- The selection reads the source states and the record in force (R112). -/
theorem selection_congr {a b : Timing} (states : ∀ y, b.sourceState y = a.sourceState y)
    (record : b.base.record = a.base.record) : b.selection = a.selection := by
  have level (y : Source) : b.level y = a.level y := by cases y <;> simp only [Timing.level, record]
  have candidate (y : Source) : b.candidate y = a.candidate y := by simp only [Timing.candidate, states, level]
  simp only [Timing.selection, candidate]

theorem selection_of_vital {a b : Timing} (h : b.vital = a.vital) : b.selection = a.selection := by
  refine selection_congr (fun y => ?_) (congrArg Vital.record h)
  cases y
  · exact congrArg Vital.gnss h
  · exact congrArg Vital.ext h
  · exact congrArg Vital.link h

theorem chosen_of_vital {a b : Timing} (h : b.vital = a.vital) (k : a.chosen) : b.chosen := by
  have servo : b.servo = a.servo := congrArg Vital.servo h
  have hub : b.xfer.link.hubClass = a.xfer.link.hubClass := congrArg Vital.hubClass h
  have record : b.base.record = a.base.record := congrArg Vital.record h
  rw [Timing.chosen, Timing.limitReached, servo, hub, record, selection_of_vital h]
  exact k

/-- The passing of local time is nothing to the choice. -/
theorem chosen_of_clock {a : Timing} {b : TimeBase} (gnss : b.gnss = a.base.gnss) (ext : b.ext = a.base.ext)
    (record : b.record = a.base.record) (k : a.chosen) : Timing.chosen { a with base := b } := by
  have selection : Timing.selection { a with base := b } = a.selection :=
    selection_congr (fun y => by cases y <;> simp only [Timing.sourceState, gnss, ext]) record
  rw [Timing.chosen, Timing.limitReached, selection]
  dsimp only
  rw [record]
  exact k

/-! ## The Servo's changes -/

/-- The class as judged holds after a re-judgement (R146). -/
theorem rejudge_chosen (t : Timing) (selected : t.servo.selected = t.selection)
    (present : t.servo.selected.isSome = true ↔ t.servo.state = .acquiring ∨ t.servo.state = .locked)
    (count : t.servo.elapsed ≤ countMax) : t.rejudge.chosen := ⟨selected, present, .inr rfl, count⟩

theorem reselect_sourceState (t : Timing) (y : Source) : t.reselect.sourceState y = t.sourceState y := by
  cases y <;> simp only [Timing.sourceState, reselect_xfer] <;> rw [reselect_base]

/-- A re-evaluation changes no source state, so its choice stands (R113). -/
theorem reselect_selection (t : Timing) : t.reselect.selection = t.selection :=
  selection_congr (reselect_sourceState t) (reselect_record t)

/-- A source is taken in ACQUIRING or LOCKED, and given up in HOLDOVER or FREERUN (R141). -/
theorem takeSelection_present (t : Timing) (x : Option Source)
    (h : t.servo.selected.isSome = true ↔ t.servo.state = .acquiring ∨ t.servo.state = .locked) :
    (t.takeSelection x).servo.selected.isSome = true ↔
      (t.takeSelection x).servo.state = .acquiring ∨ (t.takeSelection x).servo.state = .locked := by
  unfold Timing.takeSelection Timing.enterHoldover
  split
  · exact h
  · split
    · split <;> simp
    · simp
    · simp_all

theorem takeSelection_count (t : Timing) (x : Option Source) (h : t.servo.elapsed ≤ countMax) :
    (t.takeSelection x).servo.elapsed ≤ countMax := by
  unfold Timing.takeSelection Timing.enterHoldover
  repeat' split
  all_goals first | exact h | exact Nat.zero_le _

theorem reselect_chosen (t : Timing)
    (present : t.servo.selected.isSome = true ↔ t.servo.state = .acquiring ∨ t.servo.state = .locked)
    (count : t.servo.elapsed ≤ countMax) : t.reselect.chosen :=
  rejudge_chosen _ ((reselect_selected t).trans (reselect_selection t).symm) (takeSelection_present t _ present)
    (takeSelection_count t _ count)

/-- The counting stage goes between ACQUIRING and LOCKED at most (R140). -/
theorem countStage_present (t : Timing) (e : Int) : (t.countStage e).servo.state = .acquiring ∨
    (t.countStage e).servo.state = .locked ↔ t.servo.state = .acquiring ∨ t.servo.state = .locked := by
  unfold Timing.countStage
  dsimp only
  split
  · next state => rw [state]; split <;> [split; skip] <;> simp
  · next state => rw [state]; split <;> [skip; split] <;> simp
  · exact Iff.rfl

theorem makeStep_link (t : Timing) (src : Source) (m w : Int) : (t.makeStep src m w).xfer.link = t.xfer.link := by
  unfold Timing.makeStep
  dsimp only
  split <;> rfl

theorem makeStep_sources (t : Timing) (src : Source) (m w : Int) (y : Source) :
    (t.makeStep src m w).sourceState y = t.sourceState y := by
  unfold Timing.makeStep
  dsimp only
  cases y <;> simp only [Timing.sourceState] <;> split <;> rfl

theorem measure_chosen (t : Timing) (src : Source) (m w : Int) (h : t.chosen) : (t.measure src m w).1.chosen := by
  obtain ⟨selected, present, cls, count⟩ := h
  cases acts : t.servo.actsOn src with
  | false => rw [measure_ignored t src m w acts]; exact ⟨selected, present, cls, count⟩
  | true =>
    cases step : t.stepNeeded src m w with
    | true =>
      rw [measure_steps t src m w acts step]
      have servo := (makeStep_keeps (t.takeInput src m) src m w).2
      have choice : ((t.takeInput src m).makeStep src m w).selection = t.selection :=
        selection_congr (makeStep_sources _ src m w) (makeStep_record _ src m w)
      rw [Timing.chosen, Timing.limitReached, choice, makeStep_record, makeStep_link, servo]
      exact ⟨selected, present, cls, count⟩
    | false =>
      rw [measure_steers t src m w acts step, averageStage_eq]
      refine rejudge_chosen _ ?_ ?_ ?_
      · rw [countStage_frame]
        exact selected
      · rw [countStage_present]
        rw [countStage_frame]
        exact present
      · rw [countStage_frame]
        exact count

/-- A second counted in HOLDOVER reaches the limit at C3, or stays beyond it at C4 (R144). -/
theorem countSecond_chosen (t : Timing) (h : t.chosen) : Timing.chosen { t with servo := t.servo.countSecond } := by
  obtain ⟨selected, present, cls, count⟩ := h
  rw [countSecond_servo]
  refine ⟨selected, present, ?_, ?_⟩
  · by_cases state : t.servo.state = .holdover
    · have counted : bump t.servo.elapsed = min (t.servo.elapsed + 1) countMax := rfl
      simp only [Timing.limitReached, judgedClass, state, beq_self_eq_true, Bool.true_and, Bool.and_eq_true, beq_iff_eq,
        decide_eq_true_eq, if_true] at cls ⊢
      rcases cls with ⟨c3, reached⟩ | judged
      · exact .inl ⟨c3, by omega⟩
      · split at judged
        · by_cases reached : t.base.record.holdoverLimit ≤ bump t.servo.elapsed
          · exact .inl ⟨judged, reached⟩
          · exact .inr (by rw [if_pos (by omega)]; exact judged)
        · exact .inr (by rw [if_neg (by omega)]; exact judged)
    · simp only [Timing.limitReached, judgedClass, state, if_false] at cls ⊢
      exact cls
  · change (if t.servo.state = .holdover then bump t.servo.elapsed else t.servo.elapsed) ≤ countMax
    split
    · exact Nat.min_le_right _ _
    · exact count

theorem restart_chosen (t : Timing) (selected : t.servo.selected = t.selection) : t.restart.chosen := by
  refine rejudge_chosen _ selected ?_ (Nat.zero_le _)
  change t.servo.selected.isSome = true ↔ (if t.servo.selected.isSome then TimingState.acquiring else .freerun) = _ ∨
    (if t.servo.selected.isSome then TimingState.acquiring else .freerun) = _
  cases t.servo.selected.isSome <;> simp

/-! ## Every change and every step -/

theorem advanceBy_sources (dt : Nat) (b : TimeBase) :
    (b.advanceBy dt).gnss = b.gnss ∧ (b.advanceBy dt).ext = b.ext := by
  unfold TimeBase.advanceBy
  split <;> exact ⟨rfl, rfl⟩

/-- Each change of the timing blocks keeps the choice. -/
theorem TimingMove.keepsChoice {a b : Timing} (move : TimingMove a b) (h : a.chosen) : b.chosen := by
  obtain ⟨selected, present, cls, count⟩ := id h
  have advance (dt : Nat) := advanceBy_sources dt a.base
  cases move with
  | stays e => exact chosen_of_vital e h
  | advanced dt e => exact chosen_of_vital e (chosen_of_clock (advance dt).1 (advance dt).2 (advanceBy_record _ _) h)
  | second e => exact chosen_of_vital e (chosen_of_clock (advance _).1 (advance _).2 (reachSecond_record _) h)
  | frameUsed e => exact chosen_of_vital e (chosen_of_clock rfl rfl rfl h)
  | reselected x _ _ servo e =>
    exact chosen_of_vital e (reselect_chosen x (by rw [servo]; exact present) (by rw [servo]; exact count))
  | rejudged e => exact chosen_of_vital e (rejudge_chosen a selected present count)
  | measured src m w e => exact chosen_of_vital e (measure_chosen a src m w h)
  | aged rate e => exact chosen_of_vital e ⟨selected, present, cls, count⟩
  | counted e => exact chosen_of_vital e (countSecond_chosen a h)
  | restarted e => exact chosen_of_vital e (restart_chosen a selected)

theorem TimeChange.keepsChoice {s t : State} (change : TimeChange s t) (h : s.timing.chosen) : t.timing.chosen := by
  cases change with
  | timing move => exact move.keepsChoice h
  | opTaken _ _ _ same => rw [same]; exact h
  | opErased same => rw [same]; exact h
  | opEnds _ _ same => rw [same]; exact h
  | fullReset cause start =>
    rw [start]
    exact ⟨rfl, ⟨nofun, nofun⟩, .inr rfl, Nat.zero_le _⟩

/-- Every step keeps the choice where the holdover elapsed time is the 32-bit count of R144. -/
theorem step_keepsChoice (s t : State) (h : s.timingInv) (count : s.timing.servo.elapsed ≤ countMax)
    (next : step s = .next t) : t.timingInv ∧ t.timing.servo.elapsed ≤ countMax :=
  (chosen_iff t).mp ((step_timed s t next).keeps (P := fun u => u.timing.chosen)
    (fun _ _ change => change.keepsChoice) ((chosen_iff s).mpr ⟨h, count⟩))

/-! ## The state in which the statement fails -/

/-- HOLDOVER in class C4 with an elapsed time and a holdover limit of 4,294,967,296 seconds, one more than the count of R144
can show, before a second boundary. -/
def overrun : State :=
  let s := State.reset
  { s with
    timing := { s.timing with
      base := { s.timing.base with record := { s.timing.base.record with holdoverLimit := 4294967296 } }
      servo := { s.timing.servo with state := .holdover, elapsed := 4294967296, cls := .c4 } }
    pending := [.secondBoundary] }

/-- Refutes O54: at a second boundary the elapsed time of `overrun` stops at 4,294,967,295, below the limit, where R146 gives
C3, and the class stays C4. -/
theorem not_everyStepKeepsSelection : ¬ Obligations.EveryStepKeepsSelection := by
  intro keeps
  have inv : overrun.timingInv := ⟨by decide, by decide, .inr (by decide)⟩
  obtain ⟨q, event⟩ := secondEvent_quiet (overrun.withPending []) (by decide)
  have next : step overrun = .next (announce (secondEvent (overrun.withPending []))) :=
    exec_secondBoundary (overrun.withPending []) rfl (.inl rfl) (by decide)
  obtain ⟨-, -, cls⟩ := keeps overrun _ inv next
  rw [announce_timing, event] at cls
  dsimp only at cls
  revert cls
  decide

end Sys2Proof.Machine
end

section
/-! PROOF. The receive marker (R2, R98, R103). -/

namespace Sys2Proof.Machine

/-! ## An advance within and over a boundary -/

/-- Where the port invariant holds, no notice waits for a free line (R172). -/
theorem portInv_settled {s : State} (h : s.portInv) : s.port.settled := fun free => by
  obtain ⟨line, -⟩ : s.port.line = none ∧ s.port.reply = none := by simpa [Port.freeForNotice] using free
  exact (h.2.2 line).2.2

/-- An advance moves local time and the reading, and notes the boundaries it ends on (R98, R103). -/
theorem advanceBy_eq (dt : Nat) (b : TimeBase) (within : b.now.half < 2000000000) : b.advanceBy dt = { b with
    now := b.now.advance dt, advance := b.advance + dt, frameHere := (b.advanceBy dt).frameHere,
    secondHere := (b.advanceBy dt).secondHere } := by
  rcases Nat.eq_zero_or_pos dt with rfl | moves
  · have still : b.now.advance 0 = b.now := by
      rw [LocalTime.advance, Nat.add_zero, Nat.div_eq_of_lt within, Nat.mod_eq_of_lt within, BitVec.add_zero]
    rw [still]
    rfl
  · rw [TimeBase.advanceBy, if_neg (Nat.ne_of_gt moves)]

/-- With no role set, an advance over a second boundary is SECOND_BOUNDARY and the rest of the advance (R98). -/
theorem passTime_second {s t : State} {dt : Nat} (time : s.timeInv) (port : s.portInv) (role : s.role = none)
    (ahead : s.timing.base.secondHere = false) (crosses : s.timing.base.toSecond < dt)
    (next : exec .secondBoundary s = .next t) :
    passTime dt s = passTime (dt - s.timing.base.toSecond) t := by
  have bound : s.toBoundary = s.timing.base.toSecond := by
    rw [State.toBoundary, ahead, if_neg Bool.false_ne_true, if_pos role]
  have reached : t = secondEvent s := by
    rw [exec_secondBoundary s ahead (.inl role) time.1,
      announce_of_settled _ ((secondEvent_eventFrame s).port.settled (portInv_settled port))] at next
    exact (Host.Outcome.next.inj next).symm
  rw [passTime_crossing dt s time (by rw [bound]; exact crosses), bound, reached, boundaryEvent, if_pos (.inr role)]

/-! ## The marker -/

/-- A capture is rounded to the nearest multiple of 4 ns, halfway up, and 1,000,000,000 ns is carried (R103). -/
theorem marker_nearest (t : LocalTime) (within : t.half < 2000000000) : t.marker.ns % 4 = 0 ∧ t.marker.ns < 1000000000 ∧
    ((t.marker.sec = t.sec ∧ (2 * t.marker.ns : Int) - t.half ≤ 4 ∧ -4 < (2 * t.marker.ns : Int) - t.half) ∨
      (t.marker.sec = t.sec + 1 ∧ t.marker.ns = 0 ∧ (2000000000 : Int) - t.half ≤ 4)) := by
  unfold LocalTime.marker
  dsimp only
  split <;> dsimp only
  · exact ⟨rfl, by decide, .inr ⟨rfl, rfl, by omega⟩⟩
  · exact ⟨Nat.mul_mod_left _ _, by omega, .inl ⟨rfl, by omega, by omega⟩⟩

/-- Settles O33: the advance, then the capture, which only adds a marker. -/
theorem markerIsTheNearestFourNanoseconds : Obligations.MarkerIsTheNearestFourNanoseconds := by
  intro s dt time
  refine ⟨fun t port role ahead crosses next => ?_, fun within => ?_⟩
  · change Host.Outcome.next _ = Host.Outcome.next _
    rw [passTime_second time port role ahead crosses next]
  · have advanced := advanceBy_eq dt s.timing.base time.1
    obtain ⟨whole, small, nearest⟩ := marker_nearest (s.timing.base.now.advance dt) (Nat.mod_lt _ (by decide))
    have reached : exec (.receiveMarkerCapture dt) s = .next (announce (s.withBase { s.timing.base.advanceBy dt with
        markers := s.timing.base.markers ++ [(s.timing.base.now.advance dt).marker] })) := by
      change Host.Outcome.next _ = _
      rw [passTime_within dt s within]
      dsimp only [State.withBase_timing, TimeBase.captureMarker]
      rw [advanced]
      rfl
    refine ⟨_, (s.timing.base.now.advance dt).marker, reached, ?_⟩
    rw [announce_timing, announce_role, announce_link, announce_ladder, announce_planner, announce_tenants, announce_test,
      announce_store, announce_pending, State.withBase_timing]
    dsimp only
    refine ⟨rfl, ?_, ?_, whole, small, nearest, ?_, rfl, rfl, rfl, rfl, rfl, rfl, rfl, rfl, rfl, rfl⟩
    · rw [advanced]; rfl
    · rw [advanced]
    · rw [advanced]

end Sys2Proof.Machine
end

section
/-! SUPPORT. The choice of R112 and the class of R146 said once, and when an event of the timing blocks leaves traffic and
tests alone. -/

namespace Sys2Proof.Machine

/-! ## The selected source (R112) -/

/-- The order of the sources among equal levels: GNSS, EXT, LINK (R112). -/
def sourceRank : Source → Nat
  | .gnss => 0
  | .ext => 1
  | .link => 2

theorem sourceRank_inj {x y : Source} (h : sourceRank x = sourceRank y) : x = y := by
  cases x <;> cases y <;> first | rfl | cases h

/-- A source goes before every other candidate of a list: by a lower level, or by rank at the same level. -/
def Timing.goesFirst (t : Timing) (seen : List Source) (l : Nat) (x : Source) : Prop :=
  t.candidate x = some l ∧
  ∀ y ∈ seen, ∀ k, y ≠ x → t.candidate y = some k → l < k ∨ (l = k ∧ sourceRank x < sourceRank y)

/-- The choice over a list of sources: none without a candidate, else the candidate of the list that goes first. -/
def Timing.bestOf (t : Timing) (seen : List Source) : Option (Nat × Source) → Prop
  | none => ∀ y ∈ seen, t.candidate y = none
  | some (l, x) => x ∈ seen ∧ t.goesFirst seen l x

/-- A further source of a higher rank is chosen at a lower level only (R112). -/
theorem betterSource_bestOf (t : Timing) (seen : List Source) (best : Option (Nat × Source)) (src : Source)
    (h : t.bestOf seen best) (last : ∀ y ∈ seen, sourceRank y < sourceRank src) :
    t.bestOf (seen ++ [src]) (betterSource best (t.candidate src) src) := by
  have grown {P : Source → Prop} (old : ∀ y ∈ seen, P y) (added : P src) : ∀ y ∈ seen ++ [src], P y := by
    simpa [or_imp, forall_and] using ⟨old, added⟩
  cases level : t.candidate src with
  | none =>
    cases best with
    | none => exact grown h level
    | some p =>
      exact ⟨List.mem_append_left _ h.1, h.2.1, grown h.2.2 fun k _ e => by rw [level] at e; cases e⟩
  | some l =>
    have added : src ∈ seen ++ [src] := by simp
    cases best with
    | none => exact ⟨added, level, grown (fun y i k _ e => by rw [h y i] at e; cases e) fun k ne => absurd rfl ne⟩
    | some p =>
      obtain ⟨b, x⟩ := p
      obtain ⟨inside, held, first⟩ := h
      unfold betterSource
      dsimp only
      split
      · next lower =>
        refine ⟨added, level, grown (fun y i k _ e => .inl ?_) fun k ne => absurd rfl ne⟩
        by_cases same : y = x
        · rw [same, held] at e
          exact Option.some.inj e ▸ lower
        · rcases first y i k same e with h | ⟨rfl, -⟩ <;> omega
      · refine ⟨List.mem_append_left _ inside, held, grown first fun k _ e => ?_⟩
        obtain rfl := Option.some.inj (level.symm.trans e)
        have := last x inside
        omega

/-- What is chosen is the candidate that goes first of the three sources (R112). -/
theorem selection_iff (t : Timing) (x : Source) :
    t.selection = some x ↔ ∃ l, t.goesFirst [.gnss, .ext, .link] l x := by
  have start : t.bestOf [] none := nofun
  have gnss := betterSource_bestOf t [] none .gnss start nofun
  have ext := betterSource_bestOf t _ _ .ext gnss (by decide)
  have link := betterSource_bestOf t _ _ .link ext (by decide)
  have all (y : Source) : y ∈ [Source.gnss, .ext, .link] := by cases y <;> decide
  unfold Timing.selection
  dsimp only [List.nil_append, List.cons_append] at link
  generalize betterSource _ (t.candidate .link) .link = best at link ⊢
  cases best with
  | none =>
    refine ⟨nofun, ?_⟩
    rintro ⟨l, candidate, -⟩
    rw [link x (all x)] at candidate
    cases candidate
  | some p =>
    obtain ⟨b, y⟩ := p
    obtain ⟨-, first⟩ := link
    constructor
    · rintro ⟨⟩
      exact ⟨b, first⟩
    · rintro ⟨l, candidate, before⟩
      refine congrArg some ?_
      by_contra other
      have here := before y (all y) b other first.1
      have there := first.2 x (all x) l (Ne.symm other) candidate
      omega

/-! ## The class (R146) -/

/-- A re-evaluation judges the class by the record in force and the stored hub class (R146). -/
theorem reselect_cls (t : Timing) : t.reselect.servo.cls =
    judgedClass t.reselect.servo t.xfer.link.hubClass t.base.record.holdoverLimit := by
  rw [← reselect_record t, ← congrArg Transfer.link (reselect_xfer t)]
  rfl

theorem worse_num (c : QClass) : c.worse.num = min (c.num + 1) 5 := by
  cases c <;> rfl

/-! ## Traffic and tests -/

/-- A run in which no condition of a waiting step holds and the sources of a crossing are there is left as it is (R158,
R160). -/
def State.watchIdle (s : State) : Prop :=
  s.test.runState ≠ .running ∨ ∀ w, s.test.work = some w →
    (∀ cond limit, w.step.body = .wait cond limit → s.holds cond = false) ∧
    (∀ samples limit, w.step.body = .timingCross samples limit → s.crossReady = true)

theorem stepWatch_watchIdle (s : State) (h : s.watchIdle) : stepWatch s = s := by
  rcases h with idle | h
  · exact stepWatch_idle s idle
  unfold stepWatch
  split
  · rfl
  · next w work =>
    obtain ⟨wait, cross⟩ := h w work
    split
    · next cond limit body => rw [wait cond limit body, if_neg Bool.false_ne_true]
    · next samples limit body => rw [if_pos (cross samples limit body)]
    · rfl

/-- The event of a change of the timing blocks touches traffic only where a step ends. -/
theorem timingEvent_sameTraffic (after : Timing) (s : State) : sameTraffic s (timingEvent after s) := by
  have frame := timingEvent_eventFrame after s
  refine ⟨frame.role, timingEvent_link after s, frame.planner, frame.store, frame.pending, fun h => ?_⟩
  have notices := raiseTiming_onlyNotices s.timing (s.withTiming after) (timingCauses s.timing after false)
  have raised : ((s.withTiming after).raiseTiming s.timing (timingCauses s.timing after false)).watchIdle := by
    have timing := (timingEvent_timing after s).trans (notices.timing.trans rfl).symm
    have link := (timingEvent_link after s).trans (notices.link.trans rfl).symm
    rw [State.watchIdle, notices.test]
    refine h.imp id fun h w work => ?_
    obtain ⟨wait, cross⟩ := h w work
    refine ⟨fun cond limit body => ?_, fun samples limit body => ?_⟩
    · have := wait cond limit body
      cases cond <;> simpa only [State.holds, timing, link] using this
    · simpa only [State.crossReady, timing] using cross samples limit body
  rw [timingEvent, stepWatch_watchIdle _ raised, notices.test, notices.tenants, notices.ladder]
  exact ⟨rfl, rfl, rfl⟩

/-- The choice on a free line touches no traffic. -/
theorem OnlyNotices.sameTraffic {s t u : State} (h : OnlyNotices t u) (k : sameTraffic s t) : sameTraffic s u := by
  rw [h.eq]
  exact k

end Sys2Proof.Machine
end

section
/-! PROOF. SET_TIMING and TIME_SET (O36, O37). -/

namespace Sys2Proof.Machine

/-- Settles O37: the request's two branches, each answered on a free port. -/
theorem timeSetWaitsForTheBoundary : Obligations.TimeSetWaitsForTheBoundary := by
  intro s tag sec free
  refine ⟨fun refused => congrArg Host.Outcome.next (requestFrame_read tag (.timeSet sec) s _ _ free fun k => ?_),
    fun taken => congrArg Host.Outcome.next (requestFrame_done tag (.timeSet sec) s
      (s.withTiming { s.timing with base := { s.timing.base with pendingSet := some sec } }) _ _ free fun k => ?_)⟩
  · exact if_pos refused
  · exact if_neg taken

/-! ## The check of SET_TIMING (R110, R111) -/

theorem levelOk_iff (l : Option Nat) : levelOk l = true ↔ ∀ n, l = some n → n ≤ 3 := by
  cases l <;> simp [levelOk]

theorem timingRecord_ok_iff (r : TimingRecord) : r.ok = true ↔
    (∀ n, (r.gnssLevel = some n ∨ r.extLevel = some n ∨ r.linkLevel = some n) → n ≤ 3) ∧
      r.pulseKp ≤ 65535 ∧ r.pulseKi ≤ 65535 ∧ r.linkKp ≤ 65535 ∧ r.linkKi ≤ 65535 ∧
      100 ≤ r.stepThreshold ∧ r.stepThreshold ≤ 1000000 ∧ 8 ≤ r.lockWindow ∧ r.lockWindow ≤ 10000 ∧
      60 ≤ r.holdoverLimit ∧ r.holdoverLimit ≤ 86400 ∧ 64 ≤ r.timingPeriod ∧ r.timingPeriod ≤ 4096 ∧
      r.ltx ≤ 65535 ∧ r.lrx ≤ 65535 ∧ -10000 ≤ r.asymmetry ∧ r.asymmetry ≤ 10000 := by
  simp only [TimingRecord.ok, Bool.and_eq_true, levelOk_iff, decide_eq_true_eq, or_imp, forall_and, and_assoc]

/-- The timing blocks once a record is in force (R111). -/
def Timing.underRecord (t : Timing) (role : Option Role) (r : TimingRecord) : Timing :=
  { t with base := { t.base with record := r }, xfer := t.xfer.limitCountdown role r.timingPeriod }

theorem takeTimingRecord_timing (r : TimingRecord) (s : State) :
    (takeTimingRecord r s).timing = (s.timing.underRecord s.role r).reselect := timingEvent_timing _ s

/-- A limit of the countdown touches the countdown only (R111). -/
theorem limitCountdown_eq (x : Transfer) (role : Option Role) (period : Nat) : x.limitCountdown role period =
    { x with countdown := if role = some .hub then min x.countdown period else x.countdown } := by
  unfold Transfer.limitCountdown
  split <;> rfl

/-- The candidates' order in words: QUALIFIED at a level of its own, and no other QUALIFIED source before it (R112). -/
theorem goesFirst_iff (t : Timing) (l : Nat) (x : Source) : t.goesFirst [.gnss, .ext, .link] l x ↔
    t.sourceState x = .qualified ∧ t.level x = some l ∧
      ∀ y k, y ≠ x → t.sourceState y = .qualified → t.level y = some k → l < k ∨ (l = k ∧ sourceRank x < sourceRank y) := by
  have all (y : Source) : y ∈ [Source.gnss, .ext, .link] := by cases y <;> decide
  have candidate (y : Source) (k : Nat) : t.candidate y = some k ↔ t.sourceState y = .qualified ∧ t.level y = some k := by
    unfold Timing.candidate
    split <;> simp_all
  simp only [Timing.goesFirst, candidate, all, true_imp_iff, and_assoc, and_imp]

/-- Settles O36: the record is in force, and behind it the selection is the candidate that goes first and the class the
judged one. -/
theorem setTimingTakesOrRefuses : Obligations.SetTimingTakesOrRefuses := by
  intro s tag r free good
  have goodIff : r.ok = true ↔ good := timingRecord_ok_iff r
  rw [← goodIff]
  refine ⟨fun bad => congrArg Host.Outcome.next (requestFrame_read tag (.setTiming r) s _ _ free fun k => if_neg bad),
    fun ok => ⟨takeTimingRecord r (s.serving 12 tag),
      congrArg Host.Outcome.next (requestFrame_ends tag (.setTiming r) s _ _ _ free (if_pos ok)), ?_⟩⟩
  have timing : (takeTimingRecord r (s.serving 12 tag)).timing = (s.timing.underRecord s.role r).reselect :=
    takeTimingRecord_timing r (s.serving 12 tag)
  have base := reselect_base (s.timing.underRecord s.role r)
  have xfer := (reselect_xfer (s.timing.underRecord s.role r)).trans
    (limitCountdown_eq s.timing.xfer s.role r.timingPeriod)
  have link := congrArg Transfer.link xfer
  have hub : (s.timing.underRecord s.role r).xfer.link = s.timing.xfer.link := by
    rw [← link, reselect_xfer]
  obtain ⟨f, fHold, -, -⟩ := reselect_integral (s.timing.underRecord s.role r)
  have selects := selection_iff (s.timing.underRecord s.role r)
  have cls := reselect_cls (s.timing.underRecord s.role r)
  rw [hub] at cls
  rw [timing, base, xfer]
  refine ⟨rfl, rfl, rfl, rfl, rfl, rfl, rfl, rfl, ?_, fHold, f, timingEvent_sameTraffic _ (s.serving 12 tag)⟩
  intro state level rank v
  refine ⟨fun x => ?_, fun locked pulse => ?_, fun c locked link known => ?_, fun holdover => ?_, fun acquiring => ?_,
    fun freerun => ?_⟩
  · have states (y : Source) : state y = (s.timing.underRecord s.role r).sourceState y := by
      cases y
      case link => exact congrArg LinkSource.state hub.symm
      all_goals rfl
    have levels (y : Source) : level y = (s.timing.underRecord s.role r).level y := by cases y <;> rfl
    have ranks (y : Source) : rank y = sourceRank y := by cases y <;> rfl
    simp only [states, levels, ranks]
    rw [reselect_selected, selects]
    simp only [goesFirst_iff, exists_and_left]
  · exact cls.trans (by rw [judgedClass, locked]; exact if_neg pulse)
  · rw [← worse_num]
    exact congrArg QClass.num (cls.trans (by rw [judgedClass, locked, known]; exact if_pos link))
  · exact cls.trans (by rw [judgedClass, holdover]; rfl)
  · exact cls.trans (by rw [judgedClass, acquiring])
  · exact cls.trans (by rw [judgedClass, freerun])

end Sys2Proof.Machine
end

section
/-! SUPPORT and PROOF. A qualifier replaced, the last source lost, and the absence of a pulse input and of LINK (O32). -/

namespace Sys2Proof.Machine

/-! ## A qualifier replaced, and what leaves the qualifiers alone -/

@[simp] theorem qualifier_withQualifier (b : TimeBase) (i : PulseInput) (q : Qualifier) :
    (b.withQualifier i q).qualifier i = q := by
  cases i <;> rfl

theorem qualifier_withQualifier_of_ne (b : TimeBase) {i j : PulseInput} (q : Qualifier) (other : j ≠ i) :
    (b.withQualifier i q).qualifier j = b.qualifier j := by
  cases i <;> cases j <;> first | rfl | exact absurd rfl other

@[simp] theorem withQualifier_advance (b : TimeBase) (i : PulseInput) (q : Qualifier) :
    (b.withQualifier i q).advance = b.advance := by
  cases i <;> rfl

@[simp] theorem withQualifier_now (b : TimeBase) (i : PulseInput) (q : Qualifier) :
    (b.withQualifier i q).now = b.now := by
  cases i <;> rfl

@[simp] theorem qualifier_advanceBy (dt : Nat) (b : TimeBase) (i : PulseInput) :
    (b.advanceBy dt).qualifier i = b.qualifier i := by
  obtain ⟨gnss, ext⟩ := advanceBy_sources dt b
  cases i
  · exact gnss
  · exact ext

@[simp] theorem advanceBy_advance (dt : Nat) (b : TimeBase) : (b.advanceBy dt).advance = b.advance + dt :=
  (advanceBy_reads dt b).2

@[simp] theorem reselect_qualifier (t : Timing) (i : PulseInput) :
    t.reselect.base.qualifier i = t.base.qualifier i := by
  rw [reselect_base]
  cases i <;> rfl

@[simp] theorem reselect_advance (t : Timing) : t.reselect.base.advance = t.base.advance := by
  rw [reselect_base]

/-- The state of a pulse source is that of its qualifier, and another source does not see the qualifier. -/
theorem sourceState_withQualifier (t : Timing) (b : TimeBase) (i : PulseInput) (q : Qualifier) (y : Source) :
    Timing.sourceState { t with base := b.withQualifier i q } y =
      if y = i.source then q.state else Timing.sourceState { t with base := b } y := by
  cases i <;> cases y <;> rfl

/-! ## The last source lost (R113, R141) -/

theorem candidate_of_state {t : Timing} {y : Source} (state : t.sourceState y ≠ .qualified) : t.candidate y = none :=
  if_neg state

/-- A candidate is one by its state and its level. -/
theorem candidate_congr {a b : Timing} {y : Source} (state : b.sourceState y = a.sourceState y)
    (record : b.base.record = a.base.record) : b.candidate y = a.candidate y := by
  have level : b.level y = a.level y := by cases y <;> simp only [Timing.level, record]
  simp only [Timing.candidate, state, level]

theorem selection_none {t : Timing} (h : ∀ y, t.candidate y = none) : t.selection = none := by
  rw [Timing.selection, h .gnss, h .ext, h .link]
  rfl

/-- Where the source held becomes ABSENT and no other is a candidate, an ever-locked Servo enters HOLDOVER (R141, R143). -/
theorem reselect_lastLost {a b : Timing} {x : Source} (servo : b.servo = a.servo) (record : b.base.record = a.base.record)
    (absent : b.sourceState x = .absent) (others : ∀ y, y ≠ x → b.sourceState y = a.sourceState y)
    (held : a.servo.selected = some x) (alone : ∀ y, y ≠ x → a.candidate y = none) (mark : a.servo.everLocked = true) :
    b.reselect = b.enterHoldover.rejudge := by
  have none (y : Source) : b.candidate y = none := by
    by_cases same : y = x
    · exact candidate_of_state (by rw [same, absent]; decide)
    · exact (candidate_congr (others y same) record).trans (alone y same)
  exact (reselect_lost b x (servo ▸ held) (selection_none none)).1 (servo ▸ mark)

/-- The class at the entry to HOLDOVER (R146). -/
theorem enterHoldover_cls (t : Timing) (limit : 0 < t.base.record.holdoverLimit) :
    t.enterHoldover.rejudge.servo.cls = .c3 := if_pos limit

/-! ## The absence of a pulse input (R108) -/

/-- ABSENCE_EXPIRY of a supervised input whose expiry comes before the next boundary's event. -/
theorem exec_absenceExpiry (s : State) (i : PulseInput) (p : Nat) (present : (s.timing.base.qualifier i).state ≠ .absent)
    (last : (s.timing.base.qualifier i).lastPulse = some p)
    (within : p + 3000000000 - s.timing.base.advance ≤ s.toBoundary) :
    exec (.absenceExpiry i) s = .next (announce (timingEvent
      (Timing.inputExpired { s.timing with base := s.timing.base.advanceBy (p + 3000000000 - s.timing.base.advance) } i)
      (s.withBase (s.timing.base.advanceBy (p + 3000000000 - s.timing.base.advance))))) := by
  have expiry : (s.timing.base.qualifier i).expiryAt = some (p + 3000000000) := by
    rw [Qualifier.expiryAt, if_neg present, last]
    rfl
  have dt : s.timing.base.toExpiry i = p + 3000000000 - s.timing.base.advance := by rw [TimeBase.toExpiry, expiry]
  change Host.Outcome.next (announce (absenceNow i (passTime (s.timing.base.toExpiry i) s))) = _
  rw [dt, passTime_within _ s within]
  refine congrArg (Host.Outcome.next ∘ announce) (if_pos ?_)
  change ((s.timing.base.advanceBy _).qualifier i).expiryAt.isSome = true
  rw [qualifier_advanceBy, expiry]
  rfl

/-- An input's expiry leaves the qualifier ABSENT and empty, and no other source is touched (R108). -/
theorem inputExpired_qualifiers (t : Timing) (i : PulseInput) :
    (t.inputExpired i).base.qualifier i = (t.base.qualifier i).expire ∧
    ∀ j, j ≠ i → (t.inputExpired i).base.qualifier j = t.base.qualifier j := by
  refine ⟨?_, fun j other => ?_⟩ <;> rw [Timing.inputExpired, reselect_qualifier]
  · exact qualifier_withQualifier _ i _
  · exact qualifier_withQualifier_of_ne _ _ other

/-- The expiry of the last source brings HOLDOVER (R113, R141). -/
theorem inputExpired_lastLost (t : Timing) (i : PulseInput) (held : t.servo.selected = some i.source)
    (alone : ∀ y, y ≠ i.source → t.candidate y = none) (mark : t.servo.everLocked = true) : t.inputExpired i =
    (Timing.enterHoldover { t with base := t.base.withQualifier i (t.base.qualifier i).expire }).rejudge := by
  refine reselect_lastLost (a := t) (x := i.source) rfl (withQualifier_record _ _ _) ?_ (fun y other => ?_) held alone mark
  · exact (sourceState_withQualifier t t.base i _ _).trans (if_pos rfl)
  · exact (sourceState_withQualifier t t.base i _ _).trans (if_neg other)

/-- The event of a change of the timing blocks once local time has passed touches traffic only where a step ends. -/
theorem passed_sameTraffic (after : Timing) (b : TimeBase) (s : State) :
    sameTraffic s (timingEvent after (s.withBase b)) := timingEvent_sameTraffic after (s.withBase b)

/-- An absence with the source that is lost, before the choice on a free line (R108, R113). -/
theorem absenceExpiry_effect (s : State) (i : PulseInput) (b : TimeBase)
    (same : ∀ j, b.qualifier j = s.timing.base.qualifier j) (record : b.record = s.timing.base.record) :
    let t := Timing.inputExpired { s.timing with base := b } i
    t.base.advance = b.advance ∧ t.base.qualifier i = (s.timing.base.qualifier i).expire ∧
    (∀ j, j ≠ i → t.base.qualifier j = s.timing.base.qualifier j) ∧
    (s.timing.servo.selected = some i.source → (∀ y, y ≠ i.source → s.timing.candidate y = none) →
      s.timing.servo.everLocked = true →
      t.servo.state = .holdover ∧ t.servo.selected = none ∧ t.base.steer = s.timing.servo.fHold ∧
      t.servo.f = s.timing.servo.f ∧ t.servo.elapsed = 0 ∧
      t.servo.counters.holdoverEntries = bump s.timing.servo.counters.holdoverEntries ∧
      (0 < s.timing.base.record.holdoverLimit → t.servo.cls = .c3)) := by
  obtain ⟨lost, others⟩ := inputExpired_qualifiers { s.timing with base := b } i
  refine ⟨?_, lost.trans (congrArg _ (same i)), fun j other => (others j other).trans (same j),
    fun held alone mark => ?_⟩
  · rw [Timing.inputExpired, reselect_advance]
    exact withQualifier_advance _ _ _
  · have sources (y : Source) : Timing.sourceState { s.timing with base := b } y = s.timing.sourceState y := by
      cases y
      · exact congrArg Qualifier.state (same .gnss)
      · exact congrArg Qualifier.state (same .ext)
      · rfl
    have moved := inputExpired_lastLost { s.timing with base := b } i held
      (fun y other => (candidate_congr (sources y) record).trans (alone y other)) mark
    rw [moved]
    refine ⟨rfl, rfl, rfl, rfl, rfl, rfl, fun limit => enterHoldover_cls _ ?_⟩
    exact (congrArg TimingRecord.holdoverLimit ((withQualifier_record _ _ _).trans record)).symm ▸ limit

/-- Settles O32: the source lost is ABSENT, so where it was the last the re-evaluation enters HOLDOVER. -/
theorem losingTheSourceEntersHoldover : Obligations.LosingTheSourceEntersHoldover := by
  intro s
  refine ⟨fun i p present last within => ?_, fun i absent => ?_, fun none => ?_, fun due => ?_⟩
  · refine ⟨_, exec_absenceExpiry s i p present last within, ?_⟩
    obtain ⟨advance, lost, others, holdover⟩ := absenceExpiry_effect s i
      (s.timing.base.advanceBy (p + 3000000000 - s.timing.base.advance)) (fun j => qualifier_advanceBy _ _ j)
      (advanceBy_record _ _)
    refine ⟨(announce_onlyNotices _).sameTraffic (passed_sameTraffic _ _ s), ?_⟩
    rw [announce_timing, timingEvent_timing]
    refine ⟨?_, ?_, others, holdover⟩
    · rw [advance, advanceBy_advance]
      omega
    · rw [lost]
      exact ⟨rfl, rfl, rfl, rfl, rfl, rfl, rfl, rfl⟩
  · have never : (s.timing.base.qualifier i).expiryAt = none := if_pos absent
    have now : s.timing.base.toExpiry i = 0 := by rw [TimeBase.toExpiry, never]
    change Host.Outcome.next (announce (absenceNow i (passTime (s.timing.base.toExpiry i) s))) = _
    rw [now, passTime_zero, absenceNow, never]
    rfl
  · exact congrArg (Host.Outcome.next ∘ announce) (if_neg (none ▸ Bool.false_ne_true))
  · refine ⟨_, congrArg (Host.Outcome.next ∘ announce) (if_pos due),
      (announce_onlyNotices _).sameTraffic (timingEvent_sameTraffic _ s), ?_⟩
    rw [announce_timing, timingEvent_timing]
    have xfer : s.timing.linkExpired.xfer = { s.timing.xfer with link := s.timing.xfer.link.toAbsent } := reselect_xfer _
    have base : s.timing.linkExpired.base = _ := reselect_base _
    refine ⟨by rw [xfer]; rfl, by rw [base], by rw [xfer], fun held alone mark => ?_⟩
    have moved : s.timing.linkExpired = _ := reselect_lastLost (a := s.timing) (x := .link)
      (b := { s.timing with xfer := { s.timing.xfer with link := s.timing.xfer.link.toAbsent } }) rfl rfl rfl
      (fun y other => by cases y <;> first | rfl | exact absurd rfl other) held alone mark
    rw [moved]
    exact ⟨rfl, rfl, rfl, rfl, enterHoldover_cls _⟩

end Sys2Proof.Machine
end

section
/-! SUPPORT. What the Servo does with a measurement it acts on (R136 to R140), in the words of `measured`. -/

namespace Sys2Proof.Machine

/-! ## The counting stage by its cases (R140) -/

theorem countStage_acquiring (t : Timing) (e : Int) (state : t.servo.state = .acquiring) :
    (¬ e.natAbs ≤ t.base.record.lockWindow → t.countStage e = { t with servo := { t.servo with lock := 0 } }) ∧
    (e.natAbs ≤ t.base.record.lockWindow → t.servo.lock + 1 < 16 →
      t.countStage e = { t with servo := { t.servo with lock := t.servo.lock + 1 } }) ∧
    (e.natAbs ≤ t.base.record.lockWindow → 16 ≤ t.servo.lock + 1 → t.countStage e = { t with servo := { t.servo with
      state := .locked, lock := 0, unlock := 0, everLocked := true, lockedTime := 0,
      counters := { t.servo.counters with lockEntries := bump t.servo.counters.lockEntries } } }) := by
  unfold Timing.countStage
  dsimp only
  rw [state]
  exact ⟨fun out => if_neg out, fun inside few => (if_pos inside).trans (if_neg (Nat.not_le.mpr few)),
    fun inside many => (if_pos inside).trans (if_pos many)⟩

theorem countStage_locked (t : Timing) (e : Int) (state : t.servo.state = .locked) :
    (e.natAbs ≤ t.base.record.lockWindow → t.countStage e = { t with servo := { t.servo with unlock := 0 } }) ∧
    (¬ e.natAbs ≤ t.base.record.lockWindow → t.servo.unlock + 1 < 4 →
      t.countStage e = { t with servo := { t.servo with unlock := t.servo.unlock + 1 } }) ∧
    (¬ e.natAbs ≤ t.base.record.lockWindow → 4 ≤ t.servo.unlock + 1 → t.countStage e = { t with servo := { t.servo with
      state := .acquiring, lock := 0, unlock := 0, lockedTime := 0,
      counters := { t.servo.counters with unlockEvents := bump t.servo.counters.unlockEvents } } }) := by
  unfold Timing.countStage
  dsimp only
  rw [state]
  exact ⟨fun inside => if_pos inside, fun out few => (if_neg out).trans (if_neg (Nat.not_le.mpr few)),
    fun out many => (if_neg out).trans (if_pos many)⟩

/-- The counting stage counts entries and exits of LOCKED and nothing else (R140). -/
theorem countStage_counters (t : Timing) (e : Int) : (t.countStage e).servo.counters = { t.servo.counters with
    lockEntries := (t.countStage e).servo.counters.lockEntries,
    unlockEvents := (t.countStage e).servo.counters.unlockEvents } := by
  unfold Timing.countStage
  dsimp only
  repeat' split
  all_goals rfl

/-! ## A measurement acted on -/

theorem actsOn_iff (v : Servo) (src : Source) :
    v.actsOn src = true ↔ v.selected = some src ∧ (v.state = .acquiring ∨ v.state = .locked) := by
  simp [Servo.actsOn]

theorem stepNeeded_iff (t : Timing) (src : Source) (m w : Int) : t.stepNeeded src m w = true ↔
    t.servo.state = .acquiring ∧ t.servo.everLocked = false ∧
      (t.base.record.stepThreshold < m.natAbs ∨ (src = .link ∧ w ≠ 0)) := by
  simp [Timing.stepNeeded, and_assoc]

/-- The gains of a source's kind (R136). -/
theorem gains_eq (r : TimingRecord) (src : Source) :
    r.gains src = (if src = .link then r.linkKp else r.pulseKp, if src = .link then r.linkKi else r.pulseKi) := by
  cases src <;> rfl

/-- A measurement taken in, steered by and averaged (R136, R138, R139). -/
def Timing.steered (t : Timing) (src : Source) (m : Int) : Timing :=
  let u := (t.takeInput src m).steerStage (clampTo inputBound m)
    (if src = .link then t.base.record.linkKp else t.base.record.pulseKp,
      if src = .link then t.base.record.linkKi else t.base.record.pulseKi)
  { u with servo := { u.servo with
      fHold := if u.servo.state = .locked then u.servo.fHold + rndDiv (u.servo.f - u.servo.fHold) 16 else u.servo.fHold } }

/-- A measurement that makes no step is counted once it is steered by, and the class re-judged (R138 to R140, R146). -/
theorem measure_counts {t : Timing} {src : Source} {m w : Int} (acts : t.servo.actsOn src = true)
    (step : t.stepNeeded src m w = false) :
    (t.measure src m w).1 = ((t.steered src m).countStage (clampTo inputBound m)).rejudge := by
  rw [measure_steers t src m w acts step, averageStage_eq, gains_eq]
  rfl

/-- A measurement the Servo acts on, as R136 to R140 say it. -/
theorem measure_measured (t : Timing) (src : Source) (m w : Int) (held : t.servo.selected = some src)
    (state : t.servo.state = .acquiring ∨ t.servo.state = .locked) : measured src m w t (t.measure src m w).1 := by
  have acts := (actsOn_iff t.servo src).mpr ⟨held, state⟩
  have needed := stepNeeded_iff t src m w
  cases step : t.stepNeeded src m w with
  | true =>
    rw [measure_steps t src m w acts step]
    obtain ⟨acquiring, mark, why⟩ := needed.mp step
    by_cases link : src = .link
    · subst link
      exact ⟨rfl, rfl, held, rfl, fun _ => ⟨rfl, rfl, rfl, rfl, rfl, acquiring, rfl, rfl, mark, fun k => absurd rfl k,
        fun _ => ⟨rfl, rfl⟩⟩, fun k => absurd ⟨acquiring, mark, why⟩ k⟩
    · rw [Timing.makeStep, if_neg link, measured]
      exact ⟨rfl, rfl, held, rfl, fun _ => ⟨by rw [if_neg link]; rfl, rfl, rfl, rfl, rfl, acquiring, rfl, rfl, mark,
        fun _ => ⟨rfl, rfl⟩, fun k => absurd k link⟩, fun k => absurd ⟨acquiring, mark, why⟩ k⟩
  | false =>
    rw [measure_counts acts step]
    refine ⟨by rw [countStage_frame]; rfl, ?_, by rw [countStage_frame]; exact held, by rw [countStage_frame]; rfl,
      fun k => absurd (needed.mpr k) (by rw [step]; exact Bool.false_ne_true),
      fun _ => ⟨by rw [countStage_frame]; rfl, by rw [countStage_frame]; rfl, by rw [countStage_frame]; rfl, ?_, ?_,
        by rw [countStage_frame]; rfl, by rw [countStage_frame]; rfl, by rw [countStage_frame]; rfl,
        fun state out => ?_, fun state inside few => ?_, fun state inside many => ?_, fun state inside => ?_,
        fun state out few => ?_, fun state out many => ?_⟩⟩
    · exact (congrArg (·.acted) (countStage_counters _ _) :)
    · exact (congrArg (·.steps) (countStage_counters _ _) :)
    · exact (congrArg (·.fullSets) (countStage_counters _ _) :)
    · obtain ⟨misses, -, -⟩ := countStage_acquiring (t.steered src m) (clampTo inputBound m) state
      rw [misses out]
      exact ⟨state, rfl⟩
    · obtain ⟨-, nears, -⟩ := countStage_acquiring (t.steered src m) (clampTo inputBound m) state
      rw [nears inside few]
      exact ⟨state, rfl⟩
    · obtain ⟨-, -, locks⟩ := countStage_acquiring (t.steered src m) (clampTo inputBound m) state
      rw [locks inside many]
      exact ⟨rfl, rfl, rfl, rfl, rfl, rfl⟩
    · obtain ⟨holds, -, -⟩ := countStage_locked (t.steered src m) (clampTo inputBound m) state
      rw [holds inside]
      exact ⟨state, rfl, rfl⟩
    · obtain ⟨-, strays, -⟩ := countStage_locked (t.steered src m) (clampTo inputBound m) state
      rw [strays out few]
      exact ⟨state, rfl, rfl⟩
    · obtain ⟨-, -, unlocks⟩ := countStage_locked (t.steered src m) (clampTo inputBound m) state
      rw [unlocks out many]
      exact ⟨rfl, rfl, rfl, rfl, rfl⟩

end Sys2Proof.Machine
end

section
/-! SUPPORT. A pulse as the timing blocks take it: judged, the selection re-evaluated, a good one's measurement kept and
handed on (R106, R107, R109, R113). -/

namespace Sys2Proof.Machine

/-! ## What a measurement leaves alone -/

theorem measure_qualifier (t : Timing) (src : Source) (m w : Int) (i : PulseInput) :
    (t.measure src m w).1.base.qualifier i = t.base.qualifier i := by
  cases acts : t.servo.actsOn src with
  | false => rw [measure_ignored t src m w acts]
  | true =>
    cases step : t.stepNeeded src m w with
    | true =>
      rw [measure_steps t src m w acts step, Timing.makeStep]
      dsimp only
      split <;> cases i <;> rfl
    | false =>
      rw [measure_counts acts step, countStage_frame]
      cases i <;> rfl

theorem measure_advance (t : Timing) (src : Source) (m w : Int) :
    (t.measure src m w).1.base.advance = t.base.advance := by
  cases acts : t.servo.actsOn src with
  | false => rw [measure_ignored t src m w acts]
  | true =>
    cases step : t.stepNeeded src m w with
    | true =>
      rw [measure_steps t src m w acts step, Timing.makeStep]
      dsimp only
      split <;> rfl
    | false =>
      rw [measure_counts acts step, countStage_frame]
      rfl

/-! ## The measurement kept -/

theorem keepM_selection (t : Timing) (i : PulseInput) (m : Int) : (t.keepM i m).selection = t.selection := by
  refine selection_congr (fun y => ?_) (withQualifier_record _ _ _)
  cases i <;> cases y <;> rfl

theorem takeSelection_keepM (t : Timing) (i : PulseInput) (m : Int) (x : Option Source) :
    (t.keepM i m).takeSelection x = (t.takeSelection x).keepM i m := by
  have servo : (t.keepM i m).servo = t.servo := rfl
  unfold Timing.takeSelection
  rw [servo]
  split
  · rfl
  · cases t.servo.selected <;> cases x <;> dsimp only
    repeat' split
    all_goals cases i <;> rfl

/-- A qualifier's last measurement plays no part in the selection (R112, R113). -/
theorem reselect_keepM (t : Timing) (i : PulseInput) (m : Int) : (t.keepM i m).reselect = t.reselect.keepM i m := by
  rw [Timing.reselect, keepM_selection, takeSelection_keepM]
  cases i <;> rfl

/-! ## A pulse at the present moment -/

/-- The qualifier after a pulse, a good one's measurement kept (R106, R107, R109). -/
def Timing.qualifierAfter (t : Timing) (i : PulseInput) : Qualifier :=
  let r := (t.base.qualifier i).pulse t.base.advance t.base.now
  if r.2 = .good then { r.1 with lastM := some (phaseMeasurement t.base.now.half) } else r.1

/-- The timing blocks once a pulse is judged and the selection re-evaluated (R106, R107, R113). -/
def Timing.pulseJudged (t : Timing) (i : PulseInput) : Timing :=
  ({ t with base := t.base.withQualifier i (t.qualifierAfter i) } : Timing).reselect

/-- A good pulse: the qualifier after it holds its measurement (R109). -/
theorem qualifierAfter_good {t : Timing} {i : PulseInput}
    (good : judgePulse (t.base.qualifier i).reference t.base.advance = .good) :
    t.qualifierAfter i = { ((t.base.qualifier i).pulse t.base.advance t.base.now).1 with
      lastM := some (phaseMeasurement t.base.now.half) } := if_pos good

theorem qualifierAfter_other {t : Timing} {i : PulseInput}
    (other : judgePulse (t.base.qualifier i).reference t.base.advance ≠ .good) :
    t.qualifierAfter i = ((t.base.qualifier i).pulse t.base.advance t.base.now).1 := if_neg other

/-- A pulse's judgement and the selection behind it, the measurement of a good one kept. -/
theorem pulseJudged_eq (t : Timing) (i : PulseInput) :
    (judgePulse (t.base.qualifier i).reference t.base.advance = .good →
      t.pulseJudged i = (t.pulsed i).1.keepM i (phaseMeasurement t.base.now.half)) ∧
    (judgePulse (t.base.qualifier i).reference t.base.advance ≠ .good → t.pulseJudged i = (t.pulsed i).1) := by
  refine ⟨fun good => ?_, fun other => ?_⟩ <;> rw [Timing.pulseJudged]
  · rw [qualifierAfter_good good, Timing.pulsed, ← reselect_keepM]
    cases i <;> rfl
  · rw [qualifierAfter_other other]
    rfl

theorem pulsed_judgement (t : Timing) (i : PulseInput) :
    (t.pulsed i).2 = judgePulse (t.base.qualifier i).reference t.base.advance := rfl

/-- A pulse is judged, and the measurement of a good one handed to the Servo (R109, R136). -/
theorem takePulse_timing (i : PulseInput) (s : State) :
    (judgePulse (s.timing.base.qualifier i).reference s.timing.base.advance = .good → (takePulse i s).timing =
      ((s.timing.pulseJudged i).measure i.source (phaseMeasurement s.timing.base.now.half) 0).1) ∧
    (judgePulse (s.timing.base.qualifier i).reference s.timing.base.advance ≠ .good →
      (takePulse i s).timing = s.timing.pulseJudged i) := by
  obtain ⟨good, other⟩ := pulseJudged_eq s.timing i
  refine ⟨fun h => ?_, fun h => ?_⟩ <;> unfold takePulse <;> dsimp only
  · rw [pulsed_judgement, if_pos h, good h]
    cases i <;> dsimp only
    · rw [(crossSample_stepFrame _ _).timing, handOn_timing, timingEvent_timing]
      rfl
    · rw [handOn_timing, timingEvent_timing]
      rfl
  · rw [pulsed_judgement, if_neg h, other h, timingEvent_timing]

theorem handOn_link (x : Source) (m w : Int) (s : State) : (handOn x m w s).link = s.link := by
  unfold handOn
  dsimp only
  rw [(stepWatch_stepFrame _).link, (raiseTiming_onlyNotices _ _ _).link]
  rfl

theorem takePulse_link (i : PulseInput) (s : State) : (takePulse i s).link = s.link := by
  unfold takePulse
  dsimp only
  have handed (t : Timing) (m : Int) :
      (handOn i.source m 0 ((timingEvent (s.timing.pulsed i).1 s).withTiming t)).link = s.link :=
    (handOn_link _ _ _ _).trans (timingEvent_link _ s)
  split
  · cases i <;> dsimp only
    · rw [(crossSample_stepFrame _ _).link, handed]
    · exact handed _ _
  · exact timingEvent_link _ s

/-- PULSE before the next boundary's event, with nothing due at its moment. -/
theorem exec_pulse {s : State} {dt : Nat} (i : PulseInput) (within : dt ≤ s.toBoundary)
    (quiet : (s.withBase (s.timing.base.advanceBy dt)).quiet = true) :
    exec (.pulse i dt) s = .next (announce (takePulse i (s.withBase (s.timing.base.advanceBy dt)))) := by
  rw [← settle_quiet _ quiet, ← passTime_within dt s within]
  rfl

/-! ## The judgement and the measurement -/

/-- A pulse is good when its interval is within 1 s plus or minus 1,000 ns (R106). -/
theorem judgePulse_good {q reading : Nat} {reference : Option Nat} (known : reference = some q)
    (least : 1999998000 ≤ reading - q) (most : reading - q ≤ 2000002000) : judgePulse reference reading = .good := by
  rw [known, judgePulse, if_neg (by omega), if_pos ⟨least, most⟩]

/-- What stands in the qualifiers and in the reading after a pulse (R106, R107, R109). -/
theorem takePulse_base (i : PulseInput) (s : State) :
    (takePulse i s).timing.base.advance = s.timing.base.advance ∧
    (takePulse i s).timing.base.qualifier i = s.timing.qualifierAfter i ∧
    ∀ j, j ≠ i → (takePulse i s).timing.base.qualifier j = s.timing.base.qualifier j := by
  have judged : (s.timing.pulseJudged i).base.advance = s.timing.base.advance ∧
      (s.timing.pulseJudged i).base.qualifier i = s.timing.qualifierAfter i ∧
      ∀ j, j ≠ i → (s.timing.pulseJudged i).base.qualifier j = s.timing.base.qualifier j := by
    simp only [Timing.pulseJudged, reselect_advance, reselect_qualifier]
    exact ⟨withQualifier_advance _ _ _, qualifier_withQualifier _ _ _, fun j => qualifier_withQualifier_of_ne _ _⟩
  obtain ⟨good, other⟩ := takePulse_timing i s
  by_cases h : judgePulse (s.timing.base.qualifier i).reference s.timing.base.advance = .good
  · simp only [good h, measure_advance, measure_qualifier]
    exact judged
  · rw [other h]
    exact judged

end Sys2Proof.Machine
end

section
/-! SUPPORT and PROOF. A good pulse measured and steered by (O31, its first two parts). -/

namespace Sys2Proof.Machine

/-- A LOCKED Servo's count keeps the ever-locked mark (R140). -/
theorem countStage_everLocked (t : Timing) (e : Int) (mark : t.servo.state = .locked) :
    (t.countStage e).servo.everLocked = t.servo.everLocked := by
  obtain ⟨holds, strays, unlocks⟩ := countStage_locked t e mark
  by_cases inside : e.natAbs ≤ t.base.record.lockWindow
  · rw [holds inside]
  · by_cases few : t.servo.unlock + 1 < 4
    · rw [strays inside few]
    · rw [unlocks inside (by omega)]

/-- A measurement in LOCKED keeps the ever-locked mark (R137, R140). -/
theorem measure_everLocked (t : Timing) (src : Source) (m w : Int) (locked : t.servo.state = .locked) :
    (t.measure src m w).1.servo.everLocked = t.servo.everLocked := by
  cases acts : t.servo.actsOn src with
  | false => rw [measure_ignored t src m w acts]
  | true =>
    have step : t.stepNeeded src m w = false := by rw [Timing.stepNeeded, locked]; rfl
    rw [measure_counts acts step]
    exact countStage_everLocked _ _ locked

/-- A good pulse before the next boundary's event: the timing blocks measure behind the qualifier and the selection
(R106, R109, R113, R136). -/
theorem exec_goodPulse {s : State} {i : PulseInput} {dt r : Nat} (within : dt ≤ s.toBoundary)
    (quiet : (s.withBase (s.timing.base.advanceBy dt)).quiet = true)
    (reference : (s.timing.base.qualifier i).reference = some r)
    (least : 1999998000 ≤ s.timing.base.advance + dt - r) (most : s.timing.base.advance + dt - r ≤ 2000002000) :
    let m := phaseMeasurement (s.timing.base.advanceBy dt).now.half
    let a := Timing.pulseJudged { s.timing with base := s.timing.base.advanceBy dt } i
    ∃ t : State, exec (.pulse i dt) s = .next t ∧ t.timing = (a.measure i.source m 0).1 ∧
      t.timing.base.qualifier i = Timing.qualifierAfter { s.timing with base := s.timing.base.advanceBy dt } i ∧
      (t.timing.base.qualifier i).lastM = some m := by
  have good : judgePulse ((s.timing.base.advanceBy dt).qualifier i).reference (s.timing.base.advanceBy dt).advance = .good :=
    judgePulse_good ((congrArg Qualifier.reference (qualifier_advanceBy dt _ i)).trans reference)
      (by rw [advanceBy_advance]; exact least) (by rw [advanceBy_advance]; exact most)
  obtain ⟨measures, -⟩ := takePulse_timing i (s.withBase (s.timing.base.advanceBy dt))
  obtain ⟨-, after, -⟩ := takePulse_base i (s.withBase (s.timing.base.advanceBy dt))
  refine ⟨_, exec_pulse i within quiet, (announce_timing _).trans (measures good), ?_⟩
  rw [announce_timing, after]
  exact ⟨rfl, congrArg Qualifier.lastM (qualifierAfter_good good)⟩

/-- A good pulse at a QUALIFIED input leaves it QUALIFIED with its bad count cleared (R107). -/
theorem qualifierAfter_state {t : Timing} {i : PulseInput} (qualified : (t.base.qualifier i).state = .qualified)
    (good : judgePulse (t.base.qualifier i).reference t.base.advance = .good) :
    (t.qualifierAfter i).state = .qualified := by
  rw [qualifierAfter_good good]
  change ((t.base.qualifier i).judged (judgePulse _ _)).state = _
  rw [good]
  simp only [Qualifier.judged, qualified]

end Sys2Proof.Machine
end

section
/-! PROOF. The measurements the Servo acts on (O31). -/

namespace Sys2Proof.Machine

/-! ## A DELAY_RESP received alone at a TRAILER in UP (R125, R127, R132) -/

/-- A good header in UP moves no time and no source: its record's marker is taken off the list, and nothing else of the
timing blocks moves (R2). -/
theorem headerTaken_timing_up (s : State) (r : FrameRecord) (h : Header) (up : s.link.state = .up) :
    (s.headerTaken r h).timing =
      { s.timing with base := { s.timing.base with markers := s.timing.base.markers.tail } } := by
  have state : (s.recordTaken r).link.state = .up := up
  rw [headerTaken_timing, goodEffect, state]
  rfl

theorem headerTaken_state_up (s : State) (r : FrameRecord) (h : Header) (up : s.link.state = .up)
    (e : judgeHeader r = .good h) : (s.headerTaken r h).link.state = .up := by
  rw [headerTaken_link s r h e]
  simp only [LinkUnit.store, LinkUnit.goodHeader, up]

/-- A frame of two blocks or more keeps the block behind its header where it stood. -/
theorem padPositions_second {n free : Nat} {a b : Position} {rest : List Position} (two : 2 ≤ n) :
    ∃ tail, (padPositions n free (a :: b :: rest)).drop 1 = b :: tail := by
  obtain ⟨k, rfl⟩ := Nat.exists_eq_add_of_le two
  rw [Nat.add_comm]
  exact ⟨_, rfl⟩

/-- A DELAY_RESP that completes an exchange hands its measurement on behind the selection (R127, R132, R113). -/
theorem takeDelayResp_timing {s : State} {b : List Byte} {y : Transfer} {m w : Int}
    (taken : s.timing.xfer.takeResp (timingSeqAt b) (stampAt b 2) s.timing.base.record.asymmetry = (y, some (m, w))) :
    (takeDelayResp b s).timing = ((Timing.reselect { s.timing with xfer := y }).measure .link m w).1 := by
  unfold takeDelayResp
  rw [taken]
  dsimp only
  rw [handOn_timing, timingEvent_timing]

theorem exec_delayResp {s : State} {r : FrameRecord} {h : Header} {b : List Byte} {rest : List Position} {y : Transfer}
    {m w : Int} (trailer : s.role = some .trailer) (quiet : s.quiet = true) (up : s.link.state = .up) (wf : h.wf = true)
    (controls : h.controls = [.delayResp])
    (positions : r.positions = { bytes := h.bytes, bad := false } :: { bytes := b, bad := false } :: rest)
    (stamp : (stampAt b 2).ns ≤ 999999999)
    (taken : s.timing.xfer.takeResp (timingSeqAt b) (stampAt b 2) s.timing.base.record.asymmetry = (y, some (m, w))) :
    ∃ t : State, exec (.receivedFrameRecord r) s = .next t ∧ t.timing = ((Timing.reselect { s.timing with
      base := { s.timing.base with markers := s.timing.base.markers.tail }, xfer := y }).measure .link m w).1 := by
  have good := judgeHeader_bytes r h _ wf positions
  obtain ⟨-, -, -, -, blocks⟩ := h.wf_iff.mp wf
  have two : 2 ≤ Config.blocksOf h.txProfile := by
    rw [controls] at blocks
    exact Nat.le_trans (by simp [Nat.add_assoc]) blocks
  have first : (h.controls.zip ((padPositions (Config.blocksOf h.txProfile) s.freeIndex r.positions).drop 1)).head? =
      some (.delayResp, { bytes := b, bad := false }) := by
    obtain ⟨tail, second⟩ := padPositions_second two (free := s.freeIndex) (a := { bytes := h.bytes, bad := false })
      (b := { bytes := b, bad := false }) (rest := rest)
    rw [positions, controls, second]
    rfl
  refine ⟨_, exec_goodRecord s r h (by rw [trailer]; simp) quiet good, ?_⟩
  have wanted : discards (s.headerTaken r h).role (s.headerTaken r h).link.state
      (.delayResp, { bytes := b, bad := false }) = false :=
    discards_wanted _ _ _ _ (by rw [headerTaken_state_up s r h up good]; decide) rfl
      (.inr (.inr ⟨rfl, (headerTaken_role s r h).trans trailer⟩)) (fun late => Nat.not_lt.mpr stamp late.2)
  rw [announce_timing, frameTaken_timing s r h wf _ first, routeControl_takes _ _ _ _ wanted]
  dsimp only
  rw [takeDelayResp_timing (y := y) (m := m) (w := w) (by rw [headerTaken_timing_up s r h up]; exact taken),
    headerTaken_timing_up s r h up]

/-! ## The three parts -/

/-- A measurement of a source that the Servo does not hold is counted as ignored (R136). -/
theorem measure_unheld {t : Timing} {src : Source} {m w : Int} (other : t.servo.selected ≠ some src) :
    (t.measure src m w).1 =
      { t with servo := { t.servo with counters := { t.servo.counters with ignored := bump t.servo.counters.ignored } } } :=
  measure_ignored t src m w (Bool.eq_false_iff.mpr fun acts => other ((actsOn_iff _ _).mp acts).1)

/-- A good GNSS pulse with GNSS held and QUALIFIED leaves the selection, and re-judges the class alone (R107, R113). -/
theorem pulseJudged_held {t : Timing} {i : PulseInput} (held : t.selection = t.servo.selected)
    (qualified : (t.base.qualifier i).state = .qualified)
    (good : judgePulse (t.base.qualifier i).reference t.base.advance = .good) :
    t.pulseJudged i = Timing.rejudge { t with base := t.base.withQualifier i (t.qualifierAfter i) } := by
  refine reselect_same _ ((selection_congr (fun y => ?_) (withQualifier_record _ _ _)).trans held)
  rw [sourceState_withQualifier, qualifierAfter_state qualified good]
  split
  · next same =>
    rw [same, ← qualified]
    cases i <;> rfl
  · rfl

/-- A good pulse at a QUALIFIED input, with the source held standing, moves the Time Base on and re-judges the class
(R98, R107, R146). -/
theorem pulseJudged_within {t : Timing} {i : PulseInput} {r : Nat} (dt : Nat) (held : t.selection = t.servo.selected)
    (qualified : (t.base.qualifier i).state = .qualified) (reference : (t.base.qualifier i).reference = some r)
    (least : 1999998000 ≤ t.base.advance + dt - r) (most : t.base.advance + dt - r ≤ 2000002000)
    (within : t.base.now.half < 2000000000) : ∃ b : TimeBase, b.now = t.base.now.advance dt ∧ b.record = t.base.record ∧
      Timing.pulseJudged { t with base := t.base.advanceBy dt } i = Timing.rejudge { t with base := b } := by
  have same : Timing.selection { t with base := t.base.advanceBy dt } = t.selection := by
    obtain ⟨gnss, ext⟩ := advanceBy_sources dt t.base
    exact selection_congr (fun y => by cases y <;> simp only [Timing.sourceState, gnss, ext]) (advanceBy_record dt _)
  refine ⟨_, ?_, ?_, pulseJudged_held (t := { t with base := t.base.advanceBy dt }) (same.trans held)
    ((congrArg Qualifier.state (qualifier_advanceBy dt _ _)).trans qualified)
    (judgePulse_good ((congrArg Qualifier.reference (qualifier_advanceBy dt _ _)).trans reference)
      (by rw [advanceBy_advance]; exact least) (by rw [advanceBy_advance]; exact most))⟩
  · rw [withQualifier_now, advanceBy_eq dt _ within]
  · rw [withQualifier_record, advanceBy_record]

/-- Settles O31: each command's timing blocks are the measurement of those behind the selection, and `measure_measured`
says what a measurement does. -/
theorem lockedMeasurementSteers : Obligations.LockedMeasurementSteers := by
  refine ⟨fun s dt r within quiet locked held chosen qualified reference least most time => ?_,
    fun s i dt r within quiet time reference least most => ?_,
    fun s r h b rest y m w trailer quiet up wf controls positions stamp taken => ?_⟩
  · obtain ⟨t, next, timing, after, kept⟩ := exec_goodPulse (i := .gnss) within quiet reference least most
    obtain ⟨b, now, record, judged⟩ := pulseJudged_within dt (i := .gnss) (chosen.trans held.symm) qualified reference
      least most time.1
    rw [judged] at timing
    obtain ⟨lastE, acted, selected, -, -, stays⟩ :=
      measure_measured (Timing.rejudge { s.timing with base := b }) .gnss
        (phaseMeasurement (s.timing.base.advanceBy dt).now.half) 0 held (.inr locked)
    have everLocked := measure_everLocked (Timing.rejudge { s.timing with base := b }) .gnss
        (phaseMeasurement (s.timing.base.advanceBy dt).now.half) 0 locked
    obtain ⟨still, -, -, -, -, f, steer, fHold, -, -, -, inside, strays, unlocks⟩ := stays fun step => by
      have acquiring : s.timing.servo.state = .acquiring := step.1
      rw [locked] at acquiring
      cases acquiring
    refine ⟨t, _, next, kept, ?_⟩
    rw [timing, ← record]
    exact ⟨f, steer, fHold.trans (if_pos locked), lastE, acted, still.trans now, selected, everLocked, inside locked,
      fun out few => strays locked (Nat.not_le.mpr out) few, fun out many => unlocks locked (Nat.not_le.mpr out) many⟩
  · obtain ⟨t, next, timing, after, kept⟩ := exec_goodPulse within quiet reference least most
    refine ⟨t, _, next, kept, ?_⟩
    rw [after]
    exact ⟨fun held state => timing ▸ measure_measured _ _ _ _ held state,
      fun other => timing.trans (measure_unheld other)⟩
  · obtain ⟨t, next, timing⟩ := exec_delayResp trailer quiet up wf controls positions stamp taken
    exact ⟨t, next, fun held state => timing ▸ measure_measured _ _ _ _ held state,
      fun other => timing.trans (measure_unheld other)⟩

end Sys2Proof.Machine
end

section
/-! PROOF. A pulse is judged by its interval (O30). -/

namespace Sys2Proof.Machine

/-! ## The qualifier by its judgement (R107) -/

section
variable {q : Qualifier}

theorem judged_good : (q.state = .qualified → q.judged .good = { q with bad := 0 }) ∧
    (q.state = .qualifying ∨ q.state = .faulted → q.good = 7 →
      q.judged .good = { q with state := .qualified, good := 0, bad := 0 }) ∧
    (q.state = .qualifying ∨ q.state = .faulted → q.good < 7 →
      q.judged .good = { q with good := q.good + 1, bad := 0 }) := by
  refine ⟨fun state => ?_, fun state last => ?_, fun state few => ?_⟩
  · simp only [Qualifier.judged, state]
  · rcases state with state | state <;> simp only [Qualifier.judged, state, last] <;> rfl
  · rcases state with state | state <;> simp only [Qualifier.judged, state, if_neg (show ¬ 8 ≤ q.good + 1 by omega)]

/-- A pulse at a bad or a spurious interval counts against the source (R107). -/
theorem judged_bad {j : PulseJudgement} (bad : j = .bad ∨ j = .spurious) :
    (q.state = .qualifying → q.bad < 2 → q.judged j = { q with bad := q.bad + 1, good := 0 }) ∧
    (q.state = .qualified → q.bad < 2 → q.judged j = { q with bad := q.bad + 1 }) ∧
    (q.state = .qualifying ∨ q.state = .qualified → q.bad = 2 → q.judged j = { q with
      state := .faulted, good := 0, bad := 0, counters := { q.counters with faults := bump q.counters.faults } }) ∧
    (q.state = .faulted → q.judged j = { q with bad := min (q.bad + 1) 3, good := 0 }) := by
  refine ⟨fun state few => ?_, fun state few => ?_, fun state last => ?_, fun state => ?_⟩
  · rcases bad with rfl | rfl <;> simp only [Qualifier.judged, state, if_neg (show ¬ 3 ≤ q.bad + 1 by omega)]
  · rcases bad with rfl | rfl <;> simp only [Qualifier.judged, state, if_neg (show ¬ 3 ≤ q.bad + 1 by omega)]
  · rcases bad with rfl | rfl <;> rcases state with state | state <;>
      simp only [Qualifier.judged, state, if_pos (show 3 ≤ q.bad + 1 by omega)]
  · rcases bad with rfl | rfl <;> simp only [Qualifier.judged, state]

/-- The first pulse at an ABSENT input (R107). -/
theorem judged_first (absent : q.state = .absent) :
    q.judged .noInterval = { q with state := .qualifying, good := 0, bad := 0 } := by
  simp only [Qualifier.judged, absent]

end

/-- An interval outside the band is bad, a short one spurious (R106). -/
theorem judgePulse_bad {q reading : Nat} (outside : reading - q < 1999998000 ∨ 2000002000 < reading - q) :
    judgePulse (some q) reading = .bad ∨ judgePulse (some q) reading = .spurious := by
  unfold judgePulse
  dsimp only
  split
  · exact .inr rfl
  · rw [if_neg (by omega)]
    exact .inl rfl

theorem judgePulse_spurious {q reading : Nat} : judgePulse (some q) reading = .spurious ↔ reading - q < 1000000000 := by
  unfold judgePulse
  dsimp only
  refine ⟨fun h => ?_, fun short => if_pos short⟩
  by_contra long
  rw [if_neg long] at h
  split at h <;> cases h

/-! ## The phase rounded to the nearest multiple of 4 ns (R104) -/

/-- An eighth rounded, taken eight times: at most 4 away, and away from zero where it is halfway. -/
theorem rndDiv_eight (x : Int) : (8 * rndDiv x 8 - x).natAbs ≤ 4 ∧
    ((8 * rndDiv x 8 - x).natAbs = 4 → x.natAbs < (8 * rndDiv x 8).natAbs) := by
  unfold rndDiv
  split <;> omega

/-! ## A pulse within the next boundary -/

/-- What a pulse makes of its qualifier, the reading and the capture given. -/
def Qualifier.pulsed (q : Qualifier) (reading : Nat) (here : LocalTime) : Qualifier :=
  if judgePulse q.reference reading = .good then
    { (q.pulse reading here).1 with lastM := some (phaseMeasurement here.half) }
  else (q.pulse reading here).1

theorem qualifierAfter_advanced (t : Timing) (i : PulseInput) (dt : Nat) (within : t.base.now.half < 2000000000) :
    Timing.qualifierAfter { t with base := t.base.advanceBy dt } i =
      (t.base.qualifier i).pulsed (t.base.advance + dt) (t.base.now.advance dt) := by
  have now : (t.base.advanceBy dt).now = t.base.now.advance dt := by rw [advanceBy_eq dt _ within]
  unfold Timing.qualifierAfter
  dsimp only
  rw [qualifier_advanceBy, advanceBy_advance, now]
  rfl

/-- What every pulse writes: when and where it came, and its count (R106, R116). -/
theorem pulsed_marks (q : Qualifier) (reading : Nat) (here : LocalTime) :
    (q.pulsed reading here).lastPulse = some reading ∧ (q.pulsed reading here).lastCapture = some here ∧
    (q.pulsed reading here).counters.pulses = bump q.counters.pulses ∧
    (q.pulsed reading here).counters.faults = (q.judged (judgePulse q.reference reading)).counters.faults ∧
    (q.pulsed reading here).counters.good = bumpIf (judgePulse q.reference reading = .good) q.counters.good ∧
    (q.pulsed reading here).counters.spurious = bumpIf (judgePulse q.reference reading = .spurious) q.counters.spurious ∧
    (q.pulsed reading here).reference =
      (if judgePulse q.reference reading = .spurious then q.reference else some reading) ∧
    (q.pulsed reading here).lastM = (if judgePulse q.reference reading = .good then some (phaseMeasurement here.half)
      else (q.judged (judgePulse q.reference reading)).lastM) := by
  unfold Qualifier.pulsed
  split <;> exact ⟨rfl, rfl, rfl, rfl, rfl, rfl, rfl, rfl⟩

/-- The state and the two counts after a pulse are the judged ones (R107). -/
theorem pulsed_judged {q : Qualifier} {j : PulseJudgement} {reading : Nat} (here : LocalTime)
    (judged : judgePulse q.reference reading = j) : (q.pulsed reading here).state = (q.judged j).state ∧
    (q.pulsed reading here).good = (q.judged j).good ∧ (q.pulsed reading here).bad = (q.judged j).bad := by
  subst judged
  unfold Qualifier.pulsed
  split <;> exact ⟨rfl, rfl, rfl⟩

/-- An advance over a frame boundary takes its frame first (R98). -/
theorem passTime_frame {s t : State} {dt : Nat} (time : s.timeInv) (port : s.portInv) (role : s.role ≠ none)
    (ahead : s.timing.base.secondHere = false) (crosses : s.timing.base.toFrame < dt) (next : exec .frameStart s = .next t) :
    passTime dt s = passTime (dt - s.timing.base.toFrame) t := by
  have bound : s.toBoundary = s.timing.base.toFrame := by
    rw [State.toBoundary, ahead, if_neg Bool.false_ne_true, if_neg role]
  have reached : t = frameStart s := by
    refine Host.Outcome.next.inj (next.symm.trans (congrArg Host.Outcome.next ?_))
    exact announce_of_settled _ ((frameStart_port s).settled (portInv_settled port))
  rw [passTime_crossing dt s time (by rw [bound]; exact crosses), bound, reached, boundaryEvent,
    if_neg (fun k => k.elim (by rw [ahead]; exact Bool.false_ne_true) role)]

/-- Settles O30: the interval decides the judgement, and the judgement the qualifier. -/
theorem pulseIsJudgedByItsInterval : Obligations.PulseIsJudgedByItsInterval := by
  intro s i j dt time other
  refine ⟨fun t port role ahead crosses next => ?_, fun within quiet => ?_⟩
  · change Host.Outcome.next _ = Host.Outcome.next _
    rw [passTime_frame time port role ahead crosses next]
  intro q here reading
  obtain ⟨advance, after, others⟩ := takePulse_base i (s.withBase (s.timing.base.advanceBy dt))
  have frame := takePulse_eventFrame i (s.withBase (s.timing.base.advanceBy dt))
  have link := takePulse_link i (s.withBase (s.timing.base.advanceBy dt))
  have pulsed := after.trans (qualifierAfter_advanced s.timing i dt time.1)
  obtain ⟨lastPulse, lastCapture, pulses, faults, goods, spurious, reference, lastM⟩ := pulsed_marks q reading here
  refine ⟨_, exec_pulse i within quiet, ?_⟩
  rw [announce_timing, announce_role, announce_link, announce_planner, announce_store, announce_pending, advance, pulsed,
    others j (Ne.symm other)]
  refine ⟨advanceBy_advance dt _, lastPulse, lastCapture, pulses, qualifier_advanceBy dt _ j, frame.role, link,
    frame.planner, frame.store, frame.pending, fun none absent => ?_, fun r known => ⟨fun short => ?_, fun long => ?_,
      fun least most => ?_, fun outside present last => ?_, fun outside => ?_, fun least most => ?_⟩⟩
  · have judgement : judgePulse q.reference reading = .noInterval := by rw [none]; rfl
    obtain ⟨state, good, bad⟩ := pulsed_judged here judgement
    rw [judgement] at reference
    rw [judged_first absent] at state good bad
    exact ⟨state, good, bad, reference⟩
  · have judgement : judgePulse q.reference reading = .spurious := by rw [known]; exact judgePulse_spurious.mpr short
    rw [judgement] at reference spurious
    exact ⟨reference.trans known, spurious⟩
  · have judgement : judgePulse q.reference reading ≠ .spurious := by
      rw [known]
      exact mt judgePulse_spurious.mp (Nat.not_lt.mpr long)
    exact reference.trans (if_neg judgement)
  · have judgement : judgePulse q.reference reading = .good := judgePulse_good known least most
    obtain ⟨state, good, bad⟩ := pulsed_judged here judgement
    rw [judgement] at goods lastM
    obtain ⟨-, last, few⟩ := judged_good (q := q)
    obtain ⟨near, halfway⟩ := rndDiv_eight (rawPhase here.half)
    refine ⟨goods, fun qualifying eighth => ?_, fun qualifying more => ?_, _, lastM, Int.mul_emod_right 4 _, ?_⟩
    · rw [last (.inl qualifying) eighth] at state good bad
      exact ⟨state, good, bad⟩
    · rw [few (.inl qualifying) more] at state good bad
      exact ⟨state.trans qualifying, good, bad⟩
    · have twice : 2 * phaseMeasurement here.half = 8 * rndDiv (rawPhase here.half) 8 := by
        rw [phaseMeasurement]
        omega
      rw [twice]
      exact ⟨near, halfway⟩
  · obtain ⟨-, -, third, -⟩ := judged_bad (q := q) (judgePulse_bad outside)
    rw [← known] at third
    have bad : judgePulse q.reference reading ≠ .good := by
      rcases judgePulse_bad outside with e | e <;> rw [known, e] <;> decide
    obtain ⟨state, good, count⟩ := pulsed_judged (q := q) (reading := reading) here rfl
    rw [third present last] at state good count faults lastM
    exact ⟨state, good, count, faults, lastM.trans (if_neg bad)⟩
  · obtain ⟨qualifying, qualified, -, faulted⟩ := judged_bad (q := q) (judgePulse_bad outside)
    rw [← known] at qualifying qualified faulted
    obtain ⟨state, good, bad⟩ := pulsed_judged (q := q) (reading := reading) here rfl
    refine ⟨fun at' few => ?_, fun at' few => ?_, fun at' => ?_⟩
    · rw [qualifying at' few] at state good bad
      exact ⟨state.trans at', bad, good⟩
    · rw [qualified at' few] at state bad
      exact ⟨state.trans at', bad⟩
    · rw [faulted at'] at state good bad
      exact ⟨state.trans at', bad, good⟩
  · obtain ⟨state, good, bad⟩ := pulsed_judged here (judgePulse_good known least most)
    obtain ⟨clears, last, few⟩ := judged_good (q := q)
    refine ⟨fun at' => ?_, fun at' eighth => ?_, fun at' more => ?_⟩
    · rw [clears at'] at state bad
      exact ⟨state.trans at', bad⟩
    · rw [last (.inr at') eighth] at state good bad
      exact ⟨state, good, bad⟩
    · rw [few (.inr at') more] at state good bad
      exact ⟨state.trans at', good, bad⟩

end Sys2Proof.Machine
end

section
/-! SUPPORT. A completed exchange (R127, R128) and what it does to the LINK source, by the cases of R132. -/

namespace Sys2Proof.Machine

/-! ## The LINK source (R132) -/

section
variable {l : LinkSource} {r : LinkResult} {m w : Int}

theorem reject_qualifying (h : l.state = .qualifying) : l.reject = { l with accepted := 0, previous := none } := if_pos h

/-- A rejected exchange touches LINK in QUALIFYING only. -/
theorem reject_other (h : l.state ≠ .qualifying) : l.reject = l := if_neg h

theorem steady_iff (l : LinkSource) (d : Int) :
    l.steady d = true ↔ ¬ ∃ p, l.previous = some p ∧ 200 < (d - p).natAbs := by
  unfold LinkSource.steady
  cases l.previous with
  | none => simp
  | some p => simp

theorem accept_absent (h : l.state = .absent) : l.accept r m w = ({ l with result := some r }, false) := if_pos h

theorem accept_jump (h : l.state ≠ .absent) (jump : ¬ l.steady r.d = true) : l.accept r m w =
    ({ l with state := .qualifying, accepted := 1, previous := some r.d, since := 0, expiryDue := false,
              result := some r }, false) := by
  rw [LinkSource.accept, if_neg h, if_neg jump]

theorem accept_steady (h : l.state ≠ .absent) (steady : l.steady r.d = true) : l.accept r m w =
    ({ l.advanceCount with previous := some r.d, since := 0, expiryDue := false, result := some r,
                           lastM := some (m, w) }, true) := by
  rw [LinkSource.accept, if_neg h, if_pos steady]

theorem accept_result (l : LinkSource) (r : LinkResult) (m w : Int) : (l.accept r m w).1.result = some r := by
  unfold LinkSource.accept
  repeat' split
  all_goals rfl

/-- A measurement is handed on outside ABSENT, and is the last measurement from then on. -/
theorem accept_handed (h : (l.accept r m w).2 = true) : l.state ≠ .absent ∧ (l.accept r m w).1.lastM = some (m, w) ∧
    (l.accept r m w).1.previous = some r.d := by
  by_cases absent : l.state = .absent
  · rw [accept_absent absent] at h
    cases h
  by_cases steady : l.steady r.d = true
  · rw [accept_steady absent steady]
    exact ⟨absent, rfl, rfl⟩
  · rw [accept_jump absent steady] at h
    cases h

theorem advanceCount_qualified (h : l.state = .qualified) : l.advanceCount = l := if_neg (by rw [h]; decide)

/-- Without a previous delay the count starts at 1. -/
theorem advanceCount_first (h : l.state = .qualifying) (none : l.previous = none) :
    l.advanceCount = { l with accepted := 1 } := by
  rw [LinkSource.advanceCount, if_pos h, none]
  rfl

theorem advanceCount_more (h : l.state = .qualifying) (before : l.previous.isSome = true) (few : l.accepted < 3) :
    l.advanceCount = { l with accepted := l.accepted + 1 } := by
  obtain ⟨p, before⟩ := Option.isSome_iff_exists.mp before
  rw [LinkSource.advanceCount, if_pos h, before]
  exact if_neg (by change ¬ 4 ≤ l.accepted + 1; omega)

/-- The fourth accepted exchange in a row makes LINK QUALIFIED. -/
theorem advanceCount_fourth (h : l.state = .qualifying) (before : l.previous.isSome = true) (third : 3 ≤ l.accepted) :
    l.advanceCount = { l with state := .qualified, accepted := 0 } := by
  obtain ⟨p, before⟩ := Option.isSome_iff_exists.mp before
  rw [LinkSource.advanceCount, if_pos h, before]
  exact if_pos (by change 4 ≤ l.accepted + 1; omega)

end

/-! ## The differences of an exchange (R127) -/

/-- A timestamp moved without leaving the range of its seconds lies that far from where it was. -/
theorem shift_diff (t : Stamp) (n : Int) (least : 0 ≤ (t.sec.toNat : Int) + ((t.ns : Int) + n) / 1000000000)
    (most : (t.sec.toNat : Int) + ((t.ns : Int) + n) / 1000000000 < 281474976710656) : (t.shift n).diff t = n := by
  simp only [Stamp.diff, Stamp.shift, BitVec.toNat_add, BitVec.toNat_ofInt]
  omega

/-- The whole seconds of a move within a second that has been given whole seconds besides. -/
theorem shift_diff_seconds (t : Stamp) (n w : Int) (ns : t.ns < 1000000000) (near : n.natAbs ≤ 1000000)
    (least : 1 ≤ (t.sec.toNat : Int) + w) (most : (t.sec.toNat : Int) + w ≤ 281474976710654) :
    (t.shift (n + w * 1000000000)).diff t = n + w * 1000000000 :=
  shift_diff t _ (by omega) (by omega)

theorem reduceDiff_eq {x a : Int} (least : -499999999 ≤ a) (most : a ≤ 500000000) (same : (x - a) % 1000000000 = 0) :
    reduceDiff x = a := by
  unfold reduceDiff
  omega

/-- The reduction takes W whole seconds away. -/
theorem reduceDiff_add_wholeSeconds (x : Int) : reduceDiff x + wholeSeconds x * 1000000000 = x := by
  unfold wholeSeconds reduceDiff
  omega

/-! ## Offset, delay and measurement (R128) -/

/-- The measurement is -o rounded to a multiple of 4 ns, halfway away from zero. -/
theorem linkMeasurement_near (r : LinkResult) : linkMeasurement r % 4 = 0 ∧ (linkMeasurement r + r.o).natAbs ≤ 2 ∧
    ((linkMeasurement r + r.o).natAbs = 2 → r.o.natAbs < (linkMeasurement r).natAbs) := by
  unfold linkMeasurement rndDiv
  split <;> omega

/-! ## The completed exchange (R127 to R132) -/

theorem complete_responses (x : Transfer) (t1 t2 t3 t4 : Stamp) (asymmetry : Int) :
    (x.complete t1 t2 t3 t4 asymmetry).1.responses = x.responses := by
  unfold Transfer.complete
  dsimp only
  split <;> rfl

theorem complete_rejected {x : Transfer} {t1 t2 t3 t4 : Stamp} {a b asymmetry : Int}
    (first : reduceDiff (t2.diff t1) = a) (second : reduceDiff (t4.diff t3) = b)
    (far : ¬ (a.natAbs ≤ 1000000 ∧ b.natAbs ≤ 1000000)) : x.complete t1 t2 t3 t4 asymmetry =
      ({ x with link := x.link.reject, counters := { x.counters with
          completed := bump x.counters.completed, rejected := bump x.counters.rejected } }, none) := by
  rw [Transfer.complete, first, second]
  exact if_neg (by simpa [acceptable] using far)

/-- The unit behind an accepted exchange with its result and measurement, and what is handed on. -/
def Transfer.accepted (x : Transfer) (r : LinkResult) (m w : Int) : Transfer × Option (Int × Int) :=
  ({ x with link := (x.link.accept r m w).1, counters := { x.counters with
      completed := bump x.counters.completed,
      delayJumps := bumpIf (x.link.state != .absent && !x.link.steady r.d) x.counters.delayJumps } },
    if (x.link.accept r m w).2 then some (m, w) else none)

theorem complete_accepted {x : Transfer} {t1 t2 t3 t4 : Stamp} {a b asymmetry w : Int}
    (first : reduceDiff (t2.diff t1) = a) (second : reduceDiff (t4.diff t3) = b)
    (near : a.natAbs ≤ 1000000 ∧ b.natAbs ≤ 1000000) (seconds : wholeSeconds (t2.diff t1) = w) :
    x.complete t1 t2 t3 t4 asymmetry =
      x.accepted (linkResult a b asymmetry) (linkMeasurement (linkResult a b asymmetry)) w := by
  rw [Transfer.complete, first, second, seconds]
  exact if_pos (by simpa [acceptable] using near)

section
variable {x : Transfer} {r : LinkResult} {m w : Int}

theorem accepted_absent (absent : x.link.state = .absent) : x.accepted r m w =
    ({ x with link := { x.link with result := some r },
              counters := { x.counters with completed := bump x.counters.completed } }, none) := by
  have uncounted : (x.link.state != .absent && !x.link.steady r.d) = false := by rw [absent]; rfl
  rw [Transfer.accepted, accept_absent absent, uncounted]
  rfl

theorem accepted_jump (present : x.link.state ≠ .absent) (jump : ¬ x.link.steady r.d = true) : x.accepted r m w =
    ({ x with link := { x.link with state := .qualifying, accepted := 1, previous := some r.d, since := 0,
                                    expiryDue := false, result := some r },
              counters := { x.counters with completed := bump x.counters.completed,
                                            delayJumps := bump x.counters.delayJumps } }, none) := by
  have counted : (x.link.state != .absent && !x.link.steady r.d) = true := by simpa [jump] using present
  rw [Transfer.accepted, accept_jump present jump, counted]
  rfl

theorem accepted_steady (present : x.link.state ≠ .absent) (steady : x.link.steady r.d = true) : x.accepted r m w =
    ({ x with link := { x.link.advanceCount with previous := some r.d, since := 0, expiryDue := false, result := some r,
                                                 lastM := some (m, w) },
              counters := { x.counters with completed := bump x.counters.completed } }, some (m, w)) := by
  have uncounted : (x.link.state != .absent && !x.link.steady r.d) = false := by rw [steady]; simp
  rw [Transfer.accepted, accept_steady present steady, uncounted]
  rfl

end

end Sys2Proof.Machine
end

section
/-! SUPPORT. The transfer lists and the state of LINK under the operations of the Time Transfer Unit: in most of them
entries leave and nothing else (`Transfer.Shrinks`), and those by which a list grows belong to one role. -/

namespace Sys2Proof.Machine

/-! ## The lists in a role (R122, R129) -/

/-- What `State.transferInv` says of the Time Transfer Unit in a role. -/
def Transfer.sound (x : Transfer) (role : Option Role) : Prop :=
  x.exchanges.length ≤ 4 ∧ (x.exchanges.map Exchange.seq).Nodup ∧
  x.responses.length ≤ 4 ∧ (x.responses.map Response.seq).Nodup ∧
  (role ≠ some .trailer → x.exchanges = [] ∧ x.link.state = .absent) ∧ (role ≠ some .hub → x.responses = [])

theorem transferInv_iff (s : State) : s.transferInv ↔ s.timing.xfer.sound s.role := Iff.rfl

/-- From one unit to another entries only left, and LINK did not leave ABSENT. -/
structure Transfer.Shrinks (x y : Transfer) : Prop where
  exchanges : (y.exchanges.map Exchange.seq).Sublist (x.exchanges.map Exchange.seq)
  responses : (y.responses.map Response.seq).Sublist (x.responses.map Response.seq)
  link : x.link.state = .absent → y.link.state = .absent

theorem Transfer.Shrinks.refl (x : Transfer) : x.Shrinks x := ⟨.refl _, .refl _, id⟩

theorem Transfer.Shrinks.trans {x y z : Transfer} (h : x.Shrinks y) (k : y.Shrinks z) : x.Shrinks z :=
  ⟨k.exchanges.trans h.exchanges, k.responses.trans h.responses, k.link ∘ h.link⟩

/-- An operation that touches neither list nor LINK. -/
theorem Transfer.Shrinks.of_same {x y : Transfer} (exchanges : y.exchanges = x.exchanges)
    (responses : y.responses = x.responses) (link : y.link = x.link) : x.Shrinks y :=
  ⟨by rw [exchanges], by rw [responses], by rw [link]; exact id⟩

/-- Entries that leave make no list longer and no sequence stand twice. -/
theorem Transfer.Shrinks.sound {x y : Transfer} {role : Option Role} (h : x.Shrinks y) (k : x.sound role) :
    y.sound role := by
  obtain ⟨few, distinct, fewR, distinctR, trailer, hub⟩ := k
  have lengthE := h.exchanges.length_le
  have lengthR := h.responses.length_le
  simp only [List.length_map] at lengthE lengthR
  refine ⟨lengthE.trans few, distinct.sublist h.exchanges, lengthR.trans fewR, distinctR.sublist h.responses,
    fun other => ?_, fun other => ?_⟩
  · obtain ⟨none, absent⟩ := trailer other
    exact ⟨by simpa [none] using h.exchanges, h.link absent⟩
  · simpa [hub other] using h.responses

/-! ## The operations in which entries only leave -/

theorem abandonExchanges_shrinks (x : Transfer) : x.Shrinks x.abandonExchanges := ⟨List.nil_sublist _, .refl _, id⟩

theorem linkDown_shrinks (t : Timing) : t.xfer.Shrinks t.linkDown.xfer := by
  obtain ⟨exchanges, responses, link⟩ := linkDown_xfer t
  refine ⟨?_, ?_, fun _ => by rw [link]; rfl⟩
  · rw [exchanges]; exact List.nil_sublist _
  · rw [responses]; exact List.nil_sublist _

/-- A DELAY_REQ placed forms the t3 of an entry, which stays where it is (R124). -/
theorem placeReq_seq (t3 : Stamp) (l : List Exchange) : (placeReq t3 l).map Exchange.seq = l.map Exchange.seq := by
  induction l with
  | nil => rfl
  | cons e l ih =>
    rw [placeReq]
    split
    · rfl
    · rw [List.map_cons, List.map_cons, ih]

theorem placeControl_shrinks (s : State) (k : ControlKind) : s.timing.xfer.Shrinks (placeControl s k).timing.xfer := by
  cases k with
  | delayReq =>
    have same : (placeControl s .delayReq).timing.xfer.exchanges.map Exchange.seq =
        s.timing.xfer.exchanges.map Exchange.seq := placeReq_seq s.sentStamp s.timing.xfer.exchanges
    exact ⟨by rw [same], .refl _, id⟩
  | delayResp => exact ⟨.refl _, (List.tail_sublist _).map _, id⟩
  | _ => exact .of_same rfl rfl rfl

theorem placed_shrinks (s : State) (c : List ControlKind) : s.timing.xfer.Shrinks (s.placed c).timing.xfer :=
  foldl_keeps (P := fun u => s.timing.xfer.Shrinks u.timing.xfer) placeControl
    (fun u k h => h.trans (placeControl_shrinks u k)) c s (.refl _)

theorem timeouts_shrinks (x : Transfer) (frame : BitVec 32) : x.Shrinks (x.timeouts frame) :=
  ⟨List.filter_sublist.map _, .refl _, id⟩

/-- The counts of a frame start (R119, R126, R130): an ABSENT LINK is not supervised. -/
theorem frameTick_shrinks (t : Timing) (role : Option Role) (frame : BitVec 32) :
    t.xfer.Shrinks (t.frameTick role frame).xfer := by
  unfold Timing.frameTick
  split
  · exact .of_same rfl rfl rfl
  · exact ⟨(timeouts_shrinks t.xfer frame).exchanges, .refl _, fun absent => by rw [← absent]; exact congrArg _ (if_pos absent)⟩
  · exact .refl _

theorem measure_shrinks (t : Timing) (x : Source) (m w : Int) : t.xfer.Shrinks (t.measure x m w).1.xfer := by
  rcases measure_xfer t x m w with e | e <;> rw [e]
  · exact .refl _
  · exact abandonExchanges_shrinks _

theorem limitCountdown_shrinks (x : Transfer) (role : Option Role) (period : Nat) :
    x.Shrinks (x.limitCountdown role period) := by
  unfold Transfer.limitCountdown
  split <;> exact .of_same rfl rfl rfl

/-- An exchange completed while LINK is ABSENT leaves it so (R132). -/
theorem complete_shrinks (x : Transfer) (t1 t2 t3 t4 : Stamp) (asymmetry : Int) :
    x.Shrinks (x.complete t1 t2 t3 t4 asymmetry).1 := by
  unfold Transfer.complete
  dsimp only
  split
  · exact ⟨.refl _, .refl _, fun absent => by rw [accept_absent absent]; exact absent⟩
  · exact ⟨.refl _, .refl _, fun absent => by rw [reject_other (by rw [absent]; decide)]; exact absent⟩

theorem takeResp_shrinks (x : Transfer) (seq : BitVec 16) (t4 : Stamp) (asymmetry : Int) :
    x.Shrinks (x.takeResp seq t4 asymmetry).1 := by
  unfold Transfer.takeResp
  split
  · refine Transfer.Shrinks.trans ?_ (complete_shrinks _ _ _ _ _ _)
    exact ⟨List.filter_sublist.map _, .refl _, id⟩
  · exact .of_same rfl rfl rfl

/-! ## The operations of one role, by which a list grows or LINK leaves ABSENT -/

/-- In the TRAILER role LINK may be in any state (R129). -/
theorem Transfer.sound.link {x : Transfer} (h : x.sound (some .trailer)) (l : LinkSource) (c : TransferCounters) :
    Transfer.sound { x with link := l, counters := c } (some .trailer) := by
  obtain ⟨few, distinct, fewR, distinctR, -, hub⟩ := h
  exact ⟨few, distinct, fewR, distinctR, fun other => absurd rfl other, hub⟩

/-- A SYNC's entry takes the place of one with its sequence, or of the oldest of four (R123). -/
theorem enterSync_sound {x : Transfer} (seq : BitVec 16) (t1 t2 : Stamp) (frame : BitVec 32)
    (h : x.sound (some .trailer)) : (x.enterSync seq t1 t2 frame).sound (some .trailer) := by
  obtain ⟨few, distinct, fewR, distinctR, -, hub⟩ := h
  obtain ⟨kept, hk⟩ : ∃ kept, kept = x.exchanges.filter fun e => e.seq != seq := ⟨_, rfl⟩
  obtain ⟨room, hr⟩ : ∃ room, room = if 4 ≤ kept.length then kept.tail else kept := ⟨_, rfl⟩
  have exchanges : (x.enterSync seq t1 t2 frame).exchanges =
      room ++ [{ seq := seq, t1 := t1, t2 := t2, t3 := none, t4 := none, frame := frame }] := by rw [hr, hk]; rfl
  have inKept : room.Sublist kept := by
    rw [hr]
    split
    · exact List.tail_sublist _
    · exact .refl _
  have inTable : kept.Sublist x.exchanges := hk ▸ List.filter_sublist
  have fits : room.length ≤ 3 := by
    have := inTable.length_le
    rw [hr]
    split
    · rw [List.length_tail]; omega
    · omega
  refine ⟨?_, ?_, fewR, distinctR, fun other => absurd rfl other, hub⟩
  · rw [exchanges, List.length_append]
    exact Nat.succ_le_succ fits
  · rw [exchanges, List.map_append, List.nodup_append]
    refine ⟨distinct.sublist ((inKept.trans inTable).map _), List.nodup_singleton _, fun q inRoom q' new same => ?_⟩
    obtain ⟨e, member, rfl⟩ := List.mem_map.mp inRoom
    obtain rfl := List.mem_singleton.mp new
    have other := inKept.subset member
    rw [hk] at other
    simp [same] at other

/-- A DELAY_REQ joins a response list with room that does not hold its sequence (R120). -/
theorem takeReq_sound {x : Transfer} (seq : BitVec 16) (t4 : Stamp) (h : x.sound (some .hub)) :
    (x.takeReq seq t4).sound (some .hub) := by
  obtain ⟨few, distinct, fewR, distinctR, trailer, -⟩ := h
  unfold Transfer.takeReq
  dsimp only
  split
  · exact ⟨few, distinct, fewR, distinctR, trailer, fun other => absurd rfl other⟩
  · next fresh =>
    split
    · exact ⟨few, distinct, fewR, distinctR, trailer, fun other => absurd rfl other⟩
    · next room =>
      refine ⟨few, distinct, ?_, ?_, trailer, fun other => absurd rfl other⟩
      · rw [List.length_append, List.length_singleton]
        omega
      · rw [List.map_append, List.nodup_append]
        refine ⟨distinctR, List.nodup_singleton _, fun q member q' new same => ?_⟩
        obtain ⟨e, listed, rfl⟩ := List.mem_map.mp member
        obtain rfl := List.mem_singleton.mp new
        exact fresh (List.any_eq_true.mpr ⟨e, listed, beq_iff_eq.mpr same⟩)

end Sys2Proof.Machine
end

section
/-! PROOF. Every event keeps the transfer lists, so every step does. -/

namespace Sys2Proof.Machine

/-! ## What keeps the lists -/

/-- What happens between two states keeps the invariant of the transfer lists. -/
structure TransferKept (s t : State) : Prop where
  keeps : s.transferInv → t.transferInv

theorem TransferKept.refl (s : State) : TransferKept s s := ⟨id⟩

theorem TransferKept.trans {s t u : State} (h : TransferKept s t) (k : TransferKept t u) : TransferKept s u :=
  ⟨k.keeps ∘ h.keeps⟩

theorem TransferKept.of_shrinks {s t : State} (role : t.role = s.role) (h : s.timing.xfer.Shrinks t.timing.xfer) :
    TransferKept s t where
  keeps k := by
    rw [transferInv_iff, role]
    exact h.sound k

theorem transferKept_of_eq {s t : State} (role : t.role = s.role) (xfer : t.timing.xfer = s.timing.xfer) :
    TransferKept s t := .of_shrinks role (xfer ▸ .refl _)

/-- An event of the link or of the timing blocks keeps the role. -/
theorem EventFrame.transferKept {s t : State} (h : EventFrame s t) (k : s.timing.xfer.Shrinks t.timing.xfer) :
    TransferKept s t := .of_shrinks h.role k

theorem StepFrame.transferKept {s t : State} (h : StepFrame s t) : TransferKept s t :=
  transferKept_of_eq h.role (congrArg Timing.xfer h.timing)

theorem OnlyNotices.transferKept {s t : State} (h : OnlyNotices s t) : TransferKept s t := h.stepFrame.transferKept

theorem withTiming_transferKept (s : State) (t : Timing) (h : s.timing.xfer.Shrinks t.xfer) :
    TransferKept s (s.withTiming t) := .of_shrinks rfl h

theorem withBase_transferKept (s : State) (b : TimeBase) : TransferKept s (s.withBase b) := transferKept_of_eq rfl rfl

theorem withTenant_transferKept (s : State) (x : Tenant) (u : TenantUnit) : TransferKept s (s.withTenant x u) :=
  transferKept_of_eq rfl rfl

theorem withTest_transferKept (s : State) (u : TestUnit) : TransferKept s (s.withTest u) := transferKept_of_eq rfl rfl

theorem withPort_transferKept (s : State) (p : Port) : TransferKept s (s.withPort p) := transferKept_of_eq rfl rfl

theorem foldl_transferKept {α : Type} (f : State → α → State) (h : ∀ s a, TransferKept s (f s a)) (l : List α) (s : State) :
    TransferKept s (l.foldl f s) :=
  foldl_keeps (P := TransferKept s) f (fun u a k => k.trans (h u a)) l s (.refl s)

theorem timingEvent_transferKept (t : Timing) (s : State) (h : s.timing.xfer.Shrinks t.xfer) :
    TransferKept s (timingEvent t s) :=
  (timingEvent_eventFrame t s).transferKept (by rw [timingEvent_timing]; exact h)

/-- The selection re-evaluated touches no list and no source (R113). -/
theorem reselect_transferKept (t : Timing) (s : State) (h : s.timing.xfer.Shrinks t.xfer) :
    TransferKept s (timingEvent t.reselect s) := timingEvent_transferKept _ s (by rw [reselect_xfer]; exact h)

/-- LINK made ABSENT (R130). -/
theorem toAbsent_shrinks (x : Transfer) : x.Shrinks { x with link := x.link.toAbsent } := ⟨.refl _, .refl _, fun _ => rfl⟩

/-! ## What stands due -/

theorem lostEffect_transferKept (s : State) : TransferKept s (lostEffect s) := by
  refine (lostEffect_eventFrame s).transferKept ?_
  rcases lostEffect_cases s with ⟨-, c, e⟩ | ⟨-, e, -⟩ <;> rw [e]
  · rw [enterDown_timing]
    exact linkDown_shrinks _
  · exact .refl _

theorem absentDue_transferKept (s : State) : TransferKept s (absentDue s) := by
  unfold absentDue
  split
  · refine TransferKept.trans ?_ (lostEffect_transferKept _)
    exact transferKept_of_eq rfl rfl
  · exact .refl s

theorem supervisionDue_transferKept (s : State) : TransferKept s (supervisionDue s) := by
  unfold supervisionDue
  split
  · exact reselect_transferKept _ s (toAbsent_shrinks _)
  · exact .refl s

theorem agingDue_transferKept (s : State) : TransferKept s (agingDue s) := by
  unfold agingDue
  split
  · exact withTiming_transferKept s _ (.refl _)
  · exact .refl s

theorem limitDue_transferKept (s : State) : TransferKept s (limitDue s) := by
  unfold limitDue
  split
  · exact timingEvent_transferKept _ s (.refl _)
  · exact .refl s

theorem inputExpired_transferKept (i : PulseInput) (s : State) :
    TransferKept s (timingEvent (s.timing.inputExpired i) s) := reselect_transferKept _ s (.refl _)

theorem overdueAbsence_transferKept (i : PulseInput) (s : State) : TransferKept s (overdueAbsence i s) := by
  unfold overdueAbsence
  split
  · exact inputExpired_transferKept i s
  · exact .refl s

theorem settle_transferKept (s : State) : TransferKept s (settle s) := by
  have phases (u : State) := ((leadOver_stepFrame u).trans (activeOver_stepFrame _)).trans (tailOver_stepFrame _)
  have waits (u : State) := ((reportWaitOver_stepFrame u).trans (waitOver_stepFrame _)).trans (crossOver_stepFrame _)
  unfold settle
  refine TransferKept.trans ?_ ((phases _).trans (waits _)).transferKept
  refine TransferKept.trans ?_ ((agingDue_transferKept _).trans (limitDue_transferKept _))
  refine TransferKept.trans ?_ ((absentDue_transferKept _).trans (supervisionDue_transferKept _))
  exact (overdueAbsence_transferKept _ s).trans (overdueAbsence_transferKept _ _)

/-! ## A received frame -/

/-- At a TRAILER's entry to UP LINK may leave ABSENT (R130); nothing else of the Time Transfer Unit moves. -/
theorem goodEffect_xfer (s : State) : (goodEffect s).timing.xfer = { s.timing.xfer with
    link := if s.role = some .trailer ∧ s.link.state = .acquire ∧ 16 ≤ s.link.good + 1 then s.timing.xfer.link.entersUp
      else s.timing.xfer.link } := by
  unfold goodEffect
  split
  · next down => rw [(raiseLink_onlyNotices _ _ _).timing, if_neg (by rw [down]; simp)]; rfl
  · next acquire =>
    split
    · next enough =>
      have raised := raiseLink_onlyNotices (s.withLink { s.link with state := .up, good := s.link.good + 1, lost := 0 })
        .acquire .acquired
      unfold enterUpTiming
      rw [raised.role, raised.timing]
      change (if s.role = some .trailer then _ else _ : State).timing.xfer = _
      split
      · next trailer =>
        rw [if_pos ⟨trailer, acquire, enough⟩, timingEvent_timing, reselect_xfer]
        rfl
      · next other =>
        rw [if_neg fun k => other k.1, (stepWatch_stepFrame _).timing, raised.timing]
        rfl
    · next few => rw [if_neg fun k => few k.2.2]; rfl
  · next up => rw [if_neg (by rw [up]; simp)]; rfl

theorem goodEffect_transferKept (s : State) : TransferKept s (goodEffect s) := by
  refine ⟨fun h => ?_⟩
  rw [transferInv_iff, (goodEffect_eventFrame s).role, goodEffect_xfer]
  split
  · next entry =>
    rw [transferInv_iff, entry.1] at h
    rw [entry.1]
    exact h.link _ _
  · exact h

theorem handOn_transferKept (x : Source) (m w : Int) (s : State) : TransferKept s (handOn x m w s) :=
  (handOn_eventFrame x m w s).transferKept (by rw [handOn_timing]; exact measure_shrinks _ x m w)

/-- A SYNC is taken by a TRAILER (R20, R123). -/
theorem takeSync_transferKept (b : List Byte) (m : Stamp) (s : State) (trailer : s.role = some .trailer) :
    TransferKept s (takeSync b m s) := by
  refine ⟨fun h => ?_⟩
  rw [transferInv_iff, trailer] at h
  rw [transferInv_iff, (takeSync_eventFrame b m s).role, trailer, takeSync_xfer, Timing.syncJudged, reselect_xfer]
  exact enterSync_sound _ _ _ _ (h.link _ _)

/-- A DELAY_REQ is taken by a HUB (R20, R120). -/
theorem takeDelayReq_transferKept (b : List Byte) (m : Stamp) (s : State) (hub : s.role = some .hub) :
    TransferKept s (takeDelayReq b m s) := by
  refine ⟨fun h => ?_⟩
  rw [transferInv_iff, hub] at h
  rw [transferInv_iff, (takeDelayReq_eventFrame b m s).role, hub]
  exact takeReq_sound _ _ h

theorem takeDelayResp_transferKept (b : List Byte) (s : State) : TransferKept s (takeDelayResp b s) := by
  have taken := reselect_transferKept { s.timing with
    xfer := (s.timing.xfer.takeResp (timingSeqAt b) (stampAt b 2) s.timing.base.record.asymmetry).1 } s
    (takeResp_shrinks _ _ _ _)
  unfold takeDelayResp
  dsimp only
  split
  · exact taken
  · exact taken.trans (handOn_transferKept _ _ _ _)

theorem routeControl_transferKept (m : Stamp) (s : State) (kp : ControlKind × Position) :
    TransferKept s (routeControl m s kp) := by
  obtain ⟨k, p⟩ := kp
  cases d : discards s.role s.link.state (k, p) with
  | true => rw [routeControl_discards m s _ d]; exact transferKept_of_eq rfl rfl
  | false =>
    have accepted : controlAccepted s.role s.link.state k = true := by
      simp only [discards, Bool.or_eq_false_iff, Bool.not_eq_false'] at d
      exact d.1.2
    rw [routeControl_takes m s k p d]
    cases k with
    | sync => exact takeSync_transferKept _ _ s (by simp [controlAccepted] at accepted; exact accepted.1)
    | delayReq => exact takeDelayReq_transferKept _ _ s (by simp [controlAccepted] at accepted; exact accepted.1)
    | delayResp => exact takeDelayResp_transferKept _ s
    | testReport => exact (takeReport_stepFrame _ s).transferKept

theorem takeFrame_transferKept (r : FrameRecord) (s : State) : TransferKept s (takeFrame r s) := by
  have recorded : TransferKept s (s.recordTaken r) := transferKept_of_eq rfl rfl
  by_cases e : ∃ h, judgeHeader r = .good h
  · obtain ⟨h, e⟩ := e
    have header : TransferKept (goodEffect (s.recordTaken r)) (s.headerTaken r h) :=
      transferKept_of_eq ((headerTaken_role s r h).trans (goodEffect_eventFrame (s.recordTaken r)).role.symm)
        (congrArg Timing.xfer (headerTaken_timing s r h))
    have frame (m : Stamp) (ps : List Position) (u : State) : TransferKept (u.controlsRouted h m ps) (routeFrame h m ps u) :=
      transferKept_of_eq ((routeFrame_eventFrame h m ps u).role.trans
        (foldl_eventFrame _ (routeControl_eventFrame m) _ u).role.symm) (congrArg Timing.xfer (routeFrame_keeps h m ps u).1)
    rw [takeFrame_routes r s h e]
    refine TransferKept.trans ?_ (frame _ _ _)
    refine TransferKept.trans ?_ (foldl_transferKept _ (routeControl_transferKept _) _ _)
    exact (recorded.trans (goodEffect_transferKept _)).trans header
  · have sampled : TransferKept (s.recordTaken r) (giveSample 0 (s.recordTaken r)) := by
      obtain ⟨p, k⟩ := giveSample_eq 0 (s.recordTaken r)
      rw [k]
      exact transferKept_of_eq rfl rfl
    rw [takeFrame_lost r s (not_exists.mp e)]
    exact (recorded.trans sampled).trans (lostEffect_transferKept _)

/-! ## The passing of local time -/

theorem advanceBy_transferKept (s : State) (dt : Nat) : TransferKept s (s.withBase (s.timing.base.advanceBy dt)) :=
  withBase_transferKept s _

theorem secondEvent_transferKept (s : State) : TransferKept s (secondEvent s) := by
  have tenants (u : State) : TransferKept u (Tenant.all.foldl tenantSecond u) :=
    foldl_transferKept _ (fun v x => transferKept_of_eq (tenantSecond_eventFrame v x).role
      (congrArg Timing.xfer (tenantSecond_timing v x))) _ u
  have timeSet (u : State) (b : Bool) : TransferKept u (u.timeSetTaken b) := by
    unfold State.timeSetTaken
    split
    · exact withTiming_transferKept u _ (abandonExchanges_shrinks _)
    · exact .refl u
  have counted (u : State) : TransferKept u (countSecond u) := transferKept_of_eq rfl rfl
  unfold secondEvent
  refine TransferKept.trans ?_ (counted _)
  refine TransferKept.trans ?_ (tenants _)
  refine TransferKept.trans ?_ (timeSet _ _)
  exact (withBase_transferKept s _).trans (settle_transferKept _)

theorem sendFrame_transferKept (s : State) : TransferKept s (sendFrame s) := by
  have started := sendFrame_started s
  refine .of_shrinks started.role ?_
  have xfer := congrArg Timing.xfer started.timing
  dsimp only at xfer
  rw [xfer]
  exact placed_shrinks s s.plan.1.controls

theorem reachFrame_transferKept (s : State) : TransferKept s (reachFrame s) := by
  unfold reachFrame
  dsimp only
  refine TransferKept.trans ?_ (withTiming_transferKept _ _ (frameTick_shrinks _ _ _))
  refine TransferKept.trans ?_ (settle_transferKept _)
  refine TransferKept.trans ?_ (advanceBy_transferKept _ _)
  split
  · exact secondEvent_transferKept s
  · exact .refl s

theorem frameStart_transferKept (s : State) : TransferKept s (frameStart s) := by
  unfold frameStart
  split
  · exact .refl s
  · exact (reachFrame_transferKept s).trans (sendFrame_transferKept _)

theorem passTime_transferKept (dt : Nat) (s : State) : TransferKept s (passTime dt s) := by
  have passes (n : Nat) : ∀ dt s, TransferKept s (passOver n dt s) := by
    induction n with
    | zero => exact fun dt s => advanceBy_transferKept s dt
    | succ n ih =>
      intro dt s
      rw [passOver_succ]
      split
      · refine TransferKept.trans ?_ (ih _ _)
        unfold boundaryEvent
        split
        · exact secondEvent_transferKept s
        · exact frameStart_transferKept s
      · exact advanceBy_transferKept s dt
  exact passes _ dt s

theorem takePulse_transferKept (i : PulseInput) (s : State) : TransferKept s (takePulse i s) := by
  have judged : TransferKept s (timingEvent (s.timing.pulsed i).1 s) := reselect_transferKept _ s (.refl _)
  have handed (u : State) (m : Int) : TransferKept u (handOn i.source m 0 (u.withTiming (u.timing.keepM i m))) :=
    (withTiming_transferKept u (u.timing.keepM i m) (by cases i <;> exact .refl _)).trans (handOn_transferKept _ _ _ _)
  unfold takePulse
  dsimp only
  split
  · split
    · exact (judged.trans (handed _ _)).trans (crossSample_stepFrame _ _).transferKept
    · exact judged.trans (handed _ _)
  · exact judged

theorem absenceNow_transferKept (i : PulseInput) (s : State) : TransferKept s (absenceNow i s) := by
  unfold absenceNow
  split
  · exact inputExpired_transferKept i s
  · exact .refl s

/-! ## Requests -/

theorem takeTimingRecord_transferKept (r : TimingRecord) (s : State) : TransferKept s (takeTimingRecord r s) :=
  reselect_transferKept _ s (limitCountdown_shrinks _ _ _)

theorem takeTenantRecord_transferKept (x : Tenant) (r : TenantRecord) (c : TenantCause) (s : State) :
    TransferKept s (takeTenantRecord x r c s) := by
  unfold takeTenantRecord
  dsimp only
  split
  · exact (withTenant_transferKept s x _).trans (raiseTenant_onlyNotices _ _ _ _ _).transferKept
  · exact withTenant_transferKept s x _

/-- A tenant switched into another state with its notice, and the end of a step of its own. -/
theorem tenantLeft_transferKept (s : State) (x : Tenant) (u : TenantUnit) (p : TenantState) (c : TenantCause)
    (e : TenantExtra) : TransferKept s (stepTenantLeft x ((s.withTenant x u).raiseTenant x p c e)) :=
  ((withTenant_transferKept s x u).trans (raiseTenant_onlyNotices _ _ _ _ _).transferKept).trans
    (stepTenantLeft_stepFrame _ _).transferKept

theorem applySettings_transferKept (v : Settings) (s : State) : TransferKept s (applySettings v s) := by
  unfold applySettings loadTenants
  dsimp only
  refine TransferKept.trans ?_ (foldl_transferKept _ (fun u x => takeTenantRecord_transferKept x _ _ u) _ _)
  refine TransferKept.trans ?_ (withTest_transferKept _ _)
  refine TransferKept.trans ?_ (takeTimingRecord_transferKept _ _)
  exact transferKept_of_eq rfl rfl

/-- A role is set where none was, and then both lists are empty and LINK is ABSENT (R175). -/
theorem setRole_transferKept (r : Option Role) (s : State) : TransferKept s (doSetRole r s).1 := by
  unfold doSetRole
  split
  · exact .refl s
  · next unset =>
    split
    · exact .refl s
    · refine ⟨fun h => ?_⟩
      obtain ⟨few, distinct, fewR, distinctR, trailer, hub⟩ := h
      exact ⟨few, distinct, fewR, distinctR, fun _ => trailer (by rw [unset]; simp), fun _ => hub (by rw [unset]; simp)⟩

/-- The requests of one tenant (R40 to R46, R56). -/
theorem tenantRequest_transferKept (i : Nat) (s : State) :
    (∀ r, TransferKept s (doSetTenant i r s).1) ∧ TransferKept s (doTenantActivate i s).1 ∧
    TransferKept s (doTenantDrain i s).1 ∧ TransferKept s (doTenantOff i s).1 ∧
    ∀ c, TransferKept s (doGetCounters i c s).1 := by
  unfold doSetTenant doTenantActivate doTenantDrain doTenantOff doGetCounters
  cases Tenant.ofIndex i with
  | none => exact ⟨fun _ => .refl s, .refl s, .refl s, .refl s, fun _ => .refl s⟩
  | some x =>
    refine ⟨fun r => ?_, ?_, ?_, ?_, fun c => ?_⟩
    · dsimp only [setTenantOf]
      split
      · exact .refl s
      · split
        · exact .refl s
        · split
          · exact .refl s
          · exact takeTenantRecord_transferKept _ _ _ s
    · dsimp only
      split
      · exact (withTenant_transferKept s _ _).trans (raiseTenant_onlyNotices _ _ _ _ _).transferKept
      · exact .refl s
    · dsimp only [drain]
      split
      · split <;> exact tenantLeft_transferKept s _ _ _ _ _
      · exact .refl s
    · dsimp only [switchOff]
      split
      · exact withTenant_transferKept s _ _
      · exact tenantLeft_transferKept s _ _ _ _ _
    · dsimp only
      split
      · exact withTenant_transferKept s _ _
      · exact .refl s

/-- The requests of the Test Controller (R151, R153, R154, R165, R167). -/
theorem testRequest_transferKept (s : State) :
    (∀ i p, TransferKept s (doSetPattern i p s).1) ∧ (∀ i a, TransferKept s (doSetStep i a s).1) ∧
    (∀ n f, TransferKept s (doTestStart n f s).1) ∧ TransferKept s (doTestAbort s).1 ∧
    TransferKept s (doAcceptWaive s).1 := by
  refine ⟨fun i p => ?_, fun i a => ?_, fun n f => ?_, ?_, ?_⟩
  · unfold doSetPattern
    repeat' split
    all_goals exact transferKept_of_eq rfl rfl
  · unfold doSetStep
    repeat' split
    all_goals exact transferKept_of_eq rfl rfl
  · unfold doTestStart
    split
    · exact .refl s
    split
    · exact .refl s
    split
    · exact .refl s
    split
    · exact .refl s
    · exact (withTest_transferKept s _).trans (runFirstStep_stepFrame _).transferKept
  · unfold doTestAbort
    split
    · exact (abortRun_stepFrame _ s).transferKept
    · exact .refl s
  · unfold doAcceptWaive
    split
    · exact .refl s
    · exact (withTest_transferKept s _).trans (raiseTest_onlyNotices _ _).transferKept

/-- A store operation taken, or refused, touches the store alone, and STORE_LOAD applies its settings (R178 to R181). -/
theorem storeRequest_transferKept (s : State) :
    (∀ i, TransferKept s (doStoreSave i s).1) ∧ (∀ i, TransferKept s (doStoreLoad i s).1) ∧
    (∀ i, TransferKept s (doStoreErase i s).1) ∧ (∀ i, TransferKept s (doStoreBoot i s).1) ∧
    ∀ a, TransferKept s (doStoreCal a s).1 := by
  refine ⟨fun i => ?_, fun i => ?_, fun i => ?_, fun i => ?_, fun a => ?_⟩
  · unfold doStoreSave
    repeat' split
    all_goals exact transferKept_of_eq rfl rfl
  · unfold doStoreLoad
    split
    · exact .refl s
    split
    · exact .refl s
    split
    · exact .refl s
    split
    · exact .refl s
    · dsimp only
      exact (applySettings_transferKept _ s).trans (raiseStore_onlyNotices _ _ _).transferKept
  · unfold doStoreErase
    repeat' split
    all_goals exact transferKept_of_eq rfl rfl
  · unfold doStoreBoot
    repeat' split
    all_goals exact transferKept_of_eq rfl rfl
  · unfold doStoreCal
    repeat' split
    all_goals exact transferKept_of_eq rfl rfl

/-- The requests of the timing blocks (R99, R101, R147). -/
theorem timingRequest_transferKept (s : State) :
    (∀ r, TransferKept s (doSetTiming r s).1) ∧ (∀ x, TransferKept s (doTimeSet x s).1) ∧
    TransferKept s (doTimingRestart s).1 := by
  refine ⟨fun r => ?_, fun x => ?_, ?_⟩
  · unfold doSetTiming
    split
    · exact takeTimingRecord_transferKept r s
    · exact .refl s
  · unfold doTimeSet
    split
    · exact .refl s
    · exact withTiming_transferKept s _ (.refl _)
  · exact ((withTiming_transferKept s s.timing.restart (.refl _)).trans (raiseTiming_onlyNotices _ _ _).transferKept).trans
      (stepWatch_stepFrame _).transferKept

/-- Every request keeps the lists (R171). -/
theorem perform_transferKept (r : Request) (s : State) : TransferKept s (perform r s).1 := by
  obtain ⟨setPattern, setStep, testStart, testAbort, acceptWaive⟩ := testRequest_transferKept s
  obtain ⟨storeSave, storeLoad, storeErase, storeBoot, storeCal⟩ := storeRequest_transferKept s
  obtain ⟨setTiming, timeSet, timingRestart⟩ := timingRequest_transferKept s
  have tenant (i : Nat) := tenantRequest_transferKept i s
  cases r
  case getId => exact .refl s
  case setRole r => exact setRole_transferKept r s
  case reset o => cases o <;> exact transferKept_of_eq rfl rfl
  case getStatus p =>
    change TransferKept s (doGetStatus p s).1
    unfold doGetStatus
    split <;> exact .refl s
  case setLink r =>
    change TransferKept s (doSetLink r s).1
    unfold doSetLink
    split <;> exact transferKept_of_eq rfl rfl
  case setTenant i r =>
    obtain ⟨set, -⟩ := tenant i
    exact set r
  case setShares t =>
    change TransferKept s (doSetShares t s).1
    unfold doSetShares
    split <;> exact transferKept_of_eq rfl rfl
  case tenantActivate i =>
    obtain ⟨-, activate, -⟩ := tenant i
    exact activate
  case tenantDrain i =>
    obtain ⟨-, -, drain, -⟩ := tenant i
    exact drain
  case tenantOff i =>
    obtain ⟨-, -, -, off, -⟩ := tenant i
    exact off
  case getCounters i c =>
    obtain ⟨-, -, -, -, counters⟩ := tenant i
    exact counters c
  case setTiming r => exact setTiming r
  case timeSet x => exact timeSet x
  case timingRestart => exact timingRestart
  case setPattern i p => exact setPattern i p
  case setStep i a => exact setStep i a
  case testStart n f => exact testStart n f
  case testAbort => exact testAbort
  case getResults => exact .refl s
  case acceptWaive => exact acceptWaive
  case storeSave i => exact storeSave i
  case storeLoad i => exact storeLoad i
  case storeErase i => exact storeErase i
  case storeBoot i => exact storeBoot i
  case storeCal a => exact storeCal a

/-! ## The management line -/

theorem completeRequest_transferKept (b : Buffered) (s : State) : TransferKept s (completeRequest b s) := by
  have answered (w : Incoming) (u : State) : TransferKept u (answer w u).1 := by
    cases w with
    | request r => exact perform_transferKept r u
    | _ => exact .refl u
  exact ((withPort_transferKept s _).trans (answered _ _)).trans (withPort_transferKept _ _)

theorem takeRequest_transferKept (s : State) : TransferKept s (takeRequest s) := by
  unfold takeRequest
  repeat' split
  · exact .refl s
  · exact (withPort_transferKept s _).trans (completeRequest_transferKept _ _)
  · exact .refl s

theorem serve_transferKept (s : State) : TransferKept s (serve s) :=
  ((takeRequest_transferKept s).trans (withPort_transferKept _ _)).trans (takeRequest_transferKept _)

theorem offerFrame_transferKept (b : Buffered) (s : State) : TransferKept s (offerFrame b s) :=
  (withPort_transferKept s _).trans (serve_transferKept _)

theorem receiveByte_transferKept (s : State) (b : Byte) : TransferKept s (receiveByte s b) := by
  unfold receiveByte
  dsimp only
  split
  · exact withPort_transferKept s _
  · exact (withPort_transferKept s _).trans (offerFrame_transferKept _ _)

/-! ## Resets -/

/-- A full reset starts both lists empty, and LINK ABSENT (R135). -/
theorem fullReset_transferKept (cause : ResetCause) (s : State) : TransferKept s (fullReset cause s) where
  keeps _ := ⟨Nat.zero_le 4, .nil, Nat.zero_le 4, .nil, fun _ => ⟨rfl, rfl⟩, fun _ => rfl⟩

/-- COMMAND-WARM empties both lists, and LINK is ABSENT (R135). -/
theorem warmReset_transferKept (s : State) : TransferKept s (warmReset s) := by
  have blocks : TransferKept s (warmBlocks s) := by
    refine .of_shrinks (t := warmBlocks s) rfl ?_
    change s.timing.xfer.Shrinks s.timing.warm.xfer
    rw [warm_xfer]
    exact ⟨List.nil_sublist _, List.nil_sublist _, fun _ => rfl⟩
  rw [warmReset_eq]
  refine TransferKept.trans ?_ (withTest_transferKept _ _)
  exact (blocks.trans (warmNoticed_onlyNotices s).transferKept).trans (abortByReset_stepFrame _).transferKept

theorem commandReset_transferKept (o : ResetOption) (s : State) : TransferKept s (commandReset o s) := by
  cases o with
  | full => exact fullReset_transferKept .commandFull s
  | warm => exact warmReset_transferKept s

theorem commandResetOf_transferKept (o : ResetOption) (s : State) : TransferKept s (commandResetOf o s) := by
  unfold commandResetOf
  split
  · exact commandReset_transferKept _ s
  · exact .refl s

theorem outgoingEnds_transferKept (s : State) : TransferKept s (outgoingEnds s) := by
  unfold outgoingEnds lineEnds
  repeat' split
  · exact commandReset_transferKept _ s
  · exact (withPort_transferKept s _).trans (serve_transferKept _)
  · exact .refl s

/-! ## Every command -/

theorem arriveAt_transferKept (x : Tenant) (bad : Bool) (b : List Byte) (s : State) :
    TransferKept s (arriveAt x bad b s) := by
  unfold arriveAt
  dsimp only
  split
  · exact withTenant_transferKept s x _
  · exact (withTenant_transferKept s x _).trans (inject_stepFrame _ _).transferKept

theorem removeStale_transferKept (x : Tenant) (s : State) : TransferKept s (removeStale x s) := by
  unfold removeStale
  repeat' split
  · exact .refl s
  · exact .refl s
  · exact (withTenant_transferKept s x _).trans
      ((countPathEntries_stepFrame _ _ _).trans (drainIfEmpty_stepFrame _ _)).transferKept

theorem syncDueNow_transferKept (s : State) : TransferKept s (syncDueNow s) := by
  unfold syncDueNow
  split
  · exact withTiming_transferKept s _ (.of_same rfl rfl rfl)
  · exact .refl s

theorem timeoutsNow_transferKept (s : State) : TransferKept s (timeoutsNow s) := by
  unfold timeoutsNow
  split
  · exact withTiming_transferKept s _ (timeouts_shrinks _ _)
  · exact .refl s

theorem storeEnds_transferKept (s : State) : TransferKept s (storeEnds s) := by
  unfold storeEnds
  repeat' split
  · refine TransferKept.trans ?_ (raiseStore_onlyNotices _ _ _).transferKept
    exact transferKept_of_eq rfl rfl
  · exact .refl s
  · exact .refl s

/-- What a command answers is a state that `announce` has been applied to. -/
theorem transferKept_of_next {s t u : State}
    (h : (Host.Outcome.next (announce u) : Host.Outcome State Fault Refusal) = .next t) (k : TransferKept s u) :
    TransferKept s t := by
  injection h with h
  rw [← h]
  exact k.trans (announce_onlyNotices u).transferKept

/-- Every command keeps the lists. -/
theorem exec_transferKept (c : Instr) (s t : State) (h : exec c s = .next t) : TransferKept s t := by
  cases c
  case powerReset => exact transferKept_of_next h (fullReset_transferKept .power s)
  case pinReset => exact transferKept_of_next h (fullReset_transferKept .pin s)
  case commandFullReset => exact transferKept_of_next h (commandResetOf_transferKept _ s)
  case commandWarmReset => exact transferKept_of_next h (commandResetOf_transferKept _ s)
  case frameStart => exact transferKept_of_next h (frameStart_transferKept s)
  case receivedFrameRecord r =>
    refine transferKept_of_next h ?_
    split
    · exact withTiming_transferKept s _ (.refl _)
    · exact (settle_transferKept s).trans (takeFrame_transferKept r _)
  case receiveMarkerCapture n =>
    exact transferKept_of_next h ((passTime_transferKept n s).trans (withBase_transferKept _ _))
  case absentFrame => exact transferKept_of_next h (absentDue_transferKept s)
  case tenantPacketArrival x bad b => exact transferKept_of_next h (arriveAt_transferKept x bad b s)
  case holdInput x a => exact transferKept_of_next h (withTenant_transferKept s x _)
  case deliveryEnd x => exact transferKept_of_next h (withTenant_transferKept s x _)
  case secondBoundary => exact transferKept_of_next h ((passTime_transferKept _ s).trans (secondEvent_transferKept _))
  case pulse i n =>
    exact transferKept_of_next h
      (((passTime_transferKept n s).trans (settle_transferKept _)).trans (takePulse_transferKept i _))
  case absenceExpiry i => exact transferKept_of_next h ((passTime_transferKept _ s).trans (absenceNow_transferKept i _))
  case staleRemoval x => exact transferKept_of_next h (removeStale_transferKept x s)
  case syncDue => exact transferKept_of_next h (syncDueNow_transferKept s)
  case exchangeTimeout => exact transferKept_of_next h (timeoutsNow_transferKept s)
  case linkSupervisionExpiry => exact transferKept_of_next h (supervisionDue_transferKept s)
  case holdoverLimit => exact transferKept_of_next h (limitDue_transferKept s)
  case holdoverAging => exact transferKept_of_next h (agingDue_transferKept s)
  case leadEnd => exact transferKept_of_next h (leadOver_stepFrame s).transferKept
  case activeEnd => exact transferKept_of_next h (activeOver_stepFrame s).transferKept
  case tailEnd => exact transferKept_of_next h (tailOver_stepFrame s).transferKept
  case reportWaitExpiry => exact transferKept_of_next h (reportWaitOver_stepFrame s).transferKept
  case waitTimeout => exact transferKept_of_next h (waitOver_stepFrame s).transferKept
  case timingCrossTimeout => exact transferKept_of_next h (crossOver_stepFrame s).transferKept
  case managementFrame b => exact transferKept_of_next h (foldl_transferKept _ receiveByte_transferKept b s)
  case gapExpiry => exact transferKept_of_next h (withPort_transferKept s _)
  case outgoingFrameEnd => exact transferKept_of_next h (outgoingEnds_transferKept s)
  case erasingEnd => exact transferKept_of_next h (transferKept_of_eq rfl rfl)
  case storeOperationEnd => exact transferKept_of_next h (storeEnds_transferKept s)
  case unknownKind tag k => exact transferKept_of_next h (offerFrame_transferKept _ s)
  case strayByte b => exact transferKept_of_next h (receiveByte_transferKept s b)
  all_goals exact transferKept_of_next h (offerFrame_transferKept _ s)

/-- Settles O55: the oldest waiting command leaves the queue and is executed, and every command keeps the lists. -/
theorem everyStepKeepsTransferLists : Obligations.EveryStepKeepsTransferLists := by
  intro s t h next
  unfold step at next
  split at next
  · injection next with next
    exact next ▸ h
  · next c rest _ => exact (exec_transferKept c (s.withPending rest) t next).keeps h

end Sys2Proof.Machine
end

section
/-! SUPPORT. What reaches the LINK source from outside: a frame received with one control block, a SYNC (R130, R131), a
DELAY_RESP (R132), a frame start (R130). -/

namespace Sys2Proof.Machine

/-! ## A frame with one control block (R12, R20) -/

/-- The timing blocks behind a frame with one control block are those behind that block. -/
theorem frameTaken_control {s : State} {r : FrameRecord} {h : Header} {k : ControlKind} {b : List Byte}
    {rest : List Position} (wf : h.wf = true) (controls : h.controls = [k])
    (positions : r.positions = { bytes := h.bytes, bad := false } :: { bytes := b, bad := false } :: rest) :
    (s.frameTaken r h).timing =
      (routeControl s.recordMarker (s.headerTaken r h) (k, { bytes := b, bad := false })).timing := by
  obtain ⟨-, -, -, -, blocks⟩ := h.wf_iff.mp wf
  have two : 2 ≤ Config.blocksOf h.txProfile := by
    rw [controls] at blocks
    exact Nat.le_trans (by simp [Nat.add_assoc]) blocks
  refine frameTaken_timing s r h wf _ ?_
  obtain ⟨tail, second⟩ := padPositions_second two (free := s.freeIndex) (a := { bytes := h.bytes, bad := false })
    (b := { bytes := b, bad := false }) (rest := rest)
  rw [positions, controls, second]
  rfl

/-- The link is UP behind a good header exactly where it was, or enters UP by it (R16). -/
theorem headerTaken_up_iff {s : State} {r : FrameRecord} {h : Header} (good : judgeHeader r = .good h) :
    (s.headerTaken r h).link.state = .up ↔ s.link.state = .up ∨ (s.link.state = .acquire ∧ 16 ≤ s.link.good + 1) := by
  rw [headerTaken_link s r h good]
  simp only [LinkUnit.store, LinkUnit.goodHeader]
  cases e : s.link.state with
  | down => simp
  | acquire => by_cases enough : 16 ≤ s.link.good + 1 <;> simp [enough]
  | up => simp

theorem headerTaken_not_down {s : State} {r : FrameRecord} {h : Header} (good : judgeHeader r = .good h) :
    (s.headerTaken r h).link.state ≠ .down := by
  rw [headerTaken_link s r h good]
  exact goodHeader_state _

/-- A good header reaches the LINK source of a TRAILER at its entry to UP (R130). -/
theorem headerTaken_source {s : State} {r : FrameRecord} {h : Header} (trailer : s.role = some .trailer) :
    (s.headerTaken r h).timing.xfer = { s.timing.xfer with
      link := if s.link.state = .acquire ∧ 16 ≤ s.link.good + 1 then s.timing.xfer.link.entersUp
        else s.timing.xfer.link } := by
  rw [headerTaken_timing, goodEffect_xfer]
  change ({ s.timing.xfer with link := if s.role = some .trailer ∧ s.link.state = .acquire ∧ 16 ≤ s.link.good + 1
    then s.timing.xfer.link.entersUp else s.timing.xfer.link } : Transfer) = _
  simp only [trailer, true_and]

theorem entersUp_absent {l : LinkSource} (absent : l.state = .absent) (fair : ∀ c, l.hubClass = some c → c.num ≤ 3) :
    l.entersUp = l.toQualifying := by
  refine if_pos ⟨absent, ?_⟩
  cases e : l.hubClass with
  | none => rfl
  | some c => simpa [QClassGood] using fair c e

theorem entersUp_stays {l : LinkSource} (h : ¬ (l.state = .absent ∧ ∀ c, l.hubClass = some c → c.num ≤ 3)) :
    l.entersUp = l := by
  refine if_neg fun ⟨absent, fair⟩ => h ⟨absent, fun c e => ?_⟩
  rw [e] at fair
  simpa [QClassGood] using fair

/-- A good frame with one control block at a TRAILER: the block reaches the Time Transfer Unit in a state whose link and
source the header has moved (R12, R16, R20, R130). -/
theorem exec_control {s : State} {r : FrameRecord} {h : Header} {k : ControlKind} {b : List Byte} {rest : List Position}
    (trailer : s.role = some .trailer) (quiet : s.quiet = true) (wf : h.wf = true) (controls : h.controls = [k])
    (positions : r.positions = { bytes := h.bytes, bad := false } :: { bytes := b, bad := false } :: rest)
    (stamp : (stampAt b 2).ns ≤ 999999999) : ∃ t u : State, exec (.receivedFrameRecord r) s = .next t ∧
      (k = .sync → t.timing = (takeSync b s.recordMarker u).timing) ∧
      (k = .delayResp → t.timing = (takeDelayResp b u).timing) ∧
      (u.link.state = .up ↔ s.link.state = .up ∨ (s.link.state = .acquire ∧ 16 ≤ s.link.good + 1)) ∧
      u.timing.base.record = s.timing.base.record ∧
      u.timing.xfer = { s.timing.xfer with
        link := if s.link.state = .acquire ∧ 16 ≤ s.link.good + 1 then s.timing.xfer.link.entersUp
          else s.timing.xfer.link } := by
  have good := judgeHeader_bytes r h _ wf positions
  have role := (headerTaken_role s r h).trans trailer
  have taken (wanted : wantedBy (s.headerTaken r h).role k) : discards (s.headerTaken r h).role
      (s.headerTaken r h).link.state (k, { bytes := b, bad := false }) = false :=
    discards_wanted _ _ _ _ (headerTaken_not_down good) rfl wanted fun late => Nat.not_lt.mpr stamp late.2
  refine ⟨_, s.headerTaken r h, exec_goodRecord s r h (by rw [trailer]; decide) quiet good, ?_, ?_,
    headerTaken_up_iff good, (headerTaken_base s r h).2, headerTaken_source trailer⟩
  · rintro rfl
    rw [announce_timing, frameTaken_control wf controls positions,
      routeControl_takes _ _ _ _ (taken (.inl ⟨rfl, role⟩))]
  · rintro rfl
    rw [announce_timing, frameTaken_control wf controls positions,
      routeControl_takes _ _ _ _ (taken (.inr (.inr ⟨rfl, role⟩)))]

/-! ## A SYNC at the LINK source (R130, R131) -/

section
variable {l : LinkSource} {c : QClass}

/-- C1 to C3 start an ABSENT source afresh in UP, and are stored alone otherwise. -/
theorem judgeHubClass_good (good : c.num ≤ 3) (up : Bool) : l.judgeHubClass c up =
    (if l.state = .absent ∧ up = true then LinkSource.toQualifying { l with hubClass := some c }
      else { l with hubClass := some c }, false) := if_pos (by simpa [QClassGood] using good)

theorem judgeHubClass_bad_absent (bad : 3 < c.num) (absent : l.state = .absent) (up : Bool) :
    l.judgeHubClass c up = ({ l with hubClass := some c }, false) := by
  rw [LinkSource.judgeHubClass, if_neg (by simpa [QClassGood] using bad), if_pos absent]

/-- C4 and C5 disqualify a source that is not ABSENT. -/
theorem judgeHubClass_disqualifies (bad : 3 < c.num) (present : l.state ≠ .absent) (up : Bool) :
    l.judgeHubClass c up = (LinkSource.toAbsent { l with hubClass := some c }, true) := by
  rw [LinkSource.judgeHubClass, if_neg (by simpa [QClassGood] using bad), if_neg present]

end

/-- A SYNC at a LINK source, by its class and the state of source and link. -/
theorem takeSync_source {b : List Byte} {s : State} {l : LinkSource} {c : QClass} {up : Prop} (m : Stamp)
    (source : s.timing.xfer.link = l) (read : hubClassAt b = c) (linkUp : s.link.state = .up ↔ up) :
    (c.num ≤ 3 → l.state = .absent → up →
      (takeSync b m s).timing.xfer.link = LinkSource.toQualifying { l with hubClass := some c }) ∧
    (c.num ≤ 3 → (l.state ≠ .absent ∨ ¬ up) → (takeSync b m s).timing.xfer.link = { l with hubClass := some c }) ∧
    (3 < c.num → l.state = .absent → (takeSync b m s).timing.xfer.link = { l with hubClass := some c }) ∧
    (3 < c.num → l.state ≠ .absent →
      (takeSync b m s).timing.xfer.link = LinkSource.toAbsent { l with hubClass := some c }) ∧
    (takeSync b m s).timing.xfer.counters.disqualified = if 3 < c.num ∧ l.state ≠ .absent
      then bump s.timing.xfer.counters.disqualified else s.timing.xfer.counters.disqualified := by
  have link : (takeSync b m s).timing.xfer.link = (l.judgeHubClass c (s.link.state == .up)).1 := by
    rw [takeSync_xfer, Timing.syncJudged, reselect_xfer, source, read]
    rfl
  have counted : (takeSync b m s).timing.xfer.counters.disqualified =
      bumpIf (l.judgeHubClass c (s.link.state == .up)).2 s.timing.xfer.counters.disqualified := by
    rw [takeSync_xfer, Timing.syncJudged, reselect_xfer, source, read]
    rfl
  rw [link, counted]
  refine ⟨fun good absent isUp => ?_, fun good other => ?_, fun bad absent => ?_, fun bad present => ?_, ?_⟩
  · rw [judgeHubClass_good good, if_pos ⟨absent, by rw [linkUp.mpr isUp]; rfl⟩]
  · rw [judgeHubClass_good good, if_neg fun k => other.elim (absurd k.1) (absurd (linkUp.mp (eq_of_beq k.2)))]
  · rw [judgeHubClass_bad_absent bad absent]
  · rw [judgeHubClass_disqualifies bad present]
  · rcases Nat.lt_or_ge 3 c.num with bad | good
    · by_cases absent : l.state = .absent
      · rw [judgeHubClass_bad_absent bad absent, if_neg fun k => k.2 absent]
        rfl
      · rw [judgeHubClass_disqualifies bad absent, if_pos ⟨bad, absent⟩]
        rfl
    · rw [judgeHubClass_good good]
      exact (if_neg fun k => Nat.not_lt.mpr good k.1).symm

/-! ## A DELAY_RESP at the LINK source (R125, R132) -/

theorem takeResp_found {x : Transfer} {q : BitVec 16} {t4 t3 : Stamp} {a : Int} {e : Exchange}
    (found : (x.exchanges.find? fun e => e.seq == q && e.t3.isSome) = some e) (third : e.t3 = some t3) :
    x.takeResp q t4 a =
      ({ x with exchanges := x.exchanges.filter fun e => e.seq != q } : Transfer).complete e.t1 e.t2 t3 t4 a := by
  obtain ⟨seq, t1, t2, e3, e4, frame⟩ := e
  obtain rfl : e3 = some t3 := third
  rw [Transfer.takeResp, found]

/-- The exchange is completed at the source, and the measurement handed on behind it leaves the source and the counts of
exchanges alone. -/
theorem takeDelayResp_source {b : List Byte} {s : State} {x : Transfer} {asymmetry : Int} {e : Exchange} {t3 : Stamp}
    (unit : s.timing.xfer = x) (record : s.timing.base.record.asymmetry = asymmetry)
    (found : (x.exchanges.find? fun e => e.seq == timingSeqAt b && e.t3.isSome) = some e) (third : e.t3 = some t3) :
    let y := ({ x with exchanges := x.exchanges.filter fun e => e.seq != timingSeqAt b } : Transfer).complete
      e.t1 e.t2 t3 (stampAt b 2) asymmetry
    (takeDelayResp b s).timing.xfer.link = y.1.link ∧
    (takeDelayResp b s).timing.xfer.counters.completed = y.1.counters.completed ∧
    (takeDelayResp b s).timing.xfer.counters.rejected = y.1.counters.rejected ∧
    (takeDelayResp b s).timing.xfer.counters.delayJumps = y.1.counters.delayJumps := by
  intro y
  have taken : s.timing.xfer.takeResp (timingSeqAt b) (stampAt b 2) s.timing.base.record.asymmetry = y := by
    rw [unit, record]
    exact takeResp_found found third
  have judged : (timingEvent ({ s.timing with xfer := y.1 } : Timing).reselect s).timing.xfer = y.1 := by
    rw [timingEvent_timing, reselect_xfer]
  unfold takeDelayResp
  rw [taken]
  dsimp only
  split
  · rw [judged]
    exact ⟨rfl, rfl, rfl, rfl⟩
  · next m w _ =>
    rcases handOn_xfer .link m w (timingEvent ({ s.timing with xfer := y.1 } : Timing).reselect s) with e | e <;>
      rw [e, judged] <;> exact ⟨rfl, rfl, rfl, rfl⟩

/-! ## A frame start (R130) -/

theorem supervise_absent {l : LinkSource} (absent : l.state = .absent) (period : Nat) : l.supervise period = l :=
  if_pos absent

/-- Without an expiry standing due, the supervision counts the frame start and judges the expiry afresh. -/
theorem supervise_present {l : LinkSource} (present : l.state ≠ .absent) (notDue : l.expiryDue = false) (period : Nat) :
    l.supervise period = { l with since := l.since + 1, expiryDue := decide (8 * period ≤ l.since + 1) } := by
  rw [LinkSource.supervise, if_neg present, notDue, Bool.false_or]

theorem quiet_expiryDue {s : State} (quiet : s.quiet = true) : s.timing.xfer.link.expiryDue = false := by
  cases due : s.timing.xfer.link.expiryDue with
  | false => rfl
  | true => simp [State.quiet, due] at quiet

theorem ticked_source (s : State) : s.ticked.timing.xfer.link = if s.role = some .trailer
    then s.timing.xfer.link.supervise s.timing.base.record.timingPeriod else s.timing.xfer.link := by
  unfold State.ticked Timing.frameTick
  cases e : s.role with
  | none => rfl
  | some role => cases role <;> rfl

/-- Of the LINK source a frame start makes the supervision's count at a TRAILER, and nothing else. -/
theorem frameStart_source {s : State} (here : s.timing.base.frameHere = true)
    (second : s.timing.base.secondHere = false) (quiet : s.quiet = true) : (frameStart s).timing.xfer.link =
      if s.role = some .trailer then s.timing.xfer.link.supervise s.timing.base.record.timingPeriod
        else s.timing.xfer.link := by
  by_cases role : s.role = none
  · rw [frameStart_none s role, if_neg (by rw [role]; simp)]
  · have sent := congrArg (fun t : Timing => t.xfer.link) (sendFrame_started s.ticked).timing
    dsimp only at sent
    rw [frameStart_here s role here second quiet, sent, placed_link_source, ticked_source]

end Sys2Proof.Machine
end

section
/-! PROOF. Offset and delay of a completed exchange, and every move of the LINK source (R127 to R132). -/

namespace Sys2Proof.Machine

/-- Timestamps of a true offset and two one-way delays, the differences within 1 ms: the exchange is accepted with the
one-way differences as they are, and W as the whole seconds (R127). -/
theorem complete_recovers (x : Transfer) {t1 t3 : Stamp} {a b w asymmetry : Int} (ns1 : t1.ns < 1000000000)
    (ns3 : t3.ns < 1000000000) (least1 : 1 ≤ (t1.sec.toNat : Int) + w)
    (most1 : (t1.sec.toNat : Int) + w ≤ 281474976710654) (least3 : 1 ≤ (t3.sec.toNat : Int) - w)
    (most3 : (t3.sec.toNat : Int) - w ≤ 281474976710654) (nearA : a.natAbs ≤ 1000000) (nearB : b.natAbs ≤ 1000000) :
    x.complete t1 (t1.shift (a + w * 1000000000)) t3 (t3.shift (b - w * 1000000000)) asymmetry =
      x.accepted (linkResult a b asymmetry) (linkMeasurement (linkResult a b asymmetry)) w := by
  have there := shift_diff_seconds t1 a w ns1 nearA least1 most1
  have back : (t3.shift (b - w * 1000000000)).diff t3 = b - w * 1000000000 := by
    have e := shift_diff_seconds t3 b (-w) ns3 nearB (by omega) (by omega)
    rwa [Int.neg_mul, ← Int.sub_eq_add_neg] at e
  have first : reduceDiff ((t1.shift (a + w * 1000000000)).diff t1) = a :=
    reduceDiff_eq (by omega) (by omega) (by rw [there]; omega)
  have seconds := reduceDiff_add_wholeSeconds ((t1.shift (a + w * 1000000000)).diff t1)
  rw [first, there] at seconds
  exact complete_accepted first (reduceDiff_eq (by omega) (by omega) (by rw [back]; omega)) ⟨nearA, nearB⟩
    (by rw [there]; omega)

/-- What an accepted exchange hands on (R132). -/
theorem accepted_handed {x : Transfer} {r : LinkResult} {m w m' w' : Int} (h : (x.accepted r m w).2 = some (m', w')) :
    m' = m ∧ w' = w ∧ x.link.state ≠ .absent ∧ (x.accepted r m w).1.link.lastM = some (m, w) ∧
    (x.accepted r m w).1.link.previous = some r.d := by
  obtain ⟨accepts, pair⟩ := Option.ite_none_right_eq_some.mp h
  obtain ⟨rfl, rfl⟩ := Prod.mk.inj (Option.some.inj pair)
  exact ⟨rfl, rfl, accept_handed accepts⟩

/-- Settles O39: an exchange is rejected, or accepted as `Transfer.accepted` says; a control block reaches the source in
the state of `exec_control`; a frame start supervises it. -/
theorem exchangeRecoversTheOffset : Obligations.ExchangeRecoversTheOffset := by
  refine ⟨fun x t1 t3 offset up down w asym ns1 ns3 least1 most1 least3 most3 leastA mostA leastB mostB => ?_,
    fun x t1 t2 t3 t4 asym a b leastA mostA leastB mostB sameA sameB => ?_,
    fun s r h k b rest trailer quiet wf controls positions stamp => ?_,
    fun s here second quiet => ⟨_, rfl, fun trailer present => ?_, fun other => ?_⟩⟩
  · have result : linkResult (down + offset) (up - offset) asym =
        { o := (down - up + 2 * offset) / 2 - asym, d := (down + up) / 2, a := down + offset, b := up - offset } := by
      rw [linkResult, show down + offset - (up - offset) = down - up + 2 * offset by omega,
        show down + offset + (up - offset) = down + up by omega]
    intro y o d
    have completed : y = _ := complete_recovers x ns1 ns3 least1 most1 least3 most3 (by omega) (by omega)
    rw [result] at completed
    rw [completed]
    refine ⟨rfl, rfl, accept_result _ _ _ _, rfl, rfl, fun m k handed => ?_, by omega⟩
    obtain ⟨rfl, rfl, present, last, previous⟩ := accepted_handed handed
    obtain ⟨multiple, near, -⟩ := linkMeasurement_near
      { o := (down - up + 2 * offset) / 2 - asym, d := (down + up) / 2, a := down + offset, b := up - offset }
    exact ⟨rfl, multiple, near, present, last, previous⟩
  · have first := reduceDiff_eq leastA mostA sameA
    have second := reduceDiff_eq leastB mostB sameB
    intro l y c accepted d r jump
    have accepts (near : accepted) : y = x.accepted r (linkMeasurement r) (wholeSeconds (t2.diff t1)) :=
      complete_accepted first second near rfl
    have steady_jump : x.link.steady r.d = true ↔ ¬ jump := steady_iff _ _
    refine ⟨(complete_frame x t1 t2 t3 t4 asym).1, complete_responses _ _ _ _ _ _, fun far => ?_, fun near absent => ?_,
      fun near present jumps => ?_, fun near present still _ => ?_⟩
    · have rejects : y = _ := complete_rejected first second far
      rw [rejects]
      exact ⟨rfl, rfl, reject_qualifying, reject_other⟩
    · rw [accepts near, accepted_absent absent]
      exact ⟨rfl, rfl, rfl⟩
    · rw [accepts near, accepted_jump present fun steady => steady_jump.mp steady jumps]
      exact ⟨rfl, rfl, rfl⟩
    · obtain ⟨multiple, close, half⟩ := linkMeasurement_near r
      have seconds := reduceDiff_add_wholeSeconds (t2.diff t1)
      rw [first] at seconds
      rw [accepts near, accepted_steady present (steady_jump.mpr still)]
      refine ⟨_, _, rfl, seconds.symm, multiple, close, half, rfl, fun at' => ?_, fun at' before => ?_,
        fun at' before few => ?_, fun at' before third => ?_⟩
      · rw [advanceCount_qualified at']
      · rw [advanceCount_first at' before]
      · rw [advanceCount_more at' before few]
      · rw [advanceCount_fourth at' before third]
  · obtain ⟨t, u, next, sync, delayResp, up, record, source⟩ := exec_control trailer quiet wf controls positions stamp
    intro x becomesUp wakes fresh
    refine ⟨t, next, ?_⟩
    intro z judged
    have holds (l : LinkSource) (at' : u.timing.xfer = { x with link := l }) : judged l := by
      refine ⟨fun e t3 kind found third => ?_, fun kind none => ?_, fun kind => ?_⟩
      · have moves := takeDelayResp_source (b := b) at' (congrArg TimingRecord.asymmetry record) found third
        rwa [← delayResp kind] at moves
      · have same := takeDelayResp_unmatched b u (by rw [at']; exact none)
        rw [← delayResp kind, at'] at same
        exact congrArg Transfer.link same
      · have moves := takeSync_source s.recordMarker (congrArg Transfer.link at') rfl up (b := b)
        rwa [← sync kind, at'] at moves
    refine ⟨fun ⟨enters, absent, fair⟩ => holds _ ?_, fun asleep => holds _ ?_⟩
    · rw [source, if_pos enters, entersUp_absent absent fair]
      rfl
    · rw [source]
      split
      · next enters => rw [entersUp_stays fun k => asleep ⟨enters, k⟩]
      · rfl
  · rw [announce_timing, frameStart_source here second quiet, if_pos trailer,
      supervise_present present (quiet_expiryDue quiet)]
  · rw [announce_timing, frameStart_source here second quiet]
    split
    · next trailer => exact supervise_absent (other.resolve_left fun k => k trailer) _
    · rfl

end Sys2Proof.Machine
end

section
/-! SUPPORT and PROOF. The holdover aging step and the holdover limit (R144 to R146, O35). -/

namespace Sys2Proof.Machine

/-- A change of the timing blocks alone touches no traffic. -/
theorem withTiming_sameTraffic (s : State) (t : Timing) : sameTraffic s (s.withTiming t) :=
  ⟨rfl, rfl, rfl, rfl, rfl, fun _ => ⟨rfl, rfl, rfl⟩⟩

/-- HOLDOVER_AGING with a step due takes it at the rate of the calibration slot (R145). -/
theorem exec_holdoverAging {s : State} (due : s.timing.servo.agingDue = true) :
    exec .holdoverAging s = .next (announce (s.withTiming (s.timing.ageStep s.agingRate))) :=
  congrArg (Host.Outcome.next ∘ announce) (if_pos due)

/-- The holdover elapsed time at or above the limit in class C3 (R144). -/
theorem limitReached_iff (t : Timing) : t.limitReached = true ↔
    t.servo.state = .holdover ∧ t.servo.cls = .c3 ∧ t.base.record.holdoverLimit ≤ t.servo.elapsed := by
  simp [Timing.limitReached, and_assoc]

/-- HOLDOVER_LIMIT at the limit re-judges the class (R144, R146). -/
theorem exec_holdoverLimit {s : State} (reached : s.timing.limitReached = true) :
    exec .holdoverLimit s = .next (announce (timingEvent s.timing.rejudge s)) :=
  congrArg (Host.Outcome.next ∘ announce) (if_pos reached)

/-- In HOLDOVER at or above the limit the class judged is C4, and the re-judgement touches nothing else (R146). -/
theorem rejudge_overLimit {t : Timing} (state : t.servo.state = .holdover)
    (late : t.base.record.holdoverLimit ≤ t.servo.elapsed) :
    t.rejudge = { t with servo := { t.servo with cls := .c4 } } := by
  have judged : judgedClass t.servo t.xfer.link.hubClass t.base.record.holdoverLimit = .c4 := by
    rw [judgedClass, state]
    exact if_neg (Nat.not_lt.mpr late)
  rw [Timing.rejudge, judged]

/-- Settles O35: the aging step is a change of the timing blocks alone, and the limit re-judges the class. -/
theorem holdoverAgesAndDegrades : Obligations.HoldoverAgesAndDegrades := by
  intro s
  refine ⟨fun due => ⟨_, exec_holdoverAging due, ?_⟩, fun state c3 late => ?_⟩
  · have traffic := (announce_onlyNotices _).sameTraffic
      (withTiming_sameTraffic s (s.timing.ageStep s.agingRate))
    rw [announce_timing, announce_tenants, announce_test, announce_ladder]
    exact ⟨rfl, rfl, rfl, rfl, rfl, rfl, rfl, rfl, rfl, traffic, rfl, rfl, rfl⟩
  · refine ⟨_, exec_holdoverLimit ((limitReached_iff _).mpr ⟨state, c3, late⟩), ?_,
      (announce_onlyNotices _).sameTraffic (timingEvent_sameTraffic _ s)⟩
    rw [announce_timing, timingEvent_timing, rejudge_overLimit state late]

end Sys2Proof.Machine
end

section
/-! SUPPORT. The end of a step raises notices in the PROFILE, TENANT and TEST slots only, so a TIMING notice that waits
behind a reply is left as it stands (R155, R172, R173). -/

namespace Sys2Proof.Machine

/-- A TIMING slot with what it holds, at a port that is not free for a notice (R172). -/
def State.timingWaits (n : Option PendingNotice) (s : State) : Prop :=
  s.port.freeForNotice = false ∧ s.port.slots.timing = n

/-- A notice raised in another slot leaves the TIMING slot alone (R173). -/
theorem slots_raise_timing (n : NoticeSlots) {k : NoticeKind} (c : NoticeContent) (other : k ≠ .timing) :
    (n.raise k c).timing = n.timing := by
  cases k
  case timing => exact absurd rfl other
  all_goals rfl

theorem raise_timingWaits {n : Option PendingNotice} {s : State} (h : s.timingWaits n) {k : NoticeKind}
    (c : NoticeContent) (other : k ≠ .timing) : (s.raise k c).timingWaits n := by
  obtain ⟨busy, slot⟩ := h
  refine ⟨(raise_onlyNotices s k c).port.busy busy, ?_⟩
  rw [raise_busy s k c busy]
  exact (slots_raise_timing _ c other).trans slot

theorem raiseTest_timingWaits {n : Option PendingNotice} {s : State} (h : s.timingWaits n) (c : TestCause) :
    (s.raiseTest c).timingWaits n := raise_timingWaits h _ nofun

theorem setForce_timingWaits (p : Nat) {n : Option PendingNotice} {s : State} (h : s.timingWaits n) :
    (setForce p s).timingWaits n :=
  raise_timingWaits (s := s.withLadder { s.ladder with forced := some p }) h _ nofun

theorem removeForce_timingWaits {n : Option PendingNotice} {s : State} (h : s.timingWaits n) :
    (removeForce s).timingWaits n := by
  unfold removeForce
  split
  · exact raise_timingWaits (s := s.withLadder { s.ladder with forced := none }) h _ nofun
  · exact h

theorem drainIfEmpty_timingWaits (x : Tenant) {n : Option PendingNotice} {s : State} (h : s.timingWaits n) :
    (drainIfEmpty x s).timingWaits n := by
  unfold drainIfEmpty
  split
  · exact raise_timingWaits (s := s.withTenant x { s.tenant x with state := .off, paused := false }) h _ nofun
  · exact h

/-- An occasion of injection raises nothing (R158). -/
theorem inject_port (x : Tenant) (s : State) : (inject x s).port = s.port := by
  unfold inject
  repeat' split
  all_goals rfl

theorem closeStep_timingWaits (w : Working) (v : Verdict) (r : EndReason) {n : Option PendingNotice} {s : State}
    (h : s.timingWaits n) : (closeStep w v r s).timingWaits n := by
  have unforced : (if w.step.body.forces.isSome then removeForce s else s).timingWaits n := by
    split
    · exact removeForce_timingWaits h
    · exact h
  have removed : (removeStepEntries w (if w.step.body.forces.isSome then removeForce s else s)).timingWaits n := by
    unfold removeStepEntries
    split
    · exact drainIfEmpty_timingWaits _ unforced
    · exact unforced
  unfold closeStep
  refine raiseTest_timingWaits ?_ .stepEnd
  exact removed

theorem finishRun_timingWaits (aborted : Bool) {n : Option PendingNotice} {s : State} (h : s.timingWaits n) :
    (finishRun aborted s).timingWaits n := by
  unfold finishRun
  refine raiseTest_timingWaits ?_ .runEnd
  exact h

theorem startStep_timingWaits (i : Nat) {n : Option PendingNotice} {s : State} (h : s.timingWaits n) :
    (startStep i s).1.timingWaits n := by
  have injected (x : Tenant) (w : Option Working) : (inject x (s.withWork w)).timingWaits n := by
    rw [State.timingWaits, inject_port]
    exact h
  unfold startStep beginStep
  repeat' split
  all_goals first
    | exact h
    | exact setForce_timingWaits _ h
    | exact injected _ _

/-- The judgement of a step in WAITING leaves a TIMING notice that waits (R155, R160, R161). -/
theorem stepWatch_timingWaits {n : Option PendingNotice} {s : State} (h : s.timingWaits n) :
    (stepWatch s).timingWaits n := by
  have ends (v : Verdict) (r : EndReason) : (endStep v r s).timingWaits n :=
    endStep_keeps (P := fun u => u.timingWaits n) (fun w v r _ k => closeStep_timingWaits w v r k) (fun _ _ _ k => k)
      (fun a _ k => finishRun_timingWaits a k) (fun i _ k => startStep_timingWaits i k) v r s h
  unfold stepWatch
  repeat' split
  all_goals first | exact h | exact ends _ _

/-- The last of several TIMING notices raised at a port that is not free for a notice is the one that waits (R173). -/
theorem raiseTiming_last (before : Timing) (s : State) (l : List TimingCause) (c : TimingCause)
    (busy : s.port.freeForNotice = false) : ∃ merge, (s.raiseTiming before (l ++ [c])).timingWaits
      (some { content := .timing (timingContent before s.timing c), merge := merge }) := by
  have still := (raiseTiming_onlyNotices before s l).port.busy busy
  have last : s.raiseTiming before (l ++ [c]) =
      (s.raiseTiming before l).raise .timing (.timing (timingContent before s.timing c)) := by
    rw [State.raiseTiming, List.foldl_append, ← State.raiseTiming, ← raiseTiming_timing before s l]
    rfl
  refine ⟨_, (raiseTiming_onlyNotices before s _).port.busy busy, Eq.trans ?_ (congrArg some (PendingNotice.raised_eq
    (s.raiseTiming before l).port.slots.timing _))⟩
  rw [last, raise_busy _ _ _ still]
  rfl

end Sys2Proof.Machine
end

section
/-! SUPPORT and PROOF. TIMING_RESTART (R147, O38). -/

namespace Sys2Proof.Machine

/-- The judgement of a step in WAITING touches traffic only where the step ends (R160, R161). -/
theorem stepWatch_sameTraffic (s : State) : sameTraffic s (stepWatch s) := by
  have frame := stepWatch_stepFrame s
  refine ⟨frame.role, frame.link, frame.planner, frame.store, frame.pending, fun h => ?_⟩
  have idle : s.watchIdle := by
    refine h.imp id fun still w work => ?_
    obtain ⟨wait, cross⟩ := still w work
    refine ⟨fun cond limit body => ?_, fun samples limit body => ?_⟩
    · rw [← wait cond limit body]
      cases cond <;> simp only [State.holds, frame.timing, frame.link]
    · rw [← cross samples limit body]
      simp only [State.crossReady, frame.timing]
  rw [stepWatch_watchIdle s idle]
  exact ⟨rfl, rfl, rfl⟩

/-- The Servo after TIMING_RESTART: with the mark clear the class is C5 in ACQUIRING and in FREERUN (R146, R147). -/
theorem restart_eq (t : Timing) : t.restart = { t with servo := { t.servo with
    state := if t.servo.selected.isSome = true then .acquiring else .freerun, everLocked := false, lock := 0, unlock := 0,
    lockedTime := 0, elapsed := 0, cls := .c5, agingDue := false } } := by
  unfold Timing.restart Timing.rejudge judgedClass
  cases t.servo.selected.isSome <;> rfl

/-- The state with the Servo restarted and the TIMING notices raised, the one of cause RESTART last (R147, R148). -/
def State.restartNoticed (s : State) : State :=
  (s.withTiming s.timing.restart).raiseTiming s.timing (restartCauses s.timing s.timing.restart)

theorem restartNoticed_onlyNotices (s : State) : OnlyNotices (s.withTiming s.timing.restart) s.restartNoticed :=
  raiseTiming_onlyNotices _ _ _

theorem doTimingRestart_eq (s : State) : doTimingRestart s = (stepWatch s.restartNoticed, .ok,
    .restarted (if s.timing.servo.selected.isSome = true then .acquiring else .freerun) s.timing.servo.selected .c5) :=
  congrArg (fun t : Timing => (stepWatch s.restartNoticed, Status.ok,
    ReplyBody.restarted t.servo.state t.servo.selected t.servo.cls)) (restart_eq s.timing)

theorem timingRestart_timing (s : State) : (stepWatch s.restartNoticed).timing = s.timing.restart :=
  (stepWatch_stepFrame _).timing.trans (restartNoticed_onlyNotices s).timing

/-- The notices are no traffic, so what the judgement behind them leaves, the restart leaves. -/
theorem timingRestart_sameTraffic (s : State) : sameTraffic s (stepWatch s.restartNoticed) := by
  have watched := stepWatch_sameTraffic s.restartNoticed
  rw [(restartNoticed_onlyNotices s).eq] at watched ⊢
  exact watched

/-- Settles O38: the request's effects run while the place of its reply is held, so the notice of cause RESTART waits. -/
theorem timingRestartClearsTheMark : Obligations.TimingRestartClearsTheMark := by
  intro s tag free v st
  have timing := (timingRestart_timing (s.serving 14 tag)).trans (restart_eq _)
  obtain ⟨merge, raised⟩ := raiseTiming_last s.timing ((s.serving 14 tag).withTiming s.timing.restart) _ .restart
    (Port.reserve_busy s.port 14 tag)
  have waits : (stepWatch (s.serving 14 tag).restartNoticed).port.slots.timing = some _ :=
    (stepWatch_timingWaits raised).2
  refine ⟨stepWatch (s.serving 14 tag).restartNoticed, congrArg Host.Outcome.next
    (requestFrame_ends tag .timingRestart s _ _ _ free (doTimingRestart_eq _)), ?_, ?_, ?_,
    timingRestart_sameTraffic (s.serving 14 tag), _, merge, waits, rfl⟩
  all_goals
    rw [timing]
    rfl

end Sys2Proof.Machine
end

section
/-! PROOF. A TEST block as sent is read back field by field (R152, R156, 11.5), and the checker counts the blocks of a step
that arrive in order without an error or a miss (R163). -/

namespace Sys2Proof.Machine

/-! ## Fields at their offsets (R183) -/

theorem byteAt_append_right (a b : List Byte) (i : Nat) : byteAt (a ++ b) (a.length + i) = byteAt b i := by
  simp [byteAt, List.getElem?_append_right]

/-- A number is read from its bytes, wherever they stand. -/
theorem numAt_numBytes (a : List Byte) (n : Nat) :
    ∀ (x : Nat) (c : List Byte), numAt (a ++ (numBytes n x ++ c)) a.length n = x % 256 ^ n := by
  induction n with
  | zero => exact fun x _ => (Nat.mod_one x).symm
  | succ n ih =>
    intro x c
    have high : numAt (a ++ (numBytes (n + 1) x ++ c)) a.length n = x / 256 % 256 ^ n := by
      rw [numBytes, List.append_assoc]
      exact ih _ _
    have low : byteAt (a ++ (numBytes (n + 1) x ++ c)) (a.length + n) = BitVec.ofNat 8 x := by
      have last := byteAt_append_right (numBytes n (x / 256)) ([BitVec.ofNat 8 x] ++ c) 0
      rw [numBytes_length, Nat.add_zero] at last
      rw [byteAt_append_right, numBytes, List.append_assoc, last]
      rfl
    have parts : x % 256 ^ (n + 1) = x % 256 + 256 * (x / 256 % 256 ^ n) := by rw [Nat.pow_succ', Nat.mod_mul]
    rw [numAt, high, low, BitVec.toNat_ofNat, parts]
    omega

/-! ## The pattern descriptor (R151, 11.5) -/

theorem pattern_inRange_iff (p : Pattern) : p.inRange = true ↔ (p.bars = 1 ∨ p.bars = 2 ∨ p.bars = 4 ∨ p.bars = 8) ∧
    1 ≤ p.barSize ∧ p.barSize ≤ 96 ∧ 1 ≤ p.repeatSize ∧ p.repeatSize ≤ 12 ∧ p.fill.length = 16 := by
  simp only [Pattern.inRange, Bool.and_eq_true, Bool.or_eq_true, beq_iff_eq, decide_eq_true_eq, and_assoc, or_assoc]

theorem descriptor_bytes {p : Pattern} (fill : p.fill.length = 16) (c : List Byte) : p.descriptor ++ c =
    [BitVec.ofNat 8 p.mode.code, BitVec.ofNat 8 p.bars, BitVec.ofNat 8 p.barSize, BitVec.ofNat 8 p.repeatSize] ++
      (p.fill ++ c) := by
  rw [Pattern.descriptor, padTo_of_length fill, List.append_assoc]

/-- The descriptor of a pattern within its ranges is read back as that pattern, wherever it stands. -/
theorem patternAt_descriptor (a c : List Byte) {p : Pattern} (h : p.inRange = true) :
    patternAt (a ++ (p.descriptor ++ c)) a.length = some p := by
  obtain ⟨bars, -, size, -, width, fill⟩ := (pattern_inRange_iff p).mp h
  have byte (i : Nat) := byteAt_append_right a (p.descriptor ++ c) i
  rw [descriptor_bytes fill] at byte ⊢
  have mode := (congrArg BitVec.toNat (byte 0)).trans (toNat_ofNat_eight p.mode.code (by cases p.mode <;> decide))
  have barsRead := (congrArg BitVec.toNat (byte 1)).trans (toNat_ofNat_eight p.bars (by omega))
  have sizeRead := (congrArg BitVec.toNat (byte 2)).trans (toNat_ofNat_eight p.barSize (by omega))
  have widthRead := (congrArg BitVec.toNat (byte 3)).trans (toNat_ofNat_eight p.repeatSize (by omega))
  have fillByte (i : Nat) := (byte (4 + i)).trans (byteAt_append_right [_, _, _, _] (p.fill ++ c) i)
  have fillRead : ((List.range 16).map fun i => byteAt (p.fill ++ c) i) = p.fill := by
    rw [← fill, map_byteAt_range _ _ (by simp), List.take_left]
  unfold patternAt
  rw [Nat.add_zero] at mode
  rw [mode]
  simp only [Nat.add_assoc, barsRead, sizeRead, widthRead, fillByte, fillRead]
  obtain ⟨m, _, _, _, _⟩ := p
  cases m <;> exact if_pos h

/-- A payload that its pattern generated does not differ from it (R152). -/
theorem differing_generated (p : Pattern) (seq n : Nat) :
    differing (some p) seq 0 ((List.range n).map (p.byteOf seq)) = 0 := by
  refine List.length_eq_zero_iff.mpr (List.filter_eq_nil_iff.mpr fun x m => ?_)
  obtain ⟨-, less, value⟩ := List.mem_zipIdx m
  simp [value]

/-! ## A TEST block as received (R156, 11.5) -/

section
variable {p : Pattern} (run : BitVec 16) (k seq : Nat)

theorem testBlock_run : BitVec.ofNat 16 (numAt (testBlockBytes run k p seq) 0 2) = run :=
  numAt_two _ _ _ (by rw [testBlockBytes, numBytes_two]; rfl) (by rw [testBlockBytes, numBytes_two]; rfl)

theorem testBlock_step (h : k < 256) : (byteAt (testBlockBytes run k p seq) 2).toNat = k := by
  rw [testBlockBytes, numBytes_two]
  exact toNat_ofNat_eight k h

theorem testBlock_pattern (h : p.inRange = true) : patternAt (testBlockBytes run k p seq) 3 = some p := by
  have read := patternAt_descriptor (numBytes 2 run.toNat ++ [BitVec.ofNat 8 k]) (numBytes 4 seq ++
    (List.replicate 5 0 ++ (List.range 96).map (p.byteOf seq))) h
  simpa [testBlockBytes, numBytes_length] using read

/-- What stands in a TEST block ahead of its sequence. -/
theorem testBlock_front_length : (numBytes 2 run.toNat ++ [BitVec.ofNat 8 k] ++ p.descriptor).length = 23 := by
  simp [numBytes_length, Pattern.descriptor, padTo_length]

theorem testBlock_seq (h : seq < 4294967296) : numAt (testBlockBytes run k p seq) 23 4 = seq := by
  have number := numAt_numBytes (numBytes 2 run.toNat ++ [BitVec.ofNat 8 k] ++ p.descriptor) 4 seq
    (List.replicate 5 0 ++ (List.range 96).map (p.byteOf seq))
  rw [testBlock_front_length] at number
  rw [testBlockBytes, List.append_assoc, List.append_assoc]
  exact number.trans (Nat.mod_eq_of_lt h)

theorem testBlock_payload : ((List.range 96).map fun i => byteAt (testBlockBytes run k p seq) (32 + i)) =
    (List.range 96).map (p.byteOf seq) := by
  have front : (numBytes 2 run.toNat ++ [BitVec.ofNat 8 k] ++ p.descriptor ++ numBytes 4 seq ++
      List.replicate 5 (0 : Byte)).length = 32 := by
    simp [numBytes_length, Pattern.descriptor, padTo_length]
  have payload := map_byteAt_range ((List.range 96).map (p.byteOf seq)) 96 (by simp)
  rw [List.take_of_length_le (by simp)] at payload
  refine Eq.trans (List.map_congr_left fun i _ => ?_) payload
  rw [testBlockBytes, ← front]
  exact byteAt_append_right _ _ i

end

/-! ## The checker on the blocks of a step (R163) -/

/-- The check record of a run and step after n blocks in order, none of them errored (R163). -/
def CheckRecord.clean (run : BitVec 16) (k n : Nat) : CheckRecord :=
  { CheckRecord.fresh run k with blocks := n, lastSeq := if n = 0 then none else some (n - 1) }

section
variable {p : Pattern} {run : BitVec 16} {k : Nat}

/-- The next block in order adds itself to the count and nothing else (R163). -/
theorem clean_takeBlock {n : Nat} (h : p.inRange = true) (less : n < 4294967296) :
    (CheckRecord.clean run k n).takeBlock (testBlockBytes run k p n) false = CheckRecord.clean run k (n + 1) := by
  unfold CheckRecord.takeBlock
  rw [testBlock_seq run k n less, testBlock_pattern run k n h, testBlock_payload]
  dsimp only
  rw [differing_generated]
  cases n with
  | zero => rfl
  | succ n => simp [CheckRecord.clean, CheckRecord.fresh]

/-- A block of a run and step without a matching record begins a record (R163). -/
theorem checkBlock_first {t : TestUnit} (small : k < 256) (none' : CheckRecord.matchesTraffic t.check run k = false)
    (seq : Nat) : (t.checkBlock (testBlockBytes run k p seq) false).check =
      some ((CheckRecord.fresh run k).takeBlock (testBlockBytes run k p seq) false) := by
  unfold TestUnit.checkBlock
  rw [testBlock_run, testBlock_step run k seq small]
  dsimp only
  rw [none']

/-- A block of a run and step with a matching record is taken into it (R163). -/
theorem checkBlock_matching {t : TestUnit} {c : CheckRecord} (small : k < 256) (check : t.check = some c)
    (same : CheckRecord.matchesTraffic (some c) run k = true) (seq : Nat) :
    (t.checkBlock (testBlockBytes run k p seq) false).check = some (c.takeBlock (testBlockBytes run k p seq) false) := by
  unfold TestUnit.checkBlock
  rw [testBlock_run, testBlock_step run k seq small]
  dsimp only
  rw [check, same]

theorem clean_matches (n : Nat) : CheckRecord.matchesTraffic (some (CheckRecord.clean run k n)) run k = true := by
  simp [CheckRecord.matchesTraffic, CheckRecord.clean, CheckRecord.fresh]

/-- The blocks of a step in order, from the first one on, leave a clean record (R163). -/
theorem checkBlocks_clean {t : TestUnit} (h : p.inRange = true) (small : k < 256)
    (none' : CheckRecord.matchesTraffic t.check run k = false) (n : Nat) (most : n < 4294967296) :
    (((List.range (n + 1)).map fun q => testBlockBytes run k p q).foldl (fun t b => t.checkBlock b false) t).check =
      some (CheckRecord.clean run k (n + 1)) := by
  induction n with
  | zero => exact (checkBlock_first small none' 0).trans (congrArg some (clean_takeBlock h most))
  | succ n ih =>
    rw [List.range_succ, List.map_append, List.foldl_append]
    refine (checkBlock_matching small (ih (by omega)) (clean_matches _) (n + 1)).trans ?_
    rw [clean_takeBlock h most]

end

/-- Settles O14, by induction on the number of blocks: each one is read back as it was sent and is the next in order. -/
theorem ownTestBlocksCheckClean : Obligations.OwnTestBlocksCheckClean := by
  intro t p run k n range small most least none'
  obtain ⟨m, rfl⟩ : ∃ m, n = m + 1 := ⟨n - 1, by omega⟩
  exact ⟨_, checkBlocks_clean range small none' m (by omega), rfl, rfl, rfl, rfl, rfl, rfl, rfl⟩

end Sys2Proof.Machine
end

section
/-! PROOF. SET_PATTERN and SET_STEP (R151, R153). -/

namespace Sys2Proof.Machine

/-! ## The ranges of a step's fields (R153) -/

theorem linkPattern_ok_iff (profile : Option Nat) (k n : Nat) (mode : ReserveMode) (lead active tail e miss : Nat) :
    (StepBody.linkPattern profile k n mode lead active tail e miss).ok = true ↔ (∀ p, profile = some p → p ≤ 7) ∧ k ≤ 3 ∧
      1 ≤ n ∧ lead ≤ 65535 ∧ 1 ≤ active ∧ active ≤ 65535 ∧ 4 ≤ tail ∧ tail ≤ 65535 ∧ e ≤ 4294967295 ∧
      miss ≤ 4294967295 := by
  cases profile <;> simp [StepBody.ok, and_assoc]

theorem tenantPath_ok_iff (x : Tenant) (k packets length e miss : Nat) :
    (StepBody.tenantPath x k packets length e miss).ok = true ↔ k ≤ 3 ∧ 1 ≤ packets ∧ packets ≤ 65535 ∧ 64 ≤ length ∧
      length ≤ 1536 ∧ e ≤ 65535 ∧ miss ≤ 65535 := by
  simp [StepBody.ok, and_assoc]

theorem timingCross_ok_iff (samples limit : Nat) :
    (StepBody.timingCross samples limit).ok = true ↔ 4 ≤ samples ∧ samples ≤ 3600 ∧ limit ≤ 1000000 := by
  simp [StepBody.ok, and_assoc]

theorem wait_ok_iff (cond : WaitCond) (timeout : Nat) :
    (StepBody.wait cond timeout).ok = true ↔ 1 ≤ timeout ∧ timeout ≤ 3600 := by
  simp [StepBody.ok]

/-! ## One entry of a table replaced -/

/-- An index of the step table names an entry, so the step is put there (R153). -/
theorem withStep_entry (t : TestUnit) (i : Fin 16) (e : Option Step) :
    t.withStep i.val e = { t with steps := t.steps.set i.val e } := by
  have put : t.steps.setIfInBounds i.val e = t.steps.set i.val e := by
    ext j
    simp [Vector.getElem_setIfInBounds, Vector.getElem_set]
  rw [TestUnit.withStep, put]

section
variable {s : State} {i : Nat}

theorem doSetPattern_badValue {p : Pattern} (bad : ¬ (i ≤ 3 ∧ p.inRange = true)) :
    doSetPattern i (some p) s = (s, .badValue, .empty) := by
  refine if_pos ?_
  by_contra none'
  obtain ⟨low, range⟩ := not_or.mp none'
  exact bad ⟨Nat.not_lt.mp low, by simpa using range⟩

theorem doSetPattern_good {p : Pattern} (low : i ≤ 3) (range : p.inRange = true) : doSetPattern i (some p) s =
    if s.test.runState = .running then (s, .wrongState, .empty)
    else (s.withTest { s.test with patterns := s.test.patterns.put i p }, .ok, .pattern p) :=
  if_neg (by simp [Nat.not_lt.mpr low, range])

theorem doSetStep_running {a : StepArg} (run : s.test.runState = .running) :
    doSetStep i a s = (s, .wrongState, .empty) := if_pos run

theorem doSetStep_badValue {a : StepArg} (idle : s.test.runState ≠ .running) (bad : 15 < i ∨ a = .unspelled) :
    doSetStep i a s = (s, .badValue, .empty) := by
  unfold doSetStep
  rw [if_neg idle]
  by_cases high : 15 < i
  · exact if_pos high
  · rw [if_neg high, bad.resolve_left high]

/-- SET_STEP between runs with an index that names an entry (R153). -/
theorem doSetStep_entry (i : Fin 16) (idle : s.test.runState ≠ .running) : doSetStep i.val .empty s =
    (s.withTest { s.test with steps := s.test.steps.set i.val none }, .ok, .stepEntry none) := by
  rw [doSetStep, if_neg idle, if_neg (by omega), withStep_entry]

theorem doSetStep_refused {e : Step} (i : Fin 16) (idle : s.test.runState ≠ .running) (bad : e.body.ok = false) :
    doSetStep i.val (.step e) s = (s, .badValue, .empty) := by
  rw [doSetStep, if_neg idle, if_neg (by omega)]
  exact if_pos bad

/-- A step within its ranges is taken with its T limited; the reply says whether it was (R153). -/
theorem doSetStep_taken {b : StepBody} {m : Bool} (i : Fin 16) (idle : s.test.runState ≠ .running) (ok : b.ok = true) :
    doSetStep i.val (.step { body := b, mandatory := m }) s =
    (s.withTest { s.test with steps := s.test.steps.set i.val (some { body := b.limited, mandatory := m }) },
      if b.limited = b then .ok else .adjusted, .stepEntry (some { body := b.limited, mandatory := m })) := by
  have same : ({ body := b.limited, mandatory := m } : Step) = { body := b, mandatory := m } ↔ b.limited = b := by simp
  rw [doSetStep, if_neg idle, if_neg (by omega)]
  simp only [ok, Bool.true_eq_false, if_false, same, withStep_entry]

end

/-- Settles O43: the checks are those of the model, and an entry taken is the table's only change. -/
theorem testTablesAreSet : Obligations.TestTablesAreSet := by
  intro s tag free
  have read (r : Request) (st : Status) (e : ∀ k, perform r (s.serving k tag) = (s.serving k tag, st, .empty)) :
      (Host.Outcome.next (requestFrame tag r s) : Host.Outcome State Fault Refusal) =
        .next (s.replied r.kind tag st .empty) :=
    congrArg Host.Outcome.next (requestFrame_read tag r s st .empty free e)
  have done (r : Request) (t : State) (st : Status) (body : ReplyBody)
      (e : ∀ k, perform r (s.serving k tag) = (t.serving k tag, st, body)) :
      (Host.Outcome.next (requestFrame tag r s) : Host.Outcome State Fault Refusal) =
        .next (t.replied r.kind tag st body) :=
    congrArg Host.Outcome.next (requestFrame_done tag r s t st body free e)
  refine ⟨fun i p => ?_, fun i a run => ?_, fun i a idle bad => ?_, fun i idle => ?_, fun i b m idle => ?_⟩
  · dsimp only
    rw [← pattern_inRange_iff]
    refine ⟨fun bad => read _ _ fun k => doSetPattern_badValue bad, read (.setPattern i none) _ fun k => rfl,
      fun ⟨low, range⟩ run => read _ _ fun k => ?_, fun ⟨low, range⟩ idle => done _ _ _ _ fun k => ?_⟩
    · exact (doSetPattern_good low range).trans (if_pos run)
    · exact (doSetPattern_good low range).trans (if_neg idle)
  · exact read _ _ fun k => doSetStep_running run
  · exact read _ _ fun k => doSetStep_badValue idle bad
  · exact done _ _ _ _ fun k => doSetStep_entry i idle
  · intro good taken
    have fields : good ↔ b.ok = true := by
      cases b with
      | linkPattern => exact (linkPattern_ok_iff ..).symm
      | tenantPath => exact (tenantPath_ok_iff ..).symm
      | timingCross => exact (timingCross_ok_iff ..).symm
      | wait => exact (wait_ok_iff ..).symm
    have limited : taken = b.limited := by
      cases b with
      | linkPattern profile k n mode lead active tail e miss =>
        have least : (if 64 < n then 64 else n) = min n 64 := by split <;> omega
        exact congrArg (fun n => StepBody.linkPattern profile k n mode lead active tail e miss) least
      | tenantPath => rfl
      | timingCross => rfl
      | wait => rfl
    rw [fields, limited]
    exact ⟨fun bad => read _ _ fun k => doSetStep_refused i idle (Bool.eq_false_iff.mpr bad),
      fun ok => done _ _ _ _ fun k => doSetStep_taken i idle ok⟩

end Sys2Proof.Machine
end

section
/-! PROOF. TEST_ABORT (R155, R159, R165) and ACCEPT_WAIVE (R167). -/

namespace Sys2Proof.Machine

/-! ## The later steps of a run logged SKIPPED (R155, R165) -/

/-- The records of `n` steps from an index that never started; an empty entry has none (R155, R166). -/
def TestUnit.skipRecords (t : TestUnit) (reason : EndReason) (n i : Nat) : List ResultRecord :=
  (List.range' i n).filterMap fun j => (t.steps.toList.getD j none).map fun step =>
    (Working.fresh j step (t.patternFor step.body)).record .skipped reason

theorem skipSteps_results (reason : EndReason) (n : Nat) :
    ∀ i t, (skipSteps reason n i t).results = t.results ++ t.skipRecords reason n i := by
  induction n with
  | zero => exact fun _ t => (List.append_nil t.results).symm
  | succ n ih =>
    intro i t
    unfold skipSteps
    split
    · next empty =>
      rw [ih, TestUnit.skipRecords, TestUnit.skipRecords, List.range'_succ, List.filterMap_cons, empty]
      rfl
    · next step entry =>
      have logged (u : TestUnit) (w : Working) : (u.log w .skipped reason).results ++
          (u.log w .skipped reason).skipRecords reason n (i + 1) =
          u.results ++ (w.record .skipped reason :: u.skipRecords reason n (i + 1)) :=
        List.append_assoc u.results [_] _
      rw [ih, logged]
      conv_rhs => rw [TestUnit.skipRecords, List.range'_succ, List.filterMap_cons, entry]
      rfl

theorem skipRest_results (i : Nat) (reason : EndReason) (s : State) : (skipRest i reason s).test.results =
    s.test.results ++ s.test.skipRecords reason (s.test.count - i) i := skipSteps_results _ _ _ _

theorem skipRecords_skipped {t : TestUnit} {reason : EndReason} {n i : Nat} {x : ResultRecord}
    (m : x ∈ t.skipRecords reason n i) : x.verdict = .skipped ∧ x.reason = reason := by
  obtain ⟨j, -, e⟩ := List.mem_filterMap.mp m
  obtain ⟨step, -, rfl⟩ := Option.map_eq_some_iff.mp e
  exact ⟨rfl, rfl⟩

/-- Where no entry is empty, every one of the steps has its record, in index order (R165). -/
theorem skipRecords_index {t : TestUnit} (reason : EndReason) (n : Nat) : ∀ i,
    (∀ j, i ≤ j → j < i + n → (t.steps.toList.getD j none).isSome = true) →
    (t.skipRecords reason n i).map ResultRecord.index = List.range' i n := by
  induction n with
  | zero => exact fun _ _ => rfl
  | succ n ih =>
    intro i full
    obtain ⟨step, entry⟩ := Option.isSome_iff_exists.mp (full i (le_refl i) (by omega))
    have rest := ih (i + 1) fun j low high => full j (by omega) (by omega)
    rw [TestUnit.skipRecords, List.range'_succ, List.filterMap_cons, entry]
    exact congrArg (i :: ·) rest

/-! ## The current step closed -/

theorem drainIfEmpty_queue (x : Tenant) (s : State) : ((drainIfEmpty x s).tenant x).queue = (s.tenant x).queue := by
  obtain ⟨q, e⟩ := drainIfEmpty_eq x s
  rw [e]
  change ((s.withTenant x (s.tenant x).drained).tenant x).queue = _
  rw [State.withTenant_same, TenantUnit.drained]
  split <;> rfl

/-- The end of a TENANT_PATH step in ACTIVE takes its unstarted entries from the tenant's queue and counts them (R159). -/
theorem removeStepEntries_active {w : Working} {x : Tenant} {pattern packets length errorLimit missLimit : Nat}
    (body : w.step.body = .tenantPath x pattern packets length errorLimit missLimit) (active : w.phase = .active)
    (s : State) :
    ((removeStepEntries w s).tenant x).queue =
      (s.tenant x).queue.filter (fun e => !e.unstartedOf s.test.runId w.index) ∧
    (removeStepEntries w s).test.counters.entriesRemoved = addCount s.test.counters.entriesRemoved
      ((s.tenant x).queue.length - ((removeStepEntries w s).tenant x).queue.length) := by
  have queue : ((removeStepEntries w s).tenant x).queue =
      (s.tenant x).queue.filter (fun e => !e.unstartedOf s.test.runId w.index) := by
    simp only [removeStepEntries, body, active, drainIfEmpty_queue]
    change ((s.withTenant x _).tenant x).queue = _
    rw [State.withTenant_same, TenantUnit.removeTest, judgePause_queue]
  refine ⟨queue, ?_⟩
  rw [queue]
  simp only [removeStepEntries, body, active, drainIfEmpty_test]
  rfl

theorem closeStep_active {w : Working} {x : Tenant} {pattern packets length errorLimit missLimit : Nat}
    (body : w.step.body = .tenantPath x pattern packets length errorLimit missLimit) (active : w.phase = .active)
    (v : Verdict) (r : EndReason) (s : State) :
    ((closeStep w v r s).tenant x).queue =
      (s.tenant x).queue.filter (fun e => !e.unstartedOf s.test.runId w.index) ∧
    (closeStep w v r s).test.counters.entriesRemoved = addCount s.test.counters.entriesRemoved
      ((s.tenant x).queue.length - ((closeStep w v r s).tenant x).queue.length) := by
  have unforced : ¬ w.step.body.forces.isSome = true := by rw [body]; exact nofun
  unfold closeStep
  rw [if_neg unforced]
  dsimp only
  rw [(raiseTest_onlyNotices _ _).tenant, (raiseTest_onlyNotices _ _).test]
  exact removeStepEntries_active body active s

/-- The end of a step logs its record, counts the entries it removed, and leaves the rest of the Test Controller (R155). -/
theorem closeStep_test (w : Working) (v : Verdict) (r : EndReason) (s : State) : (closeStep w v r s).test =
    { s.test with
      work := none, results := s.test.results ++ [w.record v r],
      counters := { s.test.counters with
        entriesRemoved := (closeStep w v r s).test.counters.entriesRemoved } } := by
  obtain ⟨results, work, -, run, acceptance⟩ := closeStep_log w v r s
  have tables := (closeStep_runFrame w v r s).tables
  rwa [RunTables, results, work, run, acceptance] at tables

theorem closeStep_ladder (w : Working) (v : Verdict) (r : EndReason) (s : State) : (closeStep w v r s).ladder =
    { s.ladder with forced := if w.step.body.forces.isSome = true then none else s.ladder.forced } := by
  rw [(closeStep_stepFrame w v r s).ladder, closeStep_forced]

/-! ## A run aborted (R165) -/

theorem finishRun_aborted (s : State) :
    (finishRun true s).test = { s.test with runState := .done, work := none } := by
  rw [finishRun_test]
  simp

section
variable {s : State} {w : Working} (reason : EndReason) (work : s.test.work = some w)
include work

theorem abortRun_working :
    abortRun reason s = finishRun true (skipRest (w.index + 1) .runAborted (closeStep w .aborted reason s)) := by
  simp only [abortRun, work]

theorem abortRun_tenant (x : Tenant) : (abortRun reason s).tenant x = (closeStep w .aborted reason s).tenant x := by
  rw [abortRun_working reason work]
  exact (raiseTest_onlyNotices _ _).tenant x

theorem abortRun_ladder : (abortRun reason s).ladder = (closeStep w .aborted reason s).ladder := by
  rw [abortRun_working reason work]
  exact (raiseTest_onlyNotices _ _).ladder

/-- The run is DONE, its step and every later one are in the log, and its acceptance record is as it was (R165). -/
theorem abortRun_test : (abortRun reason s).test =
    { s.test with
      runState := .done, work := none,
      results := s.test.results ++
        w.record .aborted reason :: s.test.skipRecords .runAborted (s.test.count - (w.index + 1)) (w.index + 1),
      counters := { s.test.counters with
        entriesRemoved := (closeStep w .aborted reason s).test.counters.entriesRemoved } } := by
  have log := List.append_assoc s.test.results [w.record .aborted reason]
    (s.test.skipRecords .runAborted (s.test.count - (w.index + 1)) (w.index + 1))
  rw [abortRun_working reason work, finishRun_aborted, skipRest_test, skipRest_results, closeStep_test]
  exact congrArg (fun l => ({ s.test with
    runState := .done, work := none, results := l,
    counters := { s.test.counters with
      entriesRemoved := (closeStep w .aborted reason s).test.counters.entriesRemoved } } : TestUnit)) log

end

/-! ## ACCEPT_WAIVE (R167) -/

/-- The content of a TEST notice (R155). -/
def State.testNotice (s : State) (c : TestCause) : TestNotice :=
  { cause := c, runId := s.test.runId, runState := s.test.runState,
    last := s.test.results.getLast?.map fun r => (r.index, r.kind, r.verdict, r.reason),
    records := s.test.results.length, acceptance := s.test.acceptance }

theorem raiseTest_serving (s : State) (kind tag : Byte) (c : TestCause) :
    (s.serving kind tag).raiseTest c = (s.holding .test (.test (s.testNotice c))).serving kind tag :=
  raise_serving s kind tag _ _

/-- Settles O41: the abort closes the step and logs the later ones, and the waiver is the record and its notice. -/
theorem abortAndWaive : Obligations.AbortAndWaive := by
  intro s tag free
  refine ⟨fun idle => ?_, fun w run work => ?_, fun flagged => ?_, fun unflagged => ?_⟩
  · exact congrArg Host.Outcome.next (requestFrame_read tag .testAbort s _ _ free fun k => if_neg idle)
  · let u := s.serving (BitVec.ofNat 8 18) tag
    have test := abortRun_test (s := u) .abortRequest work
    have frame := abortRun_stepFrame .abortRequest u
    have units := (abortRun_runFrame .abortRequest u).units
    refine ⟨abortRun .abortRequest u, s.test.skipRecords .runAborted (s.test.count - (w.index + 1)) (w.index + 1),
      congrArg Host.Outcome.next (requestFrame_ends tag .testAbort s _ _ _ free (if_pos run)), ?_, ?_, ?_, ?_,
      fun x m => skipRecords_skipped m, fun full => ?_, ?_, fun x pattern packets length errorLimit missLimit body active => ?_,
      frame.role, frame.link, frame.planner, frame.timing, frame.store, frame.pending,
      fun x => ⟨(units x).egress, (units x).record⟩⟩
    · rw [test]
    · rw [test]
    · rw [test]; rfl
    · rw [test]; rfl
    · rw [skipRecords_index _ _ _ fun j _ high => full j (by omega), List.range_eq_range', List.drop_range',
        Nat.mul_one, Nat.zero_add]
    · exact (abortRun_ladder (s := u) _ work).trans (closeStep_ladder w _ _ u)
    · rw [abortRun_tenant (s := u) _ work, test]
      exact closeStep_active body active _ _ u
  · exact congrArg Host.Outcome.next (requestFrame_read tag .acceptWaive s _ _ free fun k => if_pos flagged)
  · let waived := s.withTest { s.test with acceptance := .waived }
    refine ⟨waived.holding .test (.test (waived.testNotice .waived)), ?_, rfl, waived.testNotice .waived, _,
      congrArg some (PendingNotice.raised_eq _ _), rfl, rfl⟩
    refine congrArg Host.Outcome.next (requestFrame_done tag .acceptWaive s _ _ _ free fun k => ?_)
    have noticed := raiseTest_serving waived k tag .waived
    refine (if_neg unflagged).trans ?_
    rw [← noticed]
    rfl

end Sys2Proof.Machine
end

section
/-! PROOF. Every step keeps the invariant of the Management Port (R170, R172 to R174). -/

namespace Sys2Proof.Machine

/-! ## A port in order -/

/-- What `State.portInv` says of the frames to come, without the notices: at most two requests wait, none that could be
taken, and no reply and no reset waits for a free line (R170, R172, R174). -/
def Port.orderly (p : Port) : Prop :=
  p.buffer.length ≤ 2 ∧ (p.reply = none → p.resetPending = none → p.buffer = []) ∧
  (p.line = none → p.reply = none ∧ p.resetPending = none)

theorem portInv_orderly {s : State} (h : s.portInv) : s.port.orderly := by
  obtain ⟨few, taken, free⟩ := h
  exact ⟨few, taken, fun line => ⟨(free line).1, (free line).2.1⟩⟩

theorem portInv_of_orderly {s : State} (h : s.port.orderly) (k : s.port.settled) : s.portInv := by
  obtain ⟨few, taken, free⟩ := h
  refine ⟨few, taken, fun line => ?_⟩
  obtain ⟨reply, reset⟩ := free line
  exact ⟨reply, reset, k (by simp [Port.freeForNotice, line, reply])⟩

/-- Notices take a line that was free, and leave everything else of the order alone (R172, R173). -/
theorem PortNoticed.orderly {p q : Port} (h : PortNoticed p q) (k : p.orderly) : q.orderly := by
  obtain ⟨few, taken, free⟩ := k
  have line (e : q.line = none) : p.line = none := by
    cases busy : p.freeForNotice with
    | false => exact (h.held busy).symm.trans e
    | true => simpa using (Bool.and_eq_true_iff.mp busy).1
  rw [h.eq]
  exact ⟨few, taken, fun e => free (line e)⟩

/-- Only the receiver and the line counters differ. -/
theorem orderly_of_receiver {p q : Port} (h : q = { p with rx := q.rx, counters := q.counters }) (k : p.orderly) :
    q.orderly := by rw [h]; exact k

/-- After the choice on a free line an orderly port meets the invariant. -/
theorem announce_portInv {s : State} (h : s.port.orderly) : (announce s).portInv :=
  portInv_of_orderly ((announce_onlyNotices s).port.orderly h) (announce_settled s)

/-! ## Requests taken (R170) -/

/-- A request completed: its reply waits, what waits behind it stays, and so does the line. -/
theorem completeRequest_port (b : Buffered) (s : State) :
    (completeRequest b s).port.buffer = s.port.buffer ∧ (completeRequest b s).port.reply.isSome = true ∧
    (completeRequest b s).port.line = s.port.line := by
  have kept := answer_portKept b.what (s.serving b.kind b.tag)
  exact ⟨kept.buffer, rfl, kept.line (Port.reserve_busy _ _ _)⟩

/-- No frame can be taken, or the oldest is. -/
theorem takeRequest_cases (s : State) :
    (takeRequest s = s ∧ (s.port.reply = none → s.port.resetPending = none → s.port.buffer = [])) ∨
    ∃ b rest, s.port.reply = none ∧ s.port.resetPending = none ∧ s.port.buffer = b :: rest ∧
      (takeRequest s).port.buffer = rest ∧ (takeRequest s).port.reply.isSome = true ∧
      (takeRequest s).port.line = s.port.line := by
  unfold takeRequest
  split
  · next ready =>
    obtain ⟨reply, reset⟩ : s.port.reply = none ∧ s.port.resetPending = none := by simpa using ready
    split
    · next e => exact .inl ⟨rfl, fun _ _ => e⟩
    · next b rest e => exact .inr ⟨b, rest, reply, reset, e, completeRequest_port b _⟩
  · next waits => exact .inl ⟨rfl, fun reply reset => absurd (by simp [reply, reset]) waits⟩

/-- A port at which the requests that can be taken are about to be: at most one can, and no reset waits for a free
line. -/
def Port.servable (p : Port) : Prop :=
  p.buffer.length ≤ 2 ∧ (p.reply = none → p.resetPending = none → p.buffer.length ≤ 1) ∧
  (p.line = none → p.reply = none → p.resetPending = none)

/-- The first of the two takings leaves nothing that could be taken. -/
theorem takeRequest_servable {s : State} (h : s.port.servable) :
    (takeRequest s).port.servable ∧
    ((takeRequest s).port.reply = none → (takeRequest s).port.resetPending = none → (takeRequest s).port.buffer = []) := by
  obtain ⟨few, one, free⟩ := h
  rcases takeRequest_cases s with ⟨same, none'⟩ | ⟨b, rest, reply, reset, queued, buffer, replied, line⟩
  · rw [same]
    exact ⟨⟨few, one, free⟩, none'⟩
  · have last : rest = [] := by
      have := one reply reset
      rw [queued] at this
      exact List.length_eq_zero_iff.mp (by simpa using this)
    have waits : (takeRequest s).port.reply ≠ none := fun e => by simp [e] at replied
    rw [Port.servable, buffer, last]
    exact ⟨⟨by decide, fun _ _ => by decide, fun _ e => absurd e waits⟩, fun _ _ => rfl⟩

/-- On a port with nothing in waiting for a free line, the second taking leaves it orderly. -/
theorem takeRequest_orderly {s : State} (few : s.port.buffer.length ≤ 2)
    (free : s.port.line = none → s.port.reply = none ∧ s.port.resetPending = none ∧ s.port.buffer = []) :
    (takeRequest s).port.orderly := by
  rcases takeRequest_cases s with ⟨same, none'⟩ | ⟨b, rest, reply, reset, queued, buffer, replied, line⟩
  · rw [same]
    exact ⟨few, none', fun e => ⟨(free e).1, (free e).2.1⟩⟩
  · have waits : (takeRequest s).port.reply ≠ none := fun e => by simp [e] at replied
    rw [queued, List.length_cons] at few
    refine ⟨by rw [buffer]; omega, fun e => absurd e waits, fun e => ?_⟩
    rw [line] at e
    exact absurd ((free e).2.2) (by simp [queued])

/-- A waiting reply is taken by a free line, and nothing else waits for one (R172). -/
theorem beginReply_free {p : Port} (h : p.servable) (none' : p.reply = none → p.resetPending = none → p.buffer = []) :
    p.beginReply.buffer = p.buffer ∧ (p.beginReply.line = none →
      p.beginReply.reply = none ∧ p.beginReply.resetPending = none ∧ p.beginReply.buffer = []) := by
  obtain ⟨-, -, free⟩ := h
  unfold Port.beginReply
  split
  · exact ⟨rfl, nofun⟩
  · next waits =>
    refine ⟨rfl, fun line => ?_⟩
    have reply : p.reply = none := Option.eq_none_iff_forall_ne_some.mpr fun r e => waits r line e
    have reset := free line reply
    exact ⟨reply, reset, none' reply reset⟩

theorem serve_orderly {s : State} (h : s.port.servable) : (serve s).port.orderly := by
  obtain ⟨servable, none'⟩ := takeRequest_servable h
  obtain ⟨buffer, free⟩ := beginReply_free servable none'
  exact takeRequest_orderly (buffer ▸ servable.1) free

/-! ## The management line -/

theorem offer_servable {p : Port} (h : p.orderly) (b : Buffered) : (p.offer b).servable := by
  obtain ⟨few, taken, free⟩ := h
  unfold Port.offer
  split
  · next room =>
    refine ⟨by simpa using Nat.succ_le_of_lt room, fun reply reset => ?_, fun line _ => (free line).2⟩
    simp [taken reply reset]
  · refine ⟨few, fun reply reset => ?_, fun line _ => (free line).2⟩
    simp [taken reply reset]

theorem offerFrame_orderly (b : Buffered) {s : State} (h : s.port.orderly) : (offerFrame b s).port.orderly :=
  serve_orderly (s := s.withPort (s.port.offer b)) (offer_servable h b)

/-- A byte at the receiver changes the receiver and the line counters (R169). -/
theorem rxByte_receiver (p : Port) (b : Byte) :
    (p.rxByte b).1 = { p with rx := (p.rxByte b).1.rx, counters := (p.rxByte b).1.counters } := by
  unfold Port.rxByte Port.collect
  repeat' split
  all_goals rfl

theorem receiveByte_orderly (b : Byte) {s : State} (h : s.port.orderly) : (receiveByte s b).port.orderly := by
  have received := orderly_of_receiver (rxByte_receiver s.port b) h
  unfold receiveByte
  dsimp only
  split
  · exact received
  · exact offerFrame_orderly (s := s.withPort (s.port.rxByte b).1) _ received

theorem receiveBytes_orderly (bytes : List Byte) : ∀ {s : State}, s.port.orderly → (bytes.foldl receiveByte s).port.orderly := by
  induction bytes with
  | nil => exact id
  | cons b rest ih => exact fun h => ih (receiveByte_orderly b h)

theorem gap_orderly {p : Port} (h : p.orderly) : p.gap.orderly := by
  unfold Port.gap
  split <;> exact h

theorem lineEnds_orderly {s : State} (h : s.port.orderly) (due : s.port.resetDue = none) : (lineEnds s).port.orderly := by
  unfold lineEnds
  split
  · obtain ⟨few, taken, -⟩ := h
    refine serve_orderly (s := s.withPort { s.port with line := none }) ⟨few, fun reply reset => ?_, fun _ reply => ?_⟩
    · rw [State.withPort_port, taken reply reset]
      exact Nat.zero_le 1
    · have reply : s.port.reply = none := reply
      simpa [Port.resetDue, reply] using due
  · exact h

/-! ## Resets -/

theorem booted_orderly (p : Port) (c : ResetCause) (n : BootNotice) : (p.booted c n).orderly :=
  ⟨Nat.zero_le 2, fun _ _ => rfl, nofun⟩

theorem commandReset_orderly (o : ResetOption) (s : State) : (commandReset o s).port.orderly := by
  cases o with
  | full => exact booted_orderly _ _ _
  | warm => exact (warmReset_port s).orderly (booted_orderly _ _ _)

theorem commandResetOf_orderly (o : ResetOption) {s : State} (h : s.port.orderly) :
    (commandResetOf o s).port.orderly := by
  unfold commandResetOf
  split
  · exact commandReset_orderly o s
  · exact h

theorem outgoingEnds_orderly {s : State} (h : s.port.orderly) : (outgoingEnds s).port.orderly := by
  unfold outgoingEnds
  split
  · exact commandReset_orderly _ s
  · next due => exact lineEnds_orderly h due

/-! ## Events that raise notices at most -/

theorem boundaryEvent_port (s : State) : PortNoticed s.port (boundaryEvent s).port := by
  unfold boundaryEvent
  split
  · exact (secondEvent_eventFrame s).port
  · exact frameStart_port s

/-- The passing of local time raises notices at most (R172). -/
theorem passTime_port (dt : Nat) (s : State) : PortNoticed s.port (passTime dt s).port := by
  have passes (n : Nat) : ∀ dt s, PortNoticed s.port (passOver n dt s).port := by
    induction n with
    | zero => exact fun _ s => .refl s.port
    | succ n ih =>
      intro dt s
      rw [passOver_succ]
      split
      · exact (boundaryEvent_port s).trans (ih _ _)
      · exact .refl s.port
  exact passes _ dt s

theorem arriveAt_port (x : Tenant) (bad : Bool) (b : List Byte) (s : State) :
    PortNoticed s.port (arriveAt x bad b s).port := by
  unfold arriveAt
  dsimp only
  split
  · exact .refl s.port
  · exact PortNoticed.trans (q := (s.withTenant x _).port) (.refl _) (inject_stepFrame x _).port

theorem removeStale_port (x : Tenant) (s : State) : PortNoticed s.port (removeStale x s).port := by
  unfold removeStale
  repeat' split
  · exact .refl s.port
  · exact .refl s.port
  · exact PortNoticed.trans (q := (s.withTenant x _).port) (.refl _)
      ((countPathEntries_stepFrame _ _ _).trans (drainIfEmpty_stepFrame _ _)).port

theorem syncDueNow_port (s : State) : (syncDueNow s).port = s.port := by
  unfold syncDueNow
  split <;> rfl

theorem timeoutsNow_port (s : State) : (timeoutsNow s).port = s.port := by
  unfold timeoutsNow
  split <;> rfl

theorem storeEnds_port (s : State) : PortNoticed s.port (storeEnds s).port := by
  unfold storeEnds
  repeat' split
  · refine PortNoticed.trans ?_ (raiseStore_onlyNotices _ _ _).port
    exact .refl s.port
  · exact .refl s.port
  · exact .refl s.port

/-! ## Every command -/

/-- What a command answers is a state that `announce` has been applied to. -/
theorem portInv_of_next {t u : State}
    (h : (Host.Outcome.next (announce u) : Host.Outcome State Fault Refusal) = .next t) (k : u.port.orderly) :
    t.portInv := by
  injection h with h
  exact h ▸ announce_portInv k

/-- Every command leaves an orderly port orderly, with no notice waiting for a free line. -/
theorem exec_portInv (c : Instr) (s t : State) (k : s.port.orderly) (h : exec c s = .next t) : t.portInv := by
  cases c
  case powerReset => exact portInv_of_next h (booted_orderly _ _ _)
  case pinReset => exact portInv_of_next h (booted_orderly _ _ _)
  case commandFullReset => exact portInv_of_next h (commandResetOf_orderly _ k)
  case commandWarmReset => exact portInv_of_next h (commandResetOf_orderly _ k)
  case frameStart => exact portInv_of_next h ((frameStart_port s).orderly k)
  case receivedFrameRecord r =>
    refine portInv_of_next h ?_
    split
    · exact k
    · exact ((settle_eventFrame s).trans (takeFrame_eventFrame r _)).port.orderly k
  case receiveMarkerCapture n => exact portInv_of_next h ((passTime_port n s).orderly k)
  case absentFrame => exact portInv_of_next h ((absentDue_eventFrame s).port.orderly k)
  case tenantPacketArrival x bad b => exact portInv_of_next h ((arriveAt_port x bad b s).orderly k)
  case holdInput x a => exact portInv_of_next h k
  case deliveryEnd x => exact portInv_of_next h k
  case secondBoundary =>
    exact portInv_of_next h (((passTime_port _ s).trans (secondEvent_eventFrame _).port).orderly k)
  case pulse i n =>
    have taken (u : State) : PortNoticed u.port (takePulse i (settle u)).port :=
      ((settle_eventFrame u).trans (takePulse_eventFrame i _)).port
    exact portInv_of_next h (((passTime_port n s).trans (taken _)).orderly k)
  case absenceExpiry i =>
    exact portInv_of_next h (((passTime_port _ s).trans (absenceNow_eventFrame i _).port).orderly k)
  case staleRemoval x => exact portInv_of_next h ((removeStale_port x s).orderly k)
  case syncDue => exact portInv_of_next h ((syncDueNow_port s).symm ▸ k)
  case exchangeTimeout => exact portInv_of_next h ((timeoutsNow_port s).symm ▸ k)
  case linkSupervisionExpiry => exact portInv_of_next h ((supervisionDue_eventFrame s).port.orderly k)
  case holdoverLimit => exact portInv_of_next h ((limitDue_eventFrame s).port.orderly k)
  case holdoverAging => exact portInv_of_next h ((agingDue_eventFrame s).port.orderly k)
  case leadEnd => exact portInv_of_next h ((leadOver_stepFrame s).port.orderly k)
  case activeEnd => exact portInv_of_next h ((activeOver_stepFrame s).port.orderly k)
  case tailEnd => exact portInv_of_next h ((tailOver_stepFrame s).port.orderly k)
  case reportWaitExpiry => exact portInv_of_next h ((reportWaitOver_stepFrame s).port.orderly k)
  case waitTimeout => exact portInv_of_next h ((waitOver_stepFrame s).port.orderly k)
  case timingCrossTimeout => exact portInv_of_next h ((crossOver_stepFrame s).port.orderly k)
  case managementFrame b => exact portInv_of_next h (receiveBytes_orderly b k)
  case gapExpiry => exact portInv_of_next h (gap_orderly k)
  case outgoingFrameEnd => exact portInv_of_next h (outgoingEnds_orderly k)
  case erasingEnd => exact portInv_of_next h k
  case storeOperationEnd => exact portInv_of_next h ((storeEnds_port s).orderly k)
  case unknownKind tag kind => exact portInv_of_next h (offerFrame_orderly _ k)
  case strayByte b => exact portInv_of_next h (receiveByte_orderly b k)
  all_goals exact portInv_of_next h (offerFrame_orderly _ k)

/-- Settles O58: the oldest waiting command leaves the queue and is executed, and every command keeps the order of the
port. -/
theorem everyStepKeepsThePort : Obligations.EveryStepKeepsThePort := by
  intro s t h next
  unfold step at next
  split at next
  · injection next with next
    exact next ▸ h
  · next c rest _ => exact exec_portInv c (s.withPending rest) t (portInv_orderly h) next

end Sys2Proof.Machine
end

section
/-! PROOF. POWER, PIN and COMMAND-FULL with a valid boot slot (R176). -/

namespace Sys2Proof.Machine

/-- A mark that names a valid slot applies it (R176). -/
theorem bootSlot_some {st : Store} {i : Nat} (mark : st.bootMark = some i) (valid : (st.plan.at i).valid = true) :
    st.bootSlot = some i := by
  rw [Store.bootSlot, mark, Option.filter_some, if_pos valid]

/-- Then no slot is reported as invalid. -/
theorem invalidBoot_none {st : Store} {i : Nat} (mark : st.bootMark = some i) (valid : (st.plan.at i).valid = true) :
    st.invalidBoot = none := by
  rw [Store.invalidBoot, mark, Option.filter_some, if_neg (by simp [valid])]

theorem startSettings_slot {st : Store} {i : Nat} (h : st.bootSlot = some i) :
    st.startSettings = (st.plan.at i).settings := by
  rw [Store.startSettings, h]

/-- Settles O3: with the slot's settings, every block of `fullReset` is at its start-up value. -/
theorem fullResetAppliesBootSlot : Obligations.FullResetAppliesBootSlot := by
  intro s c cause i row answered mark valid
  have slot := bootSlot_some mark valid
  have settings := startSettings_slot slot
  refine ⟨fullReset cause s, exec_fullReset s c cause row answered, ?_⟩
  rw [← settings]
  have unit (x : Tenant) : (fullReset cause s).tenant x =
      .initial (s.store.startSettings.tenants.get x) .pending (s.tenant x).hold := by
    refine (Quad.get_ofFn _ x).trans ?_
    rw [TenantUnit.startUp, slot]
    rfl
  refine ⟨rfl, rfl, rfl, rfl, rfl, rfl, rfl, rfl, rfl, fun x => ?_, rfl, rfl, rfl, ?_⟩
  · rw [unit]
    exact ⟨rfl, rfl, rfl, rfl, rfl⟩
  · rw [← slot, ← invalidBoot_none mark valid]
    rfl

end Sys2Proof.Machine
end

section
/-! PROOF. Requests buffered (R170), and GET_ID, SET_ROLE and RESET (R174, R175). -/

namespace Sys2Proof.Machine

/-! ## Requests buffered -/

/-- A command that is a request frame of a listed kind is the completion of that frame at the receiver. -/
theorem exec_request {c : Instr} {tag : Byte} {r : Request} (s : State) (h : c.request? = some (tag, r)) :
    exec c s = .next (requestFrame tag r s) := by
  cases c
  all_goals
    cases h
    try rfl

/-- No request is taken while a reply waits, or once a RESET has been answered OK (R170, R174). -/
theorem takeRequest_held {s : State} (h : s.port.reply.isSome = true ∨ s.port.resetPending.isSome = true) :
    takeRequest s = s := by
  rcases takeRequest_cases s with ⟨same, -⟩ | ⟨b, rest, reply, reset, -⟩
  · exact same
  · rcases h with h | h
    · rw [reply] at h; cases h
    · rw [reset] at h; cases h

/-- On a busy line a reply in waiting stays there (R172). -/
theorem beginReply_busy {p : Port} (h : p.line ≠ none) : p.beginReply = p := by
  unfold Port.beginReply
  split
  · next line _ => exact absurd line h
  · rfl

/-- A complete frame that cannot be taken, on a busy line: it waits in the buffer, or is discarded (R170). -/
theorem offerFrame_held (b : Buffered) {s : State} (line : s.port.line ≠ none)
    (h : s.port.reply.isSome = true ∨ s.port.resetPending.isSome = true) :
    announce (offerFrame b s) = s.withPort (s.port.offer b) := by
  have kept : (s.port.offer b).reply = s.port.reply ∧ (s.port.offer b).resetPending = s.port.resetPending ∧
      (s.port.offer b).line = s.port.line := by
    unfold Port.offer
    split <;> exact ⟨rfl, rfl, rfl⟩
  obtain ⟨reply, reset, busy⟩ := kept
  have held : takeRequest (s.withPort (s.port.offer b)) = s.withPort (s.port.offer b) :=
    takeRequest_held (by rwa [State.withPort_port, reply, reset])
  have waits : (s.port.offer b).beginReply = s.port.offer b := beginReply_busy (busy ▸ line)
  rw [offerFrame, serve, held, State.withPort_port, State.withPort_twice, waits, held]
  exact announce_busy _ (by simp [Port.freeForNotice, busy, line])

/-- Settles O46: a request that cannot be taken is offered to the buffer and no more. -/
theorem requestsWaitInArrivalOrder : Obligations.RequestsWaitInArrivalOrder := by
  refine fun s => ⟨fun c tag r f request line held => ?_, fun tag kind free => ?_⟩
  · rw [exec_request s request]
    exact congrArg Host.Outcome.next (offerFrame_held _ (by rw [line]; exact Option.some_ne_none f) held)
  · exact congrArg Host.Outcome.next (unknownKind_free tag kind s free)

/-! ## GET_ID, SET_ROLE and RESET -/

/-- GET_ID at a port where no request and no reply waits (R175). -/
theorem getId_free (tag : Byte) {s : State} (free : s.requestFree) : requestFrame tag .getId s =
    s.replied 1 tag .ok (.identity "SATHELON UGMIRA TS46" 1 s.port.lastCause) :=
  requestFrame_read tag .getId s _ _ free fun _ => rfl

/-- RESET at such a port only marks the reset to come (R174). -/
theorem reset_free (tag : Byte) (o : ResetOption) {s : State} (free : s.requestFree) :
    requestFrame tag (.reset (some o)) s =
      (s.withPort { s.port with resetPending := some o }).replied 3 tag .ok .empty :=
  requestFrame_done tag (.reset (some o)) s _ _ _ free fun _ => rfl

/-- SET_ROLE with a role in force is refused, whatever the value (R175). -/
theorem doSetRole_again {s : State} {r : Role} (role : s.role = some r) (v : Option Role) :
    doSetRole v s = (s, .onceOnly, .role (some r)) := by
  simp only [doSetRole, role]

theorem doSetRole_first {s : State} (role : s.role = none) (r : Role) :
    doSetRole (some r) s = (s.startRole r, .ok, .role (some r)) := by
  rw [doSetRole, role]

theorem doSetRole_bad {s : State} (role : s.role = none) : doSetRole none s = (s, .badValue, .empty) := by
  rw [doSetRole, role]

/-- An offer appends to the buffer or counts, and changes nothing else (R170). -/
theorem offer_eq (p : Port) (b : Buffered) :
    p.offer b = { p with buffer := (p.offer b).buffer, counters := (p.offer b).counters } ∧
    (p.offer b).buffer.take p.buffer.length = p.buffer := by
  unfold Port.offer
  split
  · exact ⟨rfl, by simp⟩
  · exact ⟨rfl, by simp⟩

/-- Settles O48. -/
theorem identityRoleAndReset : Obligations.IdentityRoleAndReset := by
  intro s tag free
  refine ⟨congrArg Host.Outcome.next (getId_free tag free), fun r v role => congrArg Host.Outcome.next ?_,
    fun role => congrArg Host.Outcome.next ?_, fun r role => ⟨s.startRole r, congrArg Host.Outcome.next ?_, rfl⟩,
    congrArg Host.Outcome.next (reset_free tag .full free), congrArg Host.Outcome.next (reset_free tag .warm free),
    fun u c other r f o request line answered => ?_⟩
  · exact requestFrame_read tag (.setRole v) s _ _ free fun k => doSetRole_again (s := s.serving k tag) role v
  · exact requestFrame_read tag (.setRole none) s _ _ free fun k => doSetRole_bad (s := s.serving k tag) role
  · exact requestFrame_done tag (.setRole (some r)) s _ _ _ free fun k => doSetRole_first (s := s.serving k tag) role r
  · obtain ⟨offered, before⟩ := offer_eq u.port { kind := BitVec.ofNat 8 r.kind, tag := other, what := .request r }
    refine ⟨u.withPort (u.port.offer _), ?_, congrArg u.withPort offered, before⟩
    rw [exec_request u request]
    exact congrArg Host.Outcome.next
      (offerFrame_held _ (by rw [line]; exact Option.some_ne_none f) (.inr (by rw [answered]; rfl)))

end Sys2Proof.Machine
end

section
/-! PROOF. The store requests and the ends of the store operations (R177 to R180). -/

namespace Sys2Proof.Machine

/-! ## The store requests -/

section
variable {s : State}

theorem doStoreSave_ready {i : Nat} (low : i ≤ 3) (ready : s.store.op = none) :
    doStoreSave i s = takeOp (.save i s.settings) s := by
  rw [doStoreSave, if_neg (Nat.not_lt.mpr low), ready]
  rfl

theorem doStoreErase_ready {i : Nat} (low : i ≤ 3) (ready : s.store.op = none) :
    doStoreErase i s = takeOp (.erase i) s := by
  rw [doStoreErase, if_neg (Nat.not_lt.mpr low), ready]
  rfl

/-- STORE_BOOT of a slot goes by its validity (R178). -/
theorem doStoreBoot_ready {i : Nat} (low : i ≤ 3) (ready : s.store.op = none) : doStoreBoot (some i) s =
    if (s.store.plan.at i).valid then takeOp (.boot (some i)) s else (s, .storeFault, .empty) := by
  rw [doStoreBoot, if_neg (show ¬ 3 < (some i).getD 0 from Nat.not_lt.mpr low), ready]
  rfl

theorem doStoreBoot_none (ready : s.store.op = none) : doStoreBoot none s = takeOp (.boot none) s := by
  rw [doStoreBoot, ready]
  rfl

/-- STORE_CAL goes by the locked hour (R179). -/
theorem doStoreCal_ready {a : Int} (low : a.natAbs ≤ 100000) (ready : s.store.op = none) : doStoreCal a s =
    if s.timing.servo.state = .locked ∧ 3600 ≤ s.timing.servo.lockedTime then takeOp (.cal s.timing.servo.fHold a) s
    else (s, .wrongState, .lockedTime s.timing.servo.state s.timing.servo.lockedTime) := by
  rw [doStoreCal, if_neg (show ¬ Config.agingBound < a.natAbs from Nat.not_lt.mpr low), ready]
  rfl

/-! Every store request in range is refused while an operation is in flight (R177). -/

variable (busy : s.store.op.isSome = true)
include busy

theorem doStoreSave_busy {i : Nat} (low : i ≤ 3) : doStoreSave i s = (s, .busy, .empty) := by
  rw [doStoreSave, if_neg (Nat.not_lt.mpr low), if_pos busy]

theorem doStoreErase_busy {i : Nat} (low : i ≤ 3) : doStoreErase i s = (s, .busy, .empty) := by
  rw [doStoreErase, if_neg (Nat.not_lt.mpr low), if_pos busy]

theorem doStoreBoot_busy {slot : Option Nat} (low : slot.getD 0 ≤ 3) : doStoreBoot slot s = (s, .busy, .empty) := by
  simp only [doStoreBoot, if_neg (Nat.not_lt.mpr low), if_pos busy]

theorem doStoreCal_busy {a : Int} (low : a.natAbs ≤ 100000) : doStoreCal a s = (s, .busy, .empty) := by
  rw [doStoreCal, if_neg (show ¬ Config.agingBound < a.natAbs from Nat.not_lt.mpr low), if_pos busy]

end

/-- A store request taken at once begins its operation and changes the store alone (R178). -/
theorem storeRequest_taken (tag : Byte) (r : Request) {s : State} (k : StoreOpKind) (free : s.requestFree)
    (taken : ∀ kind, perform r (s.serving kind tag) = takeOp k (s.serving kind tag)) :
    requestFrame tag r s = (s.withStore (s.store.take k s.timing.base.advance)).replied r.kind tag .ok .empty :=
  requestFrame_done tag r s _ _ _ free fun kind => taken kind

/-- Settles O49: each request is decided by its range, the store's state and its own condition, in that order. -/
theorem storeRequestsBeginOperations : Obligations.StoreRequestsBeginOperations := by
  intro s tag free op
  have refused (r : Request) {st : Status} {body : ReplyBody}
      (e : ∀ kind, perform r (s.serving kind tag) = (s.serving kind tag, st, body)) :
      Host.Outcome.next (requestFrame tag r s) = (.next (s.replied r.kind tag st body) : Host.Outcome State Fault Refusal) :=
    congrArg Host.Outcome.next (requestFrame_read tag r s _ _ free e)
  have taken (r : Request) (k : StoreOpKind) (e : ∀ kind, perform r (s.serving kind tag) = takeOp k (s.serving kind tag)) :
      Host.Outcome.next (requestFrame tag r s) = (.next ((s.withStore (s.store.take k s.timing.base.advance)).replied
        r.kind tag .ok .empty) : Host.Outcome State Fault Refusal) :=
    congrArg Host.Outcome.next (storeRequest_taken tag r k free e)
  refine ⟨fun i high => ⟨refused (.storeSave i) fun _ => if_pos high, refused (.storeErase i) fun _ => if_pos high,
      refused (.storeBoot (some i)) fun _ => if_pos high⟩,
    fun a high => refused (.storeCal a) fun _ => if_pos high, fun i a busy low small => ?_, fun ready => ⟨fun i low => ?_, ?_,
      fun a small => ⟨fun locked hour => ?_, fun early => ?_⟩⟩⟩
  · exact ⟨refused (.storeSave i) fun kind => doStoreSave_busy (s := s.serving kind tag) busy low,
      refused (.storeErase i) fun kind => doStoreErase_busy (s := s.serving kind tag) busy low,
      refused (.storeBoot (some i)) fun kind => doStoreBoot_busy (s := s.serving kind tag) (slot := some i) busy low,
      refused (.storeBoot none) fun kind => doStoreBoot_busy (s := s.serving kind tag) (slot := none) busy (Nat.zero_le 3),
      refused (.storeCal a) fun kind => doStoreCal_busy (s := s.serving kind tag) busy small⟩
  · have boot (kind : Byte) := doStoreBoot_ready (s := s.serving kind tag) low ready
    exact ⟨taken (.storeSave i) (.save i s.settings) fun kind => doStoreSave_ready (s := s.serving kind tag) low ready,
      taken (.storeErase i) (.erase i) fun kind => doStoreErase_ready (s := s.serving kind tag) low ready,
      fun invalid => refused (.storeBoot (some i)) fun kind => (boot kind).trans (if_neg (Bool.eq_false_iff.mp invalid)),
      fun valid => taken (.storeBoot (some i)) (.boot (some i)) fun kind => (boot kind).trans (if_pos valid)⟩
  · exact taken (.storeBoot none) (.boot none) fun kind => doStoreBoot_none (s := s.serving kind tag) ready
  · exact taken (.storeCal a) (.cal s.timing.servo.fHold a) fun kind =>
      (doStoreCal_ready (s := s.serving kind tag) small ready).trans (if_pos ⟨locked, hour⟩)
  · refine refused (.storeCal a) fun kind =>
      (doStoreCal_ready (s := s.serving kind tag) small ready).trans (if_neg fun ⟨locked, hour⟩ => ?_)
    exact early.elim (fun other => other locked) (fun short => absurd hour (Nat.not_le.mpr short))

/-! ## The ends of the stages -/

/-- Without an operation of the kind in ERASING, ERASING_END finds nothing to end (R178). -/
theorem erased_same {st : Store} (h : ∀ o, st.op = some o → ¬ (o.stage = .erasing ∧ o.kind.programs = true)) :
    st.erased = st := by
  unfold Store.erased
  split
  · next o e => exact if_neg (h o e)
  · rfl

theorem erased_programming {st : Store} {o : StoreOp} (op : st.op = some o) (stage : o.stage = .erasing)
    (programs : o.kind.programs = true) : st.erased = { st with op := some { o with stage := .programming } } := by
  rw [Store.erased, op]
  exact if_pos ⟨stage, programs⟩

/-- Without an operation in its last stage, there is no end (R180). -/
theorem storeEnds_same {s : State} (h : ∀ o, s.store.op = some o → o.last = false) : storeEnds s = s := by
  unfold storeEnds
  split
  · next o e => exact if_neg (by rw [h o e]; decide)
  · rfl

/-- The content of a STORE notice (R180). -/
def State.storeNotice (s : State) (c : StoreCause) (x : StoreSubject) : StoreNotice :=
  { cause := c, subject := x, state := s.store.state, valid := s.store.validity, calValid := s.store.cal.valid,
    bootMark := s.store.bootMark }

/-- The slot of the STORE kind holds what was raised in it last (R173). -/
theorem holding_store (s : State) (c : NoticeContent) :
    ∃ merge, (s.holding .store c).port.slots.store = some { content := c, merge := merge } := by
  change ∃ merge, some (PendingNotice.raised s.port.slots.store c) = some _
  cases s.port.slots.store with
  | none => exact ⟨_, rfl⟩
  | some p => exact ⟨_, rfl⟩

/-- On a busy line the end of an operation in its last stage leaves the store READY and the notice pending (R180). -/
theorem exec_storeOperationEnd_last {s : State} {o : StoreOp} (op : s.store.op = some o) (last : o.last = true)
    (busy : s.port.freeForNotice = false) {st : Store} (finished : { s.store.finished o.kind with op := none } = st) :
    ∃ t : State, exec .storeOperationEnd s = .next t ∧ t.store = st ∧
      t = { s with store := t.store, port := { s.port with slots := t.port.slots } } ∧
      ∃ merge : Nat, t.port.slots.store = some
        { content := .store { cause := o.kind.cause, subject := o.kind.subject, state := .ready,
                              valid := t.store.plan.map PlanSlot.valid, calValid := t.store.cal.valid,
                              bootMark := t.store.bootMark }, merge := merge } := by
  have ready : st.state = .ready := (storeState_ready st).mpr (by rw [← finished])
  let u := s.withStore st
  have ends : storeEnds s = u.holding .store (.store (u.storeNotice o.kind.cause o.kind.subject)) := by
    unfold storeEnds
    rw [op]
    dsimp only
    rw [if_pos last, finished]
    exact raise_busy u _ _ busy
  obtain ⟨merge, slot⟩ := holding_store u (.store (u.storeNotice o.kind.cause o.kind.subject))
  refine ⟨u.holding .store (.store (u.storeNotice o.kind.cause o.kind.subject)), ?_, rfl, rfl, merge, ?_⟩
  · exact congrArg Host.Outcome.next ((congrArg announce ends).trans (announce_busy _ busy))
  · rw [slot, State.storeNotice, show u.store.state = .ready from ready]
    rfl

/-- Settles O50: the stage and the kind of the operation in flight decide what an end finds. -/
theorem storeOperationEnds : Obligations.StoreOperationEnds := by
  refine fun s => ⟨fun none' => ?_, fun o f op line => ?_⟩
  · have noOp (o : StoreOp) : s.store.op ≠ some o := by rw [none']; exact nofun
    exact ⟨congrArg (fun st => Host.Outcome.next (announce (s.withStore st))) (erased_same fun o e => absurd e (noOp o)),
      congrArg (fun u => Host.Outcome.next (announce u)) (storeEnds_same fun o e => absurd e (noOp o))⟩
  · have busy : s.port.freeForNotice = false := by rw [Port.freeForNotice, line]; rfl
    have here {P : StoreOp → Prop} (h : P o) (o' : StoreOp) (e : s.store.op = some o') : P o' := by
      rw [op] at e
      exact Option.some.inj e ▸ h
    have still : announce s = s := announce_busy s busy
    refine ⟨fun other => ?_, fun kind stage => ⟨?_, ?_⟩, fun i v kind _ stage => ?_, fun x a kind stage => ?_,
      fun i kind stage => ?_, fun i kind stage => ?_⟩
    · have none' : s.store.erased = s.store := erased_same (here fun ⟨erasing, programs⟩ => by
        rcases other with ⟨i, kind⟩ | stage
        · rw [kind] at programs; cases programs
        · rw [stage] at erasing; cases erasing)
      exact congrArg Host.Outcome.next ((congrArg (fun st => announce (s.withStore st)) none').trans still)
    · have programs : o.kind.programs = true := by rcases kind with ⟨i, v, e⟩ | ⟨x, a, e⟩ <;> rw [e] <;> rfl
      exact congrArg Host.Outcome.next ((congrArg (fun st => announce (s.withStore st))
        (erased_programming op stage programs)).trans (announce_busy _ busy))
    · have first : o.last = false := by rcases kind with ⟨i, v, e⟩ | ⟨x, a, e⟩ <;> rw [StoreOp.last, stage, e] <;> rfl
      exact congrArg Host.Outcome.next ((congrArg announce (storeEnds_same (here first))).trans still)
    all_goals
      have last : o.last = true := by rw [StoreOp.last, stage, kind]; rfl
      have ended := exec_storeOperationEnd_last op last busy rfl
      rw [kind] at ended
      exact ended

end Sys2Proof.Machine
end

section
/-! PROOF. The bytes of the management line: a frame collected, judged and offered, and noise (R169, R171, 11.1). -/

namespace Sys2Proof.Machine

/-! ## Bytes collected -/

/-- The receiver in FRAME with the bytes collected so far (R169). -/
def State.collecting (s : State) (b : List Byte) : State := s.withPort { s.port with rx := some b }

/-- The start byte in HUNT (R169). -/
theorem receiveByte_start {s : State} (hunt : s.port.rx = none) : receiveByte s 0x5A = s.collecting [] := by
  have start : s.port.rxByte 0x5A = ({ s.port with rx := some [] }, none) := by
    rw [Port.rxByte, hunt]
    exact if_pos rfl
  rw [receiveByte, start]
  rfl

theorem receiveByte_stray {s : State} {b : Byte} (hunt : s.port.rx = none) (other : b ≠ 0x5A) : receiveByte s b =
    s.withPort { s.port with counters := { s.port.counters with stray := bump s.port.counters.stray } } := by
  have stray : s.port.rxByte b =
      ({ s.port with counters := { s.port.counters with stray := bump s.port.counters.stray } }, none) := by
    simp only [Port.rxByte, hunt, if_neg other]
  rw [receiveByte, stray]

/-- A byte in FRAME is judged with those before it: no frame is complete with it (R169). -/
theorem receiveByte_within {s : State} {l : List Byte} {b : Byte} {p : Port}
    (h : (s.collecting l).port.collect (l ++ [b]) = (p, none)) : receiveByte (s.collecting l) b = s.withPort p := by
  have judged : (s.collecting l).port.rxByte b = (p, none) := h
  rw [receiveByte, judged]
  rfl

/-- A byte that completes a frame offers it to the receive buffer (R170). -/
theorem receiveByte_completes {s : State} {l : List Byte} {b : Byte} {p : Port} {f : Buffered}
    (h : (s.collecting l).port.collect (l ++ [b]) = (p, some f)) :
    receiveByte (s.collecting l) b = offerFrame f (s.withPort p) := by
  have judged : (s.collecting l).port.rxByte b = (p, some f) := h
  rw [receiveByte, judged]
  rfl

/-- A length that the receiver takes (R169). -/
def lengthTaken (n : Nat) : Prop := 2 ≤ n ∧ n ≤ 514

/-- The bytes of a frame behind its start byte: as many as its length says, and the check (11.1). -/
def Framed (full : List Byte) : Prop := lengthTaken (numAt full 0 2) ∧ full.length = numAt full 0 2 + 4

/-- The length of a frame stands in its first two bytes. -/
theorem numAt_take (full : List Byte) {k : Nat} (h : 2 ≤ k) : numAt (full.take k) 0 2 = numAt full 0 2 := by
  have byte (i : Nat) (lt : i < k) : byteAt (full.take k) i = byteAt full i := by simp [byteAt, lt]
  simp only [numAt, byte _ (show 0 + 0 < k by omega), byte _ (show 0 + 1 < k by omega)]

/-- Bytes that are not yet a whole frame are kept (R169). -/
theorem collect_part {p : Port} {full : List Byte} (framed : Framed full) {k : Nat} (part : k < full.length) :
    p.collect (full.take k) = ({ p with rx := some (full.take k) }, none) := by
  obtain ⟨⟨low, high⟩, whole⟩ := framed
  have length : (full.take k).length = k := List.length_take_of_le part.le
  unfold Port.collect
  rw [length]
  split
  · rfl
  · next two =>
    have same := numAt_take full (Nat.le_of_not_lt two)
    rw [same, if_neg (by omega), if_pos (by omega)]

/-- The bytes of a frame but for the last are collected one after another. -/
theorem receiveByte_part (s : State) {full : List Byte} (framed : Framed full) :
    ∀ k, k < full.length → (full.take k).foldl receiveByte (s.collecting []) = s.collecting (full.take k)
  | 0, _ => rfl
  | k + 1, part => by
    have before := receiveByte_part s framed k (Nat.lt_of_succ_lt part)
    have next : full.take (k + 1) = full.take k ++ [full[k]] := List.take_succ_eq_append_getElem (Nat.lt_of_succ_lt part)
    have kept := collect_part (p := (s.collecting (full.take k)).port) framed part
    rw [next] at kept ⊢
    rw [List.foldl_append, before, List.foldl_cons, List.foldl_nil, receiveByte_within kept]
    rfl

/-- A whole frame is judged by its check (R169). -/
theorem collect_whole {p : Port} {full : List Byte} (framed : Framed full) : p.collect full =
    if checkPasses full then ({ p with rx := none }, some (completed full))
    else ({ p with rx := none, counters := { p.counters with check := bump p.counters.check } }, none) := by
  obtain ⟨⟨low, high⟩, whole⟩ := framed
  rw [Port.collect, if_neg (by omega), if_neg (by omega), if_neg (by omega)]

/-- A frame on the line, from its start byte on: offered to the receive buffer, or discarded and counted (R169, R170). -/
theorem receive_framed {s : State} (hunt : s.port.rx = none) {full : List Byte} (framed : Framed full) :
    (0x5A :: full).foldl receiveByte s =
      if checkPasses full then offerFrame (completed full) s
      else s.withPort { s.port with counters := { s.port.counters with check := bump s.port.counters.check } } := by
  obtain ⟨k, size⟩ : ∃ k, full.length = k + 1 := ⟨_, framed.2⟩
  have last : full = full.take k ++ [full[k]] := by
    rw [← List.take_succ_eq_append_getElem (by omega), ← size, List.take_length]
  have judged := collect_whole (p := (s.collecting (full.take k)).port) framed
  have idle : ({ s.port with rx := none } : Port) = s.port := by rw [← hunt]
  calc (0x5A :: full).foldl receiveByte s
      = (full.take k ++ [full[k]]).foldl receiveByte (s.collecting []) := by
        rw [List.foldl_cons, receiveByte_start hunt, ← last]
    _ = receiveByte (s.collecting (full.take k)) full[k] := by
        rw [List.foldl_append, receiveByte_part s framed k (by omega)]
        rfl
    _ = _ := by
        split
        · next passes =>
          rw [if_pos passes, last] at judged
          rw [receiveByte_completes judged, ← last]
          exact congrArg (fun p => offerFrame (completed full) (s.withPort p)) idle
        · next fails =>
          rw [if_neg fails, last] at judged
          rw [receiveByte_within judged]
          exact congrArg (fun p : Port =>
            s.withPort { p with counters := { p.counters with check := bump p.counters.check } }) idle

/-- A length out of range is discarded and counted with its second byte (R169). -/
theorem receive_badLength {s : State} (hunt : s.port.rx = none) {n : Nat} (size : n < 65536) (out : ¬ lengthTaken n) :
    (0x5A :: numBytes 2 n).foldl receiveByte s =
      s.withPort { s.port with counters := { s.port.counters with length := bump s.port.counters.length } } := by
  have value : numAt (numBytes 2 n) 0 2 = n := by
    have read := numAt_numBytes [] 2 n []
    rw [List.nil_append, List.append_nil] at read
    exact read.trans (Nat.mod_eq_of_lt size)
  rw [lengthTaken, not_and_or, Nat.not_le, Nat.not_le] at out
  rw [numBytes_two] at value ⊢
  have first (p : Port) (b : Byte) : p.collect ([] ++ [b]) = ({ p with rx := some [b] }, none) := if_pos Nat.one_lt_two
  have second (p : Port) : p.collect ([BitVec.ofNat 8 (n / 256)] ++ [BitVec.ofNat 8 n]) =
      ({ p with rx := none, counters := { p.counters with length := bump p.counters.length } }, none) := by
    rw [List.singleton_append, Port.collect, value]
    exact (if_neg (Nat.lt_irrefl 2)).trans (if_pos ⟨rfl, out⟩)
  have idle : ({ s.port with rx := none } : Port) = s.port := by rw [← hunt]
  rw [List.foldl_cons, receiveByte_start hunt, List.foldl_cons, receiveByte_within (first _ _)]
  refine (receiveByte_within (s := s) (second _)).trans ?_
  exact congrArg (fun p : Port => s.withPort { p with counters := { p.counters with length := bump p.counters.length } }) idle

/-! ## The fields of a frame (11.1) -/

/-- The bytes that the check of a frame covers (11.1). -/
def coveredBytes (kind tag : Byte) (body : List Byte) : List Byte := numBytes 2 (2 + body.length) ++ [kind, tag] ++ body

/-- The bytes of a frame behind its start byte, with any check. -/
def frameBytes (kind tag : Byte) (body : List Byte) (check : BitVec 16) : List Byte :=
  coveredBytes kind tag body ++ numBytes 2 check.toNat

theorem managementBytes_eq (kind tag : Byte) (body : List Byte) :
    managementBytes kind tag body = 0x5A :: frameBytes kind tag body (crc16 (coveredBytes kind tag body)) := rfl

section
variable (kind tag : Byte) {body : List Byte} (check : BitVec 16) (short : body.length ≤ 512)

theorem coveredBytes_length : (coveredBytes kind tag body).length = 2 + body.length + 2 := by
  simp only [coveredBytes, List.length_append, numBytes_length, List.length_cons, List.length_nil]
  omega

include short

theorem frameBytes_size : numAt (frameBytes kind tag body check) 0 2 = 2 + body.length := by
  have read := numAt_numBytes [] 2 (2 + body.length) ([kind, tag] ++ body ++ numBytes 2 check.toNat)
  rw [List.nil_append, Nat.mod_eq_of_lt (by omega)] at read
  rw [← read, frameBytes, coveredBytes]
  simp only [List.append_assoc, List.length_nil]

theorem frameBytes_framed : Framed (frameBytes kind tag body check) := by
  rw [Framed, lengthTaken, frameBytes_size kind tag check short, frameBytes, List.length_append, coveredBytes_length,
    numBytes_length]
  omega

/-- The check of a frame is compared with the CRC over the bytes it covers (R169). -/
theorem frameBytes_checkPasses :
    checkPasses (frameBytes kind tag body check) = (crc16 (coveredBytes kind tag body) == check) := by
  have length := coveredBytes_length kind tag (body := body)
  have covered : (frameBytes kind tag body check).take (2 + body.length + 2) = coveredBytes kind tag body :=
    List.take_left' length
  have read := numAt_numBytes (coveredBytes kind tag body) 2 check.toNat []
  rw [List.append_nil, length, Nat.mod_eq_of_lt (show check.toNat < 256 ^ 2 from check.isLt)] at read
  rw [checkPasses, frameBytes_size kind tag check short, covered]
  exact congrArg (crc16 (coveredBytes kind tag body) == ·) ((congrArg (BitVec.ofNat 16) read).trans
    (by rw [BitVec.ofNat_toNat, BitVec.setWidth_eq]))

/-- A frame is read back field by field (11.1). -/
theorem frameBytes_completed : completed (frameBytes kind tag body check) =
    { kind := kind, tag := tag, what := incoming kind.toNat body } := by
  have bytes : frameBytes kind tag body check = BitVec.ofNat 8 ((2 + body.length) / 256) :: BitVec.ofNat 8 (2 + body.length) ::
      kind :: tag :: (body ++ numBytes 2 check.toNat) := by
    rw [frameBytes, coveredBytes, numBytes_two]
    rfl
  have text : ((frameBytes kind tag body check).drop 4).take (2 + body.length - 2) = body := by
    rw [bytes, Nat.add_sub_cancel_left]
    exact List.take_left
  rw [completed, frameBytes_size kind tag check short, text, bytes]
  rfl

/-- A frame on the line whose check passes is offered to the receive buffer with what it asks (R169 to R171). -/
theorem exec_managementBytes {s : State} (hunt : s.port.rx = none) :
    exec (.managementFrame (managementBytes kind tag body)) s =
      .next (announce (offerFrame { kind := kind, tag := tag, what := incoming kind.toNat body } s)) := by
  have received := receive_framed hunt (frameBytes_framed kind tag (crc16 (coveredBytes kind tag body)) short)
  rw [frameBytes_checkPasses kind tag _ short, beq_self_eq_true, if_pos rfl, frameBytes_completed kind tag _ short] at received
  rw [managementBytes_eq]
  exact congrArg (fun u => Host.Outcome.next (announce u)) received

end

/-! ## What a frame asks (R171) -/

theorem kindListed_iff (n : Nat) : kindListed n = true ↔ 1 ≤ n ∧ n ≤ 25 := by
  simp [kindListed]

theorem incoming_unlisted {n : Nat} (body : List Byte) (h : n = 0 ∨ 25 < n) : incoming n body = .unknownKind := by
  have unlisted : kindListed n = false := Bool.eq_false_iff.mpr fun listed => by
    have := (kindListed_iff n).mp listed
    omega
  exact if_pos unlisted

theorem incoming_bodyless {n : Nat} {r : Request} (listed : kindListed n = true) (h : bodyless n = some r)
    (body : List Byte) : incoming n body = if body.isEmpty then .request r else .badLength := by
  rw [incoming, listed, h]
  rfl

/-- A kind that carries no body, with one (R171). -/
theorem incoming_body {k : Byte} (h : k ∈ ([1, 14, 18, 19, 20] : List Byte)) {body : List Byte} (some' : body ≠ []) :
    incoming k.toNat body = .badLength := by
  obtain ⟨listed, r, request⟩ : kindListed k.toNat = true ∧ ∃ r, bodyless k.toNat = some r := by
    simp only [List.mem_cons, List.not_mem_nil, or_false] at h
    rcases h with rfl | rfl | rfl | rfl | rfl <;> exact ⟨rfl, _, rfl⟩
  rw [incoming_bodyless listed request, if_neg (by simpa using some')]

/-- A frame of a bad length is answered at a port where no request and no reply waits, and has no effect (R171). -/
theorem badLength_free (tag kind : Byte) (s : State) (h : s.requestFree) :
    announce (offerFrame { kind := kind, tag := tag, what := .badLength } s) =
      s.replied kind.toNat tag .badLength .empty := by
  rw [offerFrame_free _ s h]
  simp only [answer, State.replied, BitVec.ofNat_toNat, BitVec.setWidth_eq]
  cases h : s.port.line <;> simp [State.serving, Port.reserve, h]

/-- Settles O44: a frame is collected whole, judged by its length and its check, and then it is the request it spells. -/
theorem frameOnTheLineIsTheRequest : Obligations.FrameOnTheLineIsTheRequest := by
  intro s tag
  have spelled {a b : State} (e : a = b) : (Host.Outcome.next (announce a) : Host.Outcome State Fault Refusal) =
      .next (announce b) := by rw [e]
  refine ⟨fun hunt => ?_, fun l frame => spelled (congrArg s.withPort (if_pos (by rw [frame]; rfl)))⟩
  have sent (kind : Byte) := exec_managementBytes kind tag (body := []) (Nat.zero_le _) hunt
  refine ⟨sent 1, sent 14, sent 18, sent 19, sent 20, fun kind body unlisted short => ?_, fun free => ?_,
    fun kind body listed some' short free => ?_, fun kind body check short wrong => ?_, fun n out => ?_,
    fun b other => spelled (receiveByte_stray hunt other), spelled (congrArg s.withPort (if_neg (by rw [hunt]; decide)))⟩
  · exact (exec_managementBytes kind tag short hunt).trans (by rw [incoming_unlisted body unlisted]; rfl)
  · exact (sent 1).trans (congrArg Host.Outcome.next (getId_free tag free))
  · refine (exec_managementBytes kind tag short hunt).trans (congrArg Host.Outcome.next ?_)
    rw [incoming_body listed some']
    exact badLength_free tag kind s free
  · have received := receive_framed hunt (frameBytes_framed kind tag check short)
    have differs : ¬ (crc16 (coveredBytes kind tag body) == check) = true := fun same => wrong (eq_of_beq same).symm
    rw [frameBytes_checkPasses kind tag check short, if_neg differs] at received
    exact spelled received
  · exact spelled (receive_badLength hunt (by omega) (by rw [lengthTaken]; omega))

end Sys2Proof.Machine
end

section
/-! PROOF. STORE_LOAD (R181): what applying a slot changes, block by block, and the judgements before it. -/

namespace Sys2Proof.Machine

/-! ## The tenant records (R58) -/

/-- A tenant record taken changes the tenant's unit, and a notice is raised at most. -/
theorem takeTenantRecord_onlyNotices (x : Tenant) (r : TenantRecord) (c : TenantCause) (s : State) :
    OnlyNotices (s.withTenant x ((s.tenant x).takeRecord r)) (takeTenantRecord x r c s) := by
  unfold takeTenantRecord
  dsimp only
  split
  · exact raiseTenant_onlyNotices _ _ _ _ _
  · exact .refl _

/-- What one record taken leaves of the units. -/
theorem takeTenantRecord_tenant (x y : Tenant) (r : TenantRecord) (c : TenantCause) (s : State) :
    (takeTenantRecord x r c s).tenant y = if y = x then (s.tenant x).takeRecord r else s.tenant y := by
  rw [(takeTenantRecord_onlyNotices x r c s).tenant]
  split
  · next same => rw [same, State.withTenant_same]
  · next other => exact State.withTenant_other _ _ _ _ other

/-- `t` differs from `s` in the units and in notices raised. -/
structure OnlyTenants (s t : State) : Prop where
  eq : t = (s.withTenants t.tenants).withPort t.port
  port : PortNoticed s.port t.port

theorem OnlyTenants.refl (s : State) : OnlyTenants s s := ⟨rfl, .refl _⟩

theorem OnlyTenants.trans {s t u : State} (h : OnlyTenants s t) (k : OnlyTenants t u) : OnlyTenants s u := by
  refine ⟨?_, h.port.trans k.port⟩
  rw [k.eq, h.eq]
  rfl

section
variable {s t : State} (h : OnlyTenants s t)
include h
theorem OnlyTenants.role : t.role = s.role := by rw [h.eq]; rfl
theorem OnlyTenants.link : t.link = s.link := by rw [h.eq]; rfl
theorem OnlyTenants.ladder : t.ladder = s.ladder := by rw [h.eq]; rfl
theorem OnlyTenants.planner : t.planner = s.planner := by rw [h.eq]; rfl
theorem OnlyTenants.timing : t.timing = s.timing := by rw [h.eq]; rfl
theorem OnlyTenants.test : t.test = s.test := by rw [h.eq]; rfl
theorem OnlyTenants.store : t.store = s.store := by rw [h.eq]; rfl
theorem OnlyTenants.pending : t.pending = s.pending := by rw [h.eq]; rfl
end

theorem takeTenantRecord_onlyTenants (x : Tenant) (r : TenantRecord) (c : TenantCause) (s : State) :
    OnlyTenants s (takeTenantRecord x r c s) := by
  have noticed := takeTenantRecord_onlyNotices x r c s
  refine ⟨?_, noticed.port⟩
  rw [noticed.eq]
  rfl

/-- The four records loaded, each by its own tenant. -/
theorem loadTenants_onlyTenants (q : Quad TenantRecord) (s : State) : OnlyTenants s (loadTenants q s) := by
  have all (l : List Tenant) : ∀ s, OnlyTenants s (l.foldl (fun s t => takeTenantRecord t (q.get t) .loaded s) s) := by
    induction l with
    | nil => exact OnlyTenants.refl
    | cons x l ih => exact fun s => (takeTenantRecord_onlyTenants x _ _ s).trans (ih _)
  exact all _ s

theorem loadTenants_tenant (q : Quad TenantRecord) (s : State) (y : Tenant) :
    (loadTenants q s).tenant y = (s.tenant y).takeRecord (q.get y) := by
  rw [loadTenants, Tenant.all]
  simp only [List.foldl_cons, List.foldl_nil, takeTenantRecord_tenant]
  cases y <;> rfl

/-! ## The timing record (R111, R160, R161) -/

/-- A re-evaluation brings no lock (R141). -/
theorem reselect_locked {t : Timing} (h : t.reselect.servo.state = .locked) : t.servo.state = .locked := by
  revert h
  change (t.takeSelection t.selection).servo.state = .locked → _
  unfold Timing.takeSelection Timing.enterHoldover
  repeat' split
  all_goals first | exact id | exact nofun

theorem underRecord_sourceState (t : Timing) (role : Option Role) (r : TimingRecord) (y : Source) :
    (t.underRecord role r).reselect.sourceState y = t.sourceState y := by
  rw [reselect_sourceState]
  cases y
  case link =>
    have link : (t.xfer.limitCountdown role r.timingPeriod).link = t.xfer.link := by rw [limitCountdown_eq]
    exact congrArg LinkSource.state link
  all_goals rfl

/-- A timing record in force makes no condition of a WAIT step hold that did not (R161). -/
theorem takeTimingRecord_holds {r : TimingRecord} {s : State} {c : WaitCond} (h : s.holds c = false) :
    (takeTimingRecord r s).holds c = false := by
  have timing := takeTimingRecord_timing r s
  cases c with
  | linkUp =>
    rw [State.holds, takeTimingRecord, timingEvent_link]
    exact h
  | timingLocked =>
    refine Bool.eq_false_iff.mpr fun locked => ?_
    rw [State.holds, timing] at locked
    have before : (s.timing.underRecord s.role r).servo.state = .locked := reselect_locked (eq_of_beq locked)
    exact Bool.eq_false_iff.mp h (beq_iff_eq.mpr before)
  | sourceQualified y =>
    rw [State.holds, timing, underRecord_sourceState]
    exact h

theorem takeTimingRecord_crossReady (r : TimingRecord) (s : State) :
    (takeTimingRecord r s).crossReady = s.crossReady := by
  simp only [State.crossReady, takeTimingRecord_timing, underRecord_sourceState]

/-- Where a run has nothing to judge in its step, a timing record in force touches no traffic (R160, R161). -/
theorem takeTimingRecord_watchIdle (r : TimingRecord) {s : State} (h : s.watchIdle) :
    (takeTimingRecord r s).test = s.test ∧ (takeTimingRecord r s).tenants = s.tenants ∧
    (takeTimingRecord r s).ladder = s.ladder := by
  obtain ⟨-, -, -, -, -, traffic⟩ :=
    timingEvent_sameTraffic ((s.timing.underRecord s.role r).reselect) s
  refine traffic (h.imp id fun still w work => ?_)
  obtain ⟨wait, cross⟩ := still w work
  exact ⟨fun cond limit body => takeTimingRecord_holds (wait cond limit body),
    fun samples limit body => (takeTimingRecord_crossReady r s).trans (cross samples limit body)⟩

/-- A timing record in force leaves the forced profile, the queues and the Test Controller to the judgement of a step. -/
theorem takeTimingRecord_stepFrame (r : TimingRecord) (s : State) :
    StepFrame (s.withTiming (s.timing.underRecord s.role r).reselect) (takeTimingRecord r s) :=
  (raiseTiming_onlyNotices _ _ _).stepFrame.trans (stepWatch_stepFrame _)

/-! ## The slot applied -/

/-- The state with a slot's link record, share table and timing record in force. -/
def State.timingLoaded (s : State) (v : Settings) : State :=
  takeTimingRecord v.timing ((s.withLadder (s.ladder.takeRecord v.link)).withPlanner { s.planner with shares := v.shares })

/-- A slot applied: the records of the timing blocks, of the ladder and of the planner first, then the patterns, then the
tenants (R181). -/
theorem applySettings_eq (v : Settings) (s : State) : applySettings v s =
    loadTenants v.tenants ((s.timingLoaded v).withTest { (s.timingLoaded v).test with patterns := v.patterns }) := rfl

theorem applySettings_onlyTenants (v : Settings) (s : State) :
    OnlyTenants ((s.timingLoaded v).withTest { (s.timingLoaded v).test with patterns := v.patterns }) (applySettings v s) := by
  rw [applySettings_eq]
  exact loadTenants_onlyTenants _ _

theorem applySettings_tenant (v : Settings) (s : State) (y : Tenant) :
    (applySettings v s).tenant y = ((s.timingLoaded v).tenant y).takeRecord (v.tenants.get y) := by
  rw [applySettings_eq, loadTenants_tenant, State.tenant_withTest]

section
variable (v : Settings) (s : State)

/-- The blocks that a slot's link record, share table and timing record are in force in (R26, R78, R111). -/
theorem timingLoaded_blocks :
    (s.timingLoaded v).ladder = { s.ladder with
      record := v.link, dwell := 0, confirm := none, forced := (s.timingLoaded v).ladder.forced } ∧
    (s.timingLoaded v).planner = { s.planner with shares := v.shares } ∧
    (s.timingLoaded v).timing = (s.timing.underRecord s.role v.timing).reselect ∧
    (s.timingLoaded v).role = s.role ∧ (s.timingLoaded v).link = s.link ∧ (s.timingLoaded v).store = s.store ∧
    (s.timingLoaded v).pending = s.pending := by
  have frame := takeTimingRecord_stepFrame v.timing
    ((s.withLadder (s.ladder.takeRecord v.link)).withPlanner { s.planner with shares := v.shares })
  exact ⟨frame.ladder, frame.planner, frame.timing, frame.role, frame.link, frame.store, frame.pending⟩

/-- The units and the tables of the Test Controller behind it. -/
theorem timingLoaded_runFrame : RunFrame s (s.timingLoaded v) :=
  RunFrame.trans (t := (s.withLadder (s.ladder.takeRecord v.link)).withPlanner { s.planner with shares := v.shares })
    (runFrame_of_eq rfl rfl) (timingEvent_runFrame _ _)

theorem timingLoaded_state (y : Tenant) : stateKept (s.tenant y) ((s.timingLoaded v).tenant y) :=
  (takeTimingRecord_stepFrame v.timing
    ((s.withLadder (s.ladder.takeRecord v.link)).withPlanner { s.planner with shares := v.shares })).state y

/-- Where a run has nothing to judge in its step, the load touches no traffic. -/
theorem timingLoaded_watchIdle (h : s.watchIdle) : (s.timingLoaded v).test = s.test ∧
    (s.timingLoaded v).tenants = s.tenants ∧ (s.timingLoaded v).ladder = s.ladder.takeRecord v.link :=
  takeTimingRecord_watchIdle v.timing
    (s := (s.withLadder (s.ladder.takeRecord v.link)).withPlanner { s.planner with shares := v.shares }) h

end

/-! ## STORE_LOAD -/

theorem mem_inService (s : State) (x : Tenant) : x ∈ s.inService ↔ (s.tenant x).state.inService = true := by
  have all : x ∈ Tenant.all := by cases x <;> decide
  simp [State.inService, all]

section
variable {i : Nat} {s : State} (low : i ≤ 3)
include low

theorem doStoreLoad_busy (busy : s.store.op.isSome = true) : doStoreLoad i s = (s, .busy, .empty) := by
  rw [doStoreLoad, if_neg (Nat.not_lt.mpr low), if_pos busy]

variable (ready : s.store.op = none)
include ready

theorem doStoreLoad_served (served : s.inService ≠ []) :
    doStoreLoad i s = (s, .wrongState, .tenants s.inService) := by
  rw [doStoreLoad, if_neg (Nat.not_lt.mpr low), ready, if_neg (by decide), if_pos served]

theorem doStoreLoad_invalid (idle : s.inService = []) (invalid : (s.store.plan.at i).valid = false) :
    doStoreLoad i s = (s, .storeFault, .empty) := by
  rw [doStoreLoad, if_neg (Nat.not_lt.mpr low), ready, if_neg (by decide), if_neg (fun k => k idle), if_pos invalid]

theorem doStoreLoad_taken (idle : s.inService = []) (valid : (s.store.plan.at i).valid = true) :
    doStoreLoad i s =
      ((applySettings (s.store.plan.at i).settings s).raiseStore .loaded (.plan i), .ok, .slot i) := by
  rw [doStoreLoad, if_neg (Nat.not_lt.mpr low), ready, if_neg (by decide), if_neg (fun k => k idle), if_neg (by simp [valid])]

end

/-- A tenant that is not in service is OFF or PENDING. -/
theorem state_of_not_inService {x : TenantState} (h : x.inService = false) : x = .off ∨ x = .pending := by
  cases x
  case off => exact .inl rfl
  case pending => exact .inr rfl
  all_goals cases h

/-- A unit that is not in service, with a record loaded: PENDING, its queue and its egress buffer kept (R58). -/
theorem takeRecord_loaded {u : TenantUnit} (h : u.state.inService = false) (r : TenantRecord) :
    (u.takeRecord r).record = r ∧ (u.takeRecord r).state = .pending ∧ (u.takeRecord r).egress = u.egress ∧
    (u.takeRecord r).queue = u.queue ∧ (u.takeRecord r).nextSeq = u.nextSeq := by
  rw [takeRecord_eq]
  refine ⟨rfl, ?_, rfl, rfl, rfl⟩
  rcases state_of_not_inService h with e | e <;> simp [e]

/-! ## The state after a load -/

section
variable (v : Settings) (s : State)

/-- The blocks after a load but the units, the Test Controller and the port (R181). -/
theorem applySettings_blocks :
    (applySettings v s).ladder = { s.ladder with
      record := v.link, dwell := 0, confirm := none, forced := (applySettings v s).ladder.forced } ∧
    (applySettings v s).planner = { s.planner with shares := v.shares } ∧
    (applySettings v s).timing = (s.timing.underRecord s.role v.timing).reselect ∧
    (applySettings v s).role = s.role ∧ (applySettings v s).link = s.link ∧ (applySettings v s).store = s.store ∧
    (applySettings v s).pending = s.pending := by
  have units := applySettings_onlyTenants v s
  rw [units.ladder, units.planner, units.timing, units.role, units.link, units.store, units.pending]
  simp only [State.withTest_ladder, State.withTest_planner, State.withTest_timing, State.withTest_role, State.withTest_link,
    State.withTest_store, State.withTest_pending]
  exact timingLoaded_blocks v s

/-- The pattern table is the slot's, and the rest of the Test Controller as the judgement of the step leaves it. -/
theorem applySettings_test : (applySettings v s).test = { (s.timingLoaded v).test with patterns := v.patterns } :=
  (applySettings_onlyTenants v s).test

theorem applySettings_tables : (applySettings v s).test.patterns = v.patterns ∧
    (applySettings v s).test.runId = s.test.runId ∧ (applySettings v s).test.steps = s.test.steps := by
  have tables := (timingLoaded_runFrame v s).tables
  rw [applySettings_test]
  exact ⟨rfl, tables.runId, tables.steps⟩

variable (idle : s.inService = [])
include idle

/-- No tenant is in service when its record is loaded. -/
theorem timingLoaded_waits (x : Tenant) : ((s.timingLoaded v).tenant x).state.inService = false := by
  have before : (s.tenant x).state.inService = false :=
    Bool.eq_false_iff.mpr fun k => List.ne_nil_of_mem ((mem_inService s x).mpr k) idle
  rcases timingLoaded_state v s x with e | ⟨-, e⟩
  · rw [e]; exact before
  · rw [e]; rfl

/-- Every tenant is PENDING with its record of the slot, its egress buffer kept (R58). -/
theorem applySettings_unit (x : Tenant) : ((applySettings v s).tenant x).record = v.tenants.get x ∧
    ((applySettings v s).tenant x).state = .pending ∧
    ((applySettings v s).tenant x).egress = (s.tenant x).egress := by
  obtain ⟨record, state, egress, -⟩ := takeRecord_loaded (timingLoaded_waits v s idle x) (v.tenants.get x)
  rw [applySettings_tenant]
  exact ⟨record, state, egress.trans ((timingLoaded_runFrame v s).units x).egress⟩

/-- Where a run has nothing to judge in its step, it goes on with its forced profile and its queues (R181). -/
theorem applySettings_watchIdle (still : s.watchIdle) :
    (applySettings v s).test = { s.test with patterns := v.patterns } ∧
    (applySettings v s).ladder.forced = s.ladder.forced ∧
    ∀ x, ((applySettings v s).tenant x).queue = (s.tenant x).queue ∧
      ((applySettings v s).tenant x).nextSeq = (s.tenant x).nextSeq := by
  obtain ⟨test, tenants, ladder⟩ := timingLoaded_watchIdle v s still
  refine ⟨by rw [applySettings_test, test], ?_, fun x => ?_⟩
  · rw [(applySettings_onlyTenants v s).ladder, State.withTest_ladder, ladder]
    rfl
  · obtain ⟨-, -, -, queue, nextSeq⟩ := takeRecord_loaded (timingLoaded_waits v s idle x) (v.tenants.get x)
    have same : (s.timingLoaded v).tenant x = s.tenant x := congrArg (Quad.get · x) tenants
    rw [applySettings_tenant, queue, nextSeq, same]
    exact ⟨rfl, rfl⟩

end

/-- A state with a slot's settings applied and the STORE notice pending (R180, R181). -/
def State.loaded (s : State) (v : Settings) (i : Nat) : State :=
  (applySettings v s).holding .store (.store ((applySettings v s).storeNotice .loaded (.plan i)))

/-- A load while the place of its reply is held: the STORE notice waits in its slot (R172). -/
theorem raiseStore_loaded {s : State} (v : Settings) (busy : s.port.freeForNotice = false) (i : Nat) :
    (applySettings v s).raiseStore .loaded (.plan i) = s.loaded v i :=
  raise_busy _ _ _ ((applySettings_portKept v s).busy busy)

/-- STORE_LOAD of a valid slot at a port where no request and no reply waits (R181). -/
theorem storeLoad_free (tag : Byte) {i : Nat} {s : State} (free : s.requestFree) (low : i ≤ 3)
    (ready : s.store.op = none) (idle : s.inService = []) (valid : (s.store.plan.at i).valid = true) :
    requestFrame tag (.storeLoad i) s =
      ((s.serving 22 tag).loaded (s.store.plan.at i).settings i).replied 22 tag .ok (.slot i) := by
  refine requestFrame_ends tag (.storeLoad i) s _ _ _ free ?_
  refine (doStoreLoad_taken (s := s.serving 22 tag) low ready idle valid).trans ?_
  rw [raiseStore_loaded _ (Port.reserve_busy _ _ _)]
  rfl

/-- Settles O51: the judgements in their order; then each block is as the slot's records leave it, and the notice waits. -/
theorem storeLoadAppliesTheSlot : Obligations.StoreLoadAppliesTheSlot := by
  intro s tag i free served
  have names : s.inService = served := inService_eq s
  rw [← names]
  have refused {st : Status} {body : ReplyBody}
      (e : ∀ kind, doStoreLoad i (s.serving kind tag) = (s.serving kind tag, st, body)) :
      exec (.storeLoad tag i) s = .next (s.replied 22 tag st body) :=
    congrArg Host.Outcome.next (requestFrame_read tag (.storeLoad i) s _ _ free e)
  refine ⟨fun high => refused fun _ => if_pos high,
    fun low busy => refused fun kind => doStoreLoad_busy (s := s.serving kind tag) low busy,
    fun low ready some' => refused fun kind => doStoreLoad_served (s := s.serving kind tag) low ready some',
    fun low ready idle invalid => refused fun kind => doStoreLoad_invalid (s := s.serving kind tag) low ready idle invalid,
    fun low ready idle valid => ?_⟩
  have answered := storeLoad_free tag free low ready idle valid
  generalize (s.store.plan.at i).settings = v at answered ⊢
  have idle' : (s.serving 22 tag).inService = [] := idle
  obtain ⟨ladder, planner, timing, role, link, store, pending⟩ := applySettings_blocks v (s.serving 22 tag)
  obtain ⟨patterns, runId, steps⟩ := applySettings_tables v (s.serving 22 tag)
  have units := applySettings_unit v (s.serving 22 tag) idle'
  have still := applySettings_watchIdle v (s.serving 22 tag) idle'
  rw [State.loaded] at answered
  generalize applySettings v (s.serving 22 tag) = a at *
  obtain ⟨merge, slot⟩ := holding_store a (.store (a.storeNotice .loaded (.plan i)))
  have record : a.timing.base.record = v.timing := by
    rw [timing]
    exact reselect_record _
  have chosen : a.timing.servo.selected = a.timing.selection := by
    rw [timing, reselect_selected, reselect_selection]
  exact ⟨a.holding .store (.store (a.storeNotice .loaded (.plan i))), congrArg Host.Outcome.next answered, ladder, planner,
    record, chosen, patterns, units, role, link, store, pending, runId, steps, still, _, merge, slot, rfl, rfl⟩

end Sys2Proof.Machine
end

section
/-! SUPPORT. The effects of a request do not read the receive buffer: they commute with a buffer put in its place (R170).
Said for the events of the Test Controller and for the requests of O45. -/

namespace Sys2Proof.Machine

/-! ## A buffer put in place -/

/-- The state with other frames in the receive buffer. -/
def State.buffering (s : State) (l : List Buffered) : State := s.withPort { s.port with buffer := l }

/-- A buffer put back as it stands. -/
theorem State.buffering_same {s : State} {l : List Buffered} (h : s.port.buffer = l) : s.buffering l = s := by
  rw [← h]
  rfl

@[simp] theorem State.buffering_role (s : State) (l : List Buffered) : (s.buffering l).role = s.role := rfl
@[simp] theorem State.buffering_link (s : State) (l : List Buffered) : (s.buffering l).link = s.link := rfl
@[simp] theorem State.buffering_ladder (s : State) (l : List Buffered) : (s.buffering l).ladder = s.ladder := rfl
@[simp] theorem State.buffering_planner (s : State) (l : List Buffered) : (s.buffering l).planner = s.planner := rfl
@[simp] theorem State.buffering_timing (s : State) (l : List Buffered) : (s.buffering l).timing = s.timing := rfl
@[simp] theorem State.buffering_test (s : State) (l : List Buffered) : (s.buffering l).test = s.test := rfl
@[simp] theorem State.buffering_store (s : State) (l : List Buffered) : (s.buffering l).store = s.store := rfl
@[simp] theorem State.buffering_tenant (s : State) (l : List Buffered) (x : Tenant) :
    (s.buffering l).tenant x = s.tenant x := rfl
@[simp] theorem State.buffering_withLadder (s : State) (l : List Buffered) (x : Ladder) :
    (s.buffering l).withLadder x = (s.withLadder x).buffering l := rfl
@[simp] theorem State.buffering_withPlanner (s : State) (l : List Buffered) (x : Planner) :
    (s.buffering l).withPlanner x = (s.withPlanner x).buffering l := rfl
@[simp] theorem State.buffering_withTiming (s : State) (l : List Buffered) (x : Timing) :
    (s.buffering l).withTiming x = (s.withTiming x).buffering l := rfl
@[simp] theorem State.buffering_withTest (s : State) (l : List Buffered) (x : TestUnit) :
    (s.buffering l).withTest x = (s.withTest x).buffering l := rfl
@[simp] theorem State.buffering_withWork (s : State) (l : List Buffered) (x : Option Working) :
    (s.buffering l).withWork x = (s.withWork x).buffering l := rfl
@[simp] theorem State.buffering_withTenant (s : State) (l : List Buffered) (x : Tenant) (u : TenantUnit) :
    (s.buffering l).withTenant x u = (s.withTenant x u).buffering l := rfl

/-- An operation that does not read the receive buffer and leaves it as it is. -/
def Unbuffered (f : State → State) : Prop := ∀ s l, f (s.buffering l) = (f s).buffering l

theorem Unbuffered.foldl {α : Type} {f : State → α → State} (h : ∀ a, Unbuffered fun s => f s a) (as : List α) :
    Unbuffered fun s => as.foldl f s := by
  induction as with
  | nil => exact fun _ _ => rfl
  | cons a as ih => exact fun s l => (congrArg (as.foldl f) (h a s l)).trans (ih _ l)

/-! ## Notices -/

theorem announce_unbuffered : Unbuffered announce := by
  intro s l
  have sent (p : Port) : ({ p with buffer := l } : Port).sendNotice = { p.sendNotice with buffer := l } := by
    unfold Port.sendNotice
    dsimp only
    split <;> rfl
  unfold announce
  have same : (s.buffering l).port.freeForNotice = s.port.freeForNotice := rfl
  rw [same]
  split
  · exact congrArg s.withPort (sent s.port)
  · rfl

theorem raise_unbuffered (k : NoticeKind) (c : NoticeContent) : Unbuffered fun s => s.raise k c :=
  fun s l => announce_unbuffered (s.withPort { s.port with slots := s.port.slots.raise k c }) l

@[simp] theorem raiseProfile_buffering (c : ProfileCause) (s : State) (l : List Buffered) :
    (s.buffering l).raiseProfile c = (s.raiseProfile c).buffering l := raise_unbuffered _ _ s l

@[simp] theorem raiseTenant_buffering (x : Tenant) (p : TenantState) (c : TenantCause) (e : TenantExtra) (s : State)
    (l : List Buffered) : (s.buffering l).raiseTenant x p c e = (s.raiseTenant x p c e).buffering l :=
  raise_unbuffered _ _ s l

@[simp] theorem raiseTest_buffering (c : TestCause) (s : State) (l : List Buffered) :
    (s.buffering l).raiseTest c = (s.raiseTest c).buffering l := raise_unbuffered _ _ s l

@[simp] theorem raiseStore_buffering (c : StoreCause) (x : StoreSubject) (s : State) (l : List Buffered) :
    (s.buffering l).raiseStore c x = (s.raiseStore c x).buffering l := raise_unbuffered _ _ s l

@[simp] theorem raiseTiming_buffering (b : Timing) (cs : List TimingCause) (s : State) (l : List Buffered) :
    (s.buffering l).raiseTiming b cs = (s.raiseTiming b cs).buffering l :=
  Unbuffered.foldl (f := fun s c => s.raise .timing (.timing (timingContent b s.timing c)))
    (fun _ s l => raise_unbuffered _ _ s l) cs s l

/-! ## Events of the Test Controller -/

@[simp] theorem removeForce_buffering (s : State) (l : List Buffered) :
    removeForce (s.buffering l) = (removeForce s).buffering l := by
  simp only [removeForce, State.buffering_ladder, State.buffering_withLadder, raiseProfile_buffering]
  split <;> rfl

@[simp] theorem setForce_buffering (p : Nat) (s : State) (l : List Buffered) :
    setForce p (s.buffering l) = (setForce p s).buffering l := by
  simp only [setForce, State.buffering_ladder, State.buffering_withLadder, raiseProfile_buffering]

@[simp] theorem drainIfEmpty_buffering (x : Tenant) (s : State) (l : List Buffered) :
    drainIfEmpty x (s.buffering l) = (drainIfEmpty x s).buffering l := by
  simp only [drainIfEmpty, State.buffering_tenant, State.buffering_withTenant, raiseTenant_buffering]
  split <;> rfl

@[simp] theorem inject_buffering (x : Tenant) (s : State) (l : List Buffered) :
    inject x (s.buffering l) = (inject x s).buffering l := by
  simp only [inject, State.buffering_test, State.buffering_link, State.buffering_tenant, State.buffering_withTenant,
    State.buffering_withWork]
  repeat' split
  all_goals rfl

@[simp] theorem removeStepEntries_buffering (w : Working) (s : State) (l : List Buffered) :
    removeStepEntries w (s.buffering l) = (removeStepEntries w s).buffering l := by
  simp only [removeStepEntries, State.buffering_test, State.buffering_tenant, State.buffering_withTenant,
    State.buffering_withTest, drainIfEmpty_buffering]
  split <;> rfl

@[simp] theorem closeStep_buffering (w : Working) (v : Verdict) (r : EndReason) (s : State) (l : List Buffered) :
    closeStep w v r (s.buffering l) = (closeStep w v r s).buffering l := by
  have unforced : (if w.step.body.forces.isSome then removeForce (s.buffering l) else s.buffering l) =
      (if w.step.body.forces.isSome then removeForce s else s).buffering l := by
    split
    · exact removeForce_buffering s l
    · rfl
  simp only [closeStep, unforced, removeStepEntries_buffering, State.buffering_test, State.buffering_withTest,
    raiseTest_buffering]

@[simp] theorem skipRest_buffering (i : Nat) (r : EndReason) (s : State) (l : List Buffered) :
    skipRest i r (s.buffering l) = (skipRest i r s).buffering l := rfl

@[simp] theorem finishRun_buffering (a : Bool) (s : State) (l : List Buffered) :
    finishRun a (s.buffering l) = (finishRun a s).buffering l := by
  unfold finishRun
  exact raiseTest_buffering .runEnd (s.withTest _) l

/-- A step starts, or is refused, alike with any buffer. -/
theorem beginStep_buffering (w : Working) (s : State) (l : List Buffered) :
    beginStep w (s.buffering l) = ((beginStep w s).1.buffering l, (beginStep w s).2) := by
  have holds (c : WaitCond) : (s.buffering l).holds c = s.holds c := by cases c <;> rfl
  have cross : (s.buffering l).crossReady = s.crossReady := rfl
  simp only [beginStep, holds, cross, State.buffering_link, State.buffering_role, State.buffering_tenant,
    State.buffering_withWork, setForce_buffering, inject_buffering]
  repeat' split
  all_goals rfl

theorem startStep_buffering (i : Nat) (s : State) (l : List Buffered) :
    startStep i (s.buffering l) = ((startStep i s).1.buffering l, (startStep i s).2) := by
  simp only [startStep, State.buffering_test]
  split
  · rfl
  · exact beginStep_buffering _ s l

theorem endStepFor_buffering (n : Nat) : ∀ v r (s : State) (l : List Buffered),
    endStepFor n v r (s.buffering l) = (endStepFor n v r s).buffering l := by
  induction n with
  | zero => exact fun _ _ _ _ => rfl
  | succ n ih =>
    intro v r s l
    simp only [endStepFor, State.buffering_test, closeStep_buffering, skipRest_buffering, finishRun_buffering,
      startStep_buffering]
    split
    · rfl
    · next w _ =>
      split
      · rfl
      · split
        · rfl
        · cases h : startStep (w.index + 1) (closeStep w v r s) with
          | mk t e =>
            cases e with
            | none => rfl
            | some x => exact ih x.1 x.2 t l

@[simp] theorem endStep_buffering (v : Verdict) (r : EndReason) (s : State) (l : List Buffered) :
    endStep v r (s.buffering l) = (endStep v r s).buffering l := by
  simp only [endStep, State.buffering_test, endStepFor_buffering]
  split <;> rfl

@[simp] theorem stepTenantLeft_buffering (x : Tenant) (s : State) (l : List Buffered) :
    stepTenantLeft x (s.buffering l) = (stepTenantLeft x s).buffering l := by
  simp only [stepTenantLeft, State.buffering_test, endStep_buffering]
  repeat' split
  all_goals rfl

@[simp] theorem stepWatch_buffering (s : State) (l : List Buffered) :
    stepWatch (s.buffering l) = (stepWatch s).buffering l := by
  have holds (c : WaitCond) : (s.buffering l).holds c = s.holds c := by cases c <;> rfl
  have cross : (s.buffering l).crossReady = s.crossReady := rfl
  simp only [stepWatch, holds, cross, State.buffering_test, endStep_buffering]
  repeat' split
  all_goals rfl

/-! ## Requests -/

@[simp] theorem drain_buffering (x : Tenant) (s : State) (l : List Buffered) :
    drain x (s.buffering l) = (drain x s).buffering l := by
  simp only [drain, State.buffering_tenant, State.buffering_withTenant, raiseTenant_buffering, stepTenantLeft_buffering]
  split <;> rfl

@[simp] theorem takeTenantRecord_buffering (x : Tenant) (r : TenantRecord) (c : TenantCause) (s : State)
    (l : List Buffered) : takeTenantRecord x r c (s.buffering l) = (takeTenantRecord x r c s).buffering l := by
  simp only [takeTenantRecord, State.buffering_tenant, State.buffering_withTenant, raiseTenant_buffering]
  split <;> rfl

@[simp] theorem takeTimingRecord_buffering (r : TimingRecord) (s : State) (l : List Buffered) :
    takeTimingRecord r (s.buffering l) = (takeTimingRecord r s).buffering l := by
  simp only [takeTimingRecord, timingEvent, State.buffering_timing, State.buffering_role, State.buffering_withTiming,
    raiseTiming_buffering, stepWatch_buffering]

@[simp] theorem timingLoaded_buffering (v : Settings) (s : State) (l : List Buffered) :
    (s.buffering l).timingLoaded v = (s.timingLoaded v).buffering l := by
  simp only [State.timingLoaded, State.buffering_ladder, State.buffering_planner, State.buffering_withLadder,
    State.buffering_withPlanner, takeTimingRecord_buffering]

@[simp] theorem applySettings_buffering (v : Settings) (s : State) (l : List Buffered) :
    applySettings v (s.buffering l) = (applySettings v s).buffering l := by
  rw [applySettings_eq, applySettings_eq, timingLoaded_buffering, State.buffering_test, State.buffering_withTest]
  exact Unbuffered.foldl (f := fun s t => takeTenantRecord t (v.tenants.get t) .loaded s)
    (fun x s l => takeTenantRecord_buffering x _ _ s l) Tenant.all _ l

/-- What a frame asks is done alike with any buffer, and answered alike. -/
def Incoming.unbuffered (w : Incoming) : Prop :=
  ∀ s l, answer w (s.buffering l) = ((answer w s).1.buffering l, (answer w s).2)

theorem unknownKind_unbuffered : Incoming.unknownKind.unbuffered := fun _ _ => rfl

theorem tenantDrain_unbuffered (i : Nat) : (Incoming.request (.tenantDrain i)).unbuffered := by
  intro s l
  change doTenantDrain i (s.buffering l) = ((doTenantDrain i s).1.buffering l, (doTenantDrain i s).2)
  simp only [doTenantDrain, State.buffering_tenant, drain_buffering]
  repeat' split
  all_goals rfl

theorem setRole_unbuffered (r : Option Role) : (Incoming.request (.setRole r)).unbuffered := by
  intro s l
  change doSetRole r (s.buffering l) = ((doSetRole r s).1.buffering l, (doSetRole r s).2)
  simp only [doSetRole, State.buffering_role]
  repeat' split
  all_goals rfl

theorem reset_unbuffered (o : Option ResetOption) : (Incoming.request (.reset o)).unbuffered := by
  intro s l
  change doReset o (s.buffering l) = ((doReset o s).1.buffering l, (doReset o s).2)
  cases o <;> rfl

theorem timeSet_unbuffered (sec : BitVec 48) : (Incoming.request (.timeSet sec)).unbuffered := by
  intro s l
  change doTimeSet sec (s.buffering l) = ((doTimeSet sec s).1.buffering l, (doTimeSet sec s).2)
  by_cases refused : s.role = some .trailer ∧ s.timing.servo.selected = some .link
  · exact (if_pos refused).trans (by rw [doTimeSet, if_pos refused])
  · exact (if_neg refused).trans (by rw [doTimeSet, if_neg refused]; rfl)

theorem storeLoad_unbuffered (i : Nat) : (Incoming.request (.storeLoad i)).unbuffered := by
  intro s l
  change doStoreLoad i (s.buffering l) = ((doStoreLoad i s).1.buffering l, (doStoreLoad i s).2)
  by_cases high : 3 < i
  · rw [doStoreLoad, doStoreLoad, if_pos high, if_pos high]
  have low : i ≤ 3 := Nat.le_of_not_lt high
  cases op : s.store.op with
  | some o =>
    have busy : s.store.op.isSome = true := by rw [op]; rfl
    rw [doStoreLoad_busy low busy, doStoreLoad_busy (s := s.buffering l) low busy]
  | none =>
    by_cases served : s.inService = []
    · cases valid : (s.store.plan.at i).valid with
      | true =>
        rw [doStoreLoad_taken low op served valid, doStoreLoad_taken (s := s.buffering l) low op served valid,
          State.buffering_store, applySettings_buffering, raiseStore_buffering]
      | false =>
        rw [doStoreLoad_invalid low op served valid, doStoreLoad_invalid (s := s.buffering l) low op served valid]
    · rw [doStoreLoad_served low op served, doStoreLoad_served (s := s.buffering l) low op served]
      rfl

end Sys2Proof.Machine
end

section
/-! PROOF. The end of a frame on the outgoing line (R170, R172 to R174). -/

namespace Sys2Proof.Machine

/-! ## The highest notice (R173) -/

@[simp] theorem NoticeSlots.get_put_same (n : NoticeSlots) (k : NoticeKind) (p : Option PendingNotice) :
    (n.put k p).get k = p := by
  cases k
  case tenant x => exact Quad.get_set_same _ _ _
  all_goals rfl

theorem NoticeSlots.get_put_other (n : NoticeSlots) {k j : NoticeKind} (p : Option PendingNotice) (h : j ≠ k) :
    (n.put k p).get j = n.get j := by
  cases k
  case tenant x =>
    cases j
    case tenant y => exact Quad.get_set_other _ _ _ _ fun e => h (e ▸ rfl)
    all_goals rfl
  all_goals
    cases j
    all_goals first | rfl | exact absurd rfl h

theorem highest_none {n : NoticeSlots} (h : ∀ k, n.get k = none) : n.highest = none := by
  rw [NoticeSlots.highest, List.findSome?_eq_none_iff]
  exact fun k _ => by rw [h]; rfl

/-- The highest notice is the first of the order that is pending. -/
theorem highest_first {n : NoticeSlots} {before later : List NoticeKind} {k : NoticeKind} {p : PendingNotice}
    (order : noticePriority = before ++ k :: later) (clear : ∀ j ∈ before, n.get j = none) (pending : n.get k = some p) :
    n.highest = some (k, p) := by
  have none' : before.findSome? (fun j => (n.get j).map fun q => (j, q)) = none :=
    List.findSome?_eq_none_iff.mpr fun j m => by rw [clear j m]; rfl
  rw [NoticeSlots.highest, order, List.findSome?_append, none', Option.none_or, List.findSome?_cons, pending]
  rfl

/-! ## The frame on the line ends (R172) -/

/-- The end of the reply to a RESET is the reset of its option (R174). -/
theorem exec_outgoingFrameEnd_reset {s : State} {o : ResetOption} (due : s.port.resetDue = some o) :
    exec .outgoingFrameEnd s = .next (announce (commandResetOf o s)) := by
  refine congrArg (fun u => Host.Outcome.next (announce u)) ?_
  rw [outgoingEnds, due, commandResetOf, if_pos due]

section
variable {s : State} (busy : s.port.line ≠ none)
include busy

theorem freeForNotice_busy : s.port.freeForNotice = false := by
  rw [Port.freeForNotice, Bool.and_eq_false_iff]
  exact .inl (Option.isNone_eq_false_iff.mpr (Option.isSome_iff_ne_none.mpr busy))

/-- Where no reset is due, the end of the frame serves the free line. -/
theorem exec_outgoingFrameEnd (due : s.port.resetDue = none) : exec .outgoingFrameEnd s =
    .next (announce (serve (s.withPort { s.port with line := none }))) := by
  refine congrArg (fun u => Host.Outcome.next (announce u)) ?_
  rw [outgoingEnds, due]
  exact if_pos (Option.isSome_iff_ne_none.mpr busy)

/-- A waiting reply begins, and what can be taken behind it is (R170, R172). -/
theorem exec_outgoingFrameEnd_reply {r : Reply} (reply : s.port.reply = some r) : exec .outgoingFrameEnd s =
    .next (announce (takeRequest (s.withPort { s.port with line := some (.reply r), reply := none }))) := by
  have due : s.port.resetDue = none := by rw [Port.resetDue, reply]; rfl
  have held : takeRequest (s.withPort { s.port with line := none }) = s.withPort { s.port with line := none } :=
    takeRequest_held (.inl (by rw [State.withPort_port, reply]; rfl))
  have begun : ({ s.port with line := none } : Port).beginReply = { s.port with line := some (.reply r), reply := none } := by
    simp only [Port.beginReply, reply]
  rw [exec_outgoingFrameEnd busy due, serve, held]
  simp only [State.withPort_port, State.withPort_twice, begun]

/-- Without a reply in waiting and a RESET under way, the line is free for a notice (R172). -/
theorem exec_outgoingFrameEnd_notice (reply : s.port.reply = none) (reset : s.port.resetPending = none)
    (empty : s.port.buffer = []) : exec .outgoingFrameEnd s =
    .next (s.withPort ({ s.port with line := none } : Port).sendNotice) := by
  have due : s.port.resetDue = none := by rw [Port.resetDue, reset]; exact ite_self none
  have nothing : takeRequest (s.withPort { s.port with line := none }) = s.withPort { s.port with line := none } := by
    simp [takeRequest, empty]
  have still : ({ s.port with line := none } : Port).beginReply = { s.port with line := none } := by
    simp only [Port.beginReply, reply]
  rw [exec_outgoingFrameEnd busy due, serve, nothing]
  simp only [State.withPort_port, State.withPort_twice, still, nothing]
  refine congrArg Host.Outcome.next (if_pos ?_)
  rw [Port.freeForNotice, State.withPort_port, reply]
  rfl

/-- The row of another option is nothing (R174). -/
theorem announce_commandResetOf_other {o : ResetOption} (other : s.port.resetDue ≠ some o) :
    announce (commandResetOf o s) = s := by
  rw [commandResetOf, if_neg other]
  exact announce_busy s (freeForNotice_busy busy)

end

theorem resetDue_some {p : Port} {o : ResetOption} (reply : p.reply = none) (reset : p.resetPending = some o) :
    p.resetDue = some o := by
  rw [Port.resetDue, reply, reset]
  rfl

theorem resetDue_none {p : Port} (h : p.reply.isSome = true ∨ p.resetPending = none) : p.resetDue = none := by
  unfold Port.resetDue
  split
  · next none' => exact h.resolve_left (by simpa using none')
  · rfl

/-! ## A request taken behind a reply (R170) -/

/-- A frame at a port with a busy line where no request and no reply waits is completed at once. -/
theorem offerFrame_taken (b : Buffered) {s : State} (free : s.requestFree) (busy : s.port.line ≠ none) :
    announce (offerFrame b s) = completeRequest b s := by
  rw [offerFrame_free b s free]
  cases line : s.port.line with
  | none => exact absurd line busy
  | some f => rfl

/-- A request is completed alike with any frames behind it. -/
theorem completeRequest_buffering {b : Buffered} (h : b.what.unbuffered) (s : State) (l : List Buffered) :
    completeRequest b (s.buffering l) = (completeRequest b s).buffering l := by
  have e : (s.buffering l).withPort ((s.buffering l).port.reserve b.kind b.tag) =
      (s.withPort (s.port.reserve b.kind b.tag)).buffering l := rfl
  have answered := h (s.withPort (s.port.reserve b.kind b.tag)) l
  unfold completeRequest
  rw [e, answered]
  rfl

/-- What is taken behind a reply is the request of that row on the line as it then is. -/
theorem completeRequest_behind {b : Buffered} (h : b.what.unbuffered) {s : State} (free : s.requestFree)
    (busy : s.port.line ≠ none) (l : List Buffered) :
    announce (offerFrame b s) = (completeRequest b (s.buffering l)).buffering [] := by
  have empty : (completeRequest b s).port.buffer = [] := (completeRequest_port b s).1.trans free.2.2
  rw [offerFrame_taken b free busy, completeRequest_buffering h]
  exact (State.buffering_same (s := completeRequest b s) empty).symm

/-- The same for a request of a listed kind. -/
theorem requestFrame_behind {b : Buffered} {r : Request} (kind : b.kind = BitVec.ofNat 8 r.kind) (what : b.what = .request r)
    (h : (Incoming.request r).unbuffered) {s : State} (free : s.requestFree) (busy : s.port.line ≠ none)
    (l : List Buffered) : requestFrame b.tag r s = (completeRequest b (s.buffering l)).buffering [] := by
  rw [← completeRequest_behind (what ▸ h) free busy, requestFrame, ← kind, ← what]

/-- Settles O45: the end of a frame serves a free line; what is taken behind a reply does not read the buffer. -/
theorem lineSendsReplyThenHighestNotice : Obligations.LineSendsReplyThenHighestNotice := by
  refine ⟨fun s f line empty => ?_, fun s f line => ?_, fun s f r b rest line reply queued => ?_⟩
  all_goals have busy : s.port.line ≠ none := by rw [line]; exact Option.some_ne_none f
  · refine ⟨fun r reply => ?_, fun reply reset clear => ?_, fun before k later n reply reset order clear pending => ?_⟩
    · rw [exec_outgoingFrameEnd_reply busy reply]
      have nothing : takeRequest (s.withPort { s.port with line := some (.reply r), reply := none }) =
          s.withPort { s.port with line := some (.reply r), reply := none } := by simp [takeRequest, empty]
      rw [nothing]
      exact congrArg Host.Outcome.next (announce_busy _ rfl)
    · rw [exec_outgoingFrameEnd_notice busy reply reset empty, Port.sendNotice, highest_none clear]
    · rw [exec_outgoingFrameEnd_notice busy reply reset empty, Port.sendNotice, highest_first order clear pending]
      exact ⟨_, rfl, rfl, NoticeSlots.get_put_same _ k none, fun j other => NoticeSlots.get_put_other _ none other, rfl⟩
  · refine ⟨fun reply reset => ?_, fun reply reset => ?_, fun none' => ?_⟩
    · have due := resetDue_some reply reset
      exact ⟨exec_outgoingFrameEnd_reset due,
        congrArg Host.Outcome.next (announce_commandResetOf_other busy (by rw [due]; decide))⟩
    · have due := resetDue_some reply reset
      exact ⟨exec_outgoingFrameEnd_reset due,
        congrArg Host.Outcome.next (announce_commandResetOf_other busy (by rw [due]; decide))⟩
    · have due := resetDue_none none'
      exact ⟨congrArg Host.Outcome.next (announce_commandResetOf_other busy (by rw [due]; decide)),
        congrArg Host.Outcome.next (announce_commandResetOf_other busy (by rw [due]; decide))⟩
  · intro begun
    rw [exec_outgoingFrameEnd_reply busy reply]
    have waiting : s.withPort { s.port with line := some (.reply r), reply := none } = begun.buffering (b :: rest) := by
      rw [← queued]
      rfl
    rw [waiting]
    refine ⟨fun reset => ?_, fun reset => ?_⟩
    · rw [takeRequest_held (s := begun.buffering (b :: rest)) (.inr (Option.isSome_iff_ne_none.mpr reset))]
      exact congrArg Host.Outcome.next (announce_busy _ rfl)
    · have taken : takeRequest (begun.buffering (b :: rest)) = completeRequest b (begun.buffering rest) := by
        simp only [takeRequest, State.buffering, State.withPort_port, begun, reset]
        rfl
      have free : begun.requestFree := ⟨rfl, reset, rfl⟩
      have sending : begun.port.line ≠ none := Option.some_ne_none _
      obtain ⟨buffer, -, on⟩ := completeRequest_port b (begun.buffering rest)
      have behind {q : Request} (kind : b.kind = BitVec.ofNat 8 q.kind) (what : b.what = .request q)
          (h : (Incoming.request q).unbuffered) : Host.Outcome.next (requestFrame b.tag q begun) =
          (.next ((completeRequest b (begun.buffering rest)).buffering []) : Host.Outcome State Fault Refusal) :=
        congrArg Host.Outcome.next (requestFrame_behind kind what h free sending rest)
      rw [taken]
      refine ⟨completeRequest b (begun.buffering rest), congrArg Host.Outcome.next (announce_busy _ ?_), on, buffer,
        ⟨_, _, rfl⟩, fun what => ?_, fun index kind what => behind kind what (tenantDrain_unbuffered index),
        fun role kind what => behind kind what (setRole_unbuffered role), fun o kind what => ⟨?_, ?_, ?_⟩,
        fun slot kind what => behind kind what (storeLoad_unbuffered slot),
        fun sec kind what => behind kind what (timeSet_unbuffered sec)⟩
      · exact freeForNotice_busy (by rw [on]; exact sending)
      · have same : (⟨b.kind, b.tag, .unknownKind⟩ : Buffered) = b := by rw [← what]
        have done := completeRequest_behind (b := b) (what.symm ▸ unknownKind_unbuffered) free sending rest
        exact congrArg Host.Outcome.next ((congrArg (fun x => announce (offerFrame x begun)) same).trans done)
      · rw [completeRequest, what]
        rfl
      · rintro rfl
        exact behind kind what (reset_unbuffered _)
      · rintro rfl
        exact behind kind what (reset_unbuffered _)

end Sys2Proof.Machine
end
